-- ==== Sys2Proof/Word.lean ====
section
/-! DEFINITION. The one word type of this hardware: the byte of a frame on the serial line. -/

namespace Sys2Proof

/-- One byte of a frame on the line (R172: eight data bits). Everything else the PX3 holds is a count, a
temperature or a name, and is modelled as one. -/
abbrev Byte := BitVec 8

end Sys2Proof
end

