-- ==== Sys2Proof/Syntax.lean ====
section
/-! DEFINITION. The commands of the PX3, one constructor per row of spec/opcode_table.json, with the types of
their operands. A command is an event of one of the part's blocks or a frame that has ended on the line. -/

namespace Sys2Proof

/-- An oven cavity, numbered 0, 1 or 2. -/
inductive Cavity where
  | c0 | c1 | c2
deriving DecidableEq, Repr

/-- The number of a cavity. -/
def Cavity.num : Cavity → Nat
  | .c0 => 0
  | .c1 => 1
  | .c2 => 2

/-- The cavities in rising number. -/
def Cavity.all : List Cavity := [.c0, .c1, .c2]

/-- One value for each cavity. -/
structure PerCavity (α : Type) where
  c0 : α
  c1 : α
  c2 : α
deriving DecidableEq, Repr

/-- The same value for every cavity. -/
def PerCavity.all {α : Type} (a : α) : PerCavity α := ⟨a, a, a⟩

/-- The value of one cavity. -/
def PerCavity.get {α : Type} (p : PerCavity α) : Cavity → α
  | .c0 => p.c0
  | .c1 => p.c1
  | .c2 => p.c2

/-- Replace the value of one cavity. -/
def PerCavity.set {α : Type} (p : PerCavity α) (c : Cavity) (a : α) : PerCavity α :=
  match c with
  | .c0 => { p with c0 := a }
  | .c1 => { p with c1 := a }
  | .c2 => { p with c2 := a }

/-- Work a function on every cavity's value, the cavity given with it. -/
def PerCavity.map {α β : Type} (p : PerCavity α) (f : Cavity → α → β) : PerCavity β :=
  ⟨f .c0 p.c0, f .c1 p.c1, f .c2 p.c2⟩

/-- A door switch (R124). -/
inductive DoorSwitch where
  | closed | opened
deriving DecidableEq, Repr

/-- A lock switch (R124). -/
inductive LockSwitch where
  | unlocked | locked
deriving DecidableEq, Repr

/-- A thermal cut-out's sense input: CLOSED (intact) or OPEN (tripped) (R156). -/
inductive Cutout where
  | closed | opened
deriving DecidableEq, Repr

/-- The raw switch and cut-out inputs of one cavity. -/
structure SwitchPins where
  door   : DoorSwitch
  lock   : LockSwitch
  cutout : Cutout
deriving DecidableEq, Repr

/-- What the strap pins and the raw switch inputs read at power-up (R141, R171, R172). -/
structure PowerUpPins where
  addr1 : Bool
  addr0 : Bool
  cavity : PerCavity SwitchPins
deriving DecidableEq, Repr

/-- The resistances of one cavity's two probes, in 0.1 Ω. -/
structure ProbeSamples where
  cavity   : Nat
  catalyst : Nat
deriving DecidableEq, Repr

/-- The resistances across the probes and the reference resistor at one sample instant, in 0.1 Ω (R1). -/
structure Samples where
  probes    : PerCavity ProbeSamples
  reference : Nat
deriving DecidableEq, Repr

/-- How a request frame came: addressed to this node or broadcast, and bit 7 of its KIND (R175). -/
structure Header where
  broadcast : Bool
  posted    : Bool
deriving DecidableEq, Repr

/-- One character of the line: its byte, its address marker and whether its stop bit was low (R172). -/
structure LineChar where
  byte         : Byte
  marker       : Bool
  framingError : Bool
deriving DecidableEq, Repr

/-- The commands: one constructor per row of the table, in the table's order. A request's operands are the
frame's header and its payload bytes: the command is the end of that valid frame (R175). -/
inductive Instr where
  /-- POWER_UP (R185): supply applied or RESET, with what the straps and raw switch inputs then read. -/
  | powerUp (pins : PowerUpPins)
  /-- SAMPLE_INSTANT (R1): one sample of each resistive input. -/
  | sampleInstant (samples : Samples)
  /-- WHOLE_SECOND_READING (R3): a whole second, with the figure the on-die board sensor gives. -/
  | wholeSecondReading (board : Int)
  /-- SEQUENCER_CAVITY_READING (R45). -/
  | sequencerCavityReading (c : Cavity)
  /-- REGULATE_REQUEST (R78). -/
  | regulateRequest (c : Cavity)
  /-- OFF_REQUEST (R66). -/
  | offRequest (c : Cavity)
  /-- HEAT_COMPLETE_NOTICE (R46). -/
  | heatCompleteNotice (c : Cavity)
  /-- LOCK_NOTICE (R135). -/
  | lockNotice (c : Cavity)
  /-- TRIP_NOTICE (R58). -/
  | tripNotice (c : Cavity)
  /-- SLOT_EVENT (R100). -/
  | slotEvent
  /-- GRANT_WITHDRAW_NOTICE (R103). -/
  | grantWithdrawNotice (c : Cavity)
  /-- SENSE_CHECK (R120): bit n of the operand is load-sense input n, 1 for current. -/
  | senseCheck (loads : BitVec 12)
  /-- DOOR_CHANGE (R124): the debounced door switch takes this value. -/
  | doorChange (c : Cavity) (value : DoorSwitch)
  /-- LOCK_SWITCH_CHANGE (R124): the debounced lock switch takes this value. -/
  | lockSwitchChange (c : Cavity) (value : LockSwitch)
  /-- ENGAGE_TRAVEL_TIMEOUT (R128). -/
  | engageTravelTimeout (c : Cavity)
  /-- RELEASE_TRAVEL_TIMEOUT (R130). -/
  | releaseTravelTimeout (c : Cavity)
  /-- REVERSAL_TIME_REACHED (R130). -/
  | reversalTimeReached (c : Cavity)
  /-- CUTOUT_CHANGE (R160): the debounced cut-out input takes this value. -/
  | cutoutChange (c : Cavity) (value : Cutout)
  /-- SUPERVISOR_CAVITY_READING (R159). -/
  | supervisorCavityReading (c : Cavity)
  /-- SUPERVISOR_BOARD_READING (R161). -/
  | supervisorBoardReading
  /-- SUPPLY_RELAY_CLOSED (R160). -/
  | supplyRelayClosed (c : Cavity)
  /-- FAN_CAVITY_READING (R143). -/
  | fanCavityReading (c : Cavity)
  /-- FAN_BOARD_READING (R143). -/
  | fanBoardReading
  /-- FAN_EVALUATION (R150). -/
  | fanEvaluation
  /-- IDENTIFY (R183). -/
  | identify (h : Header) (payload : List Byte)
  /-- READ_STATUS (R184). -/
  | readStatus (h : Header) (payload : List Byte)
  /-- READ_EVENTS (R181). -/
  | readEvents (h : Header) (payload : List Byte)
  /-- SET_ATTENTION (R182). -/
  | setAttention (h : Header) (payload : List Byte)
  /-- APPLIANCE_PROFILE (R189), with what the raw switch inputs read when it is taken (R139, R170). -/
  | applianceProfile (h : Header) (payload : List Byte) (pins : PerCavity SwitchPins)
  /-- CAVITY_PROFILE (R191). -/
  | cavityProfile (h : Header) (payload : List Byte)
  /-- READ_PROFILE (R193). -/
  | readProfile (h : Header) (payload : List Byte)
  /-- WRITE_PHASE (R21). -/
  | writePhase (h : Header) (payload : List Byte)
  /-- READ_PHASE (R24). -/
  | readPhase (h : Header) (payload : List Byte)
  /-- ERASE_PHASE (R23). -/
  | erasePhase (h : Header) (payload : List Byte)
  /-- START_CYCLE (R39). -/
  | startCycle (h : Header) (payload : List Byte)
  /-- START_INLINE (R31). -/
  | startInline (h : Header) (payload : List Byte)
  /-- ABORT_CYCLE (R53). -/
  | abortCycle (h : Header) (payload : List Byte)
  /-- LOCK_DOOR (R136). -/
  | lockDoor (h : Header) (payload : List Byte)
  /-- UNLOCK_DOOR (R137). -/
  | unlockDoor (h : Header) (payload : List Byte)
  /-- SET_SUPPLY (R83). -/
  | setSupply (h : Header) (payload : List Byte)
  /-- DECLARE_LOAD (R84). -/
  | declareLoad (h : Header) (payload : List Byte)
  /-- SET_FAN_FLOOR (R151). -/
  | setFanFloor (h : Header) (payload : List Byte)
  /-- CLEAR_TRIP (R165). -/
  | clearTrip (h : Header) (payload : List Byte)
  /-- READ_TRIP (R168). -/
  | readTrip (h : Header) (payload : List Byte)
  /-- READ_SENSOR (R17). -/
  | readSensor (h : Header) (payload : List Byte)
  /-- UNKNOWN_KIND (R175): a valid frame whose kind code is not a request kind. -/
  | unknownKind (h : Header) (code : BitVec 7) (payload : List Byte)
  /-- FRAME_DISCARDED (R173): the characters of a frame that the receiver discards. -/
  | frameDiscarded (chars : List LineChar)
  /-- FRAME_FOR_OTHER_NODE (R173): the characters of a frame for another node, or of a reply. -/
  | frameForOtherNode (chars : List LineChar)
  /-- CHARACTER_GAP_TIMEOUT (R173). -/
  | characterGapTimeout
  /-- FRAME_WHILE_REPLY_OWED (R176): a valid frame ends while a reply is owed. -/
  | frameWhileReplyOwed (h : Header) (code : BitVec 7) (payload : List Byte)
  /-- REPLY_COMPLETE (R176). -/
  | replyComplete
  /-- QUIET_TIMEOUT (R178). -/
  | quietTimeout
  /-- BREAK (R179). -/
  | lineBreak
  /-- TACH_PULSE (R146). -/
  | tachPulse
  /-- LINE_RETURN_HIGH (R179). -/
  | lineReturnHigh
deriving DecidableEq, Repr

end Sys2Proof
end

