-- ==== Sys2Proof/Config.lean ====
section
/-! DEFINITION. What the reference leaves open (free values) and the constants a log entry names. -/

namespace Sys2Proof

/-- FREE VALUE (log entry 4). The value that a 32-bit counter of the part (uptime, window number, cycle
elapsed) takes after 2^32 - 1: the reference gives each of them the range 0 to 2^32 - 1 and does not say
what follows its end. It has no body, so nothing can be proved of it; it is applied to State's counter
`free`, so that each use is a fresh value. -/
opaque Config.afterLastCount : Nat → Nat

end Sys2Proof
end

