-- ==== Sys2Proof/Machine/State.lean ====
section
/-! DEFINITION. The state of the PX3: every register, record, queue, counter and output that the reference gives
its blocks, as plain data, and the state right after reset. Each block's structure stands under its chapter. -/

namespace Sys2Proof.Machine

/-! ## Elements and phase records (Phase Records and Chains) -/

/-- The logical elements of a cavity, in rank order (R92). -/
inductive Element where
  | upper | lower | ring | grill
deriving DecidableEq, Repr

/-- A set of logical elements. -/
structure ElementSet where
  upper : Bool
  lower : Bool
  ring  : Bool
  grill : Bool
deriving DecidableEq, Repr

/-- One value for each element of a cavity. -/
structure PerElement (α : Type) where
  upper : α
  lower : α
  ring  : α
  grill : α
deriving DecidableEq, Repr

/-- An element of a given cavity. -/
abbrev CavityElement := Cavity × Element

/-- The kinds of a written phase record (R19). -/
inductive PhaseKind where
  | heat | soak | cool | dwell
deriving DecidableEq, Repr

/-- The tiers (R92). -/
inductive Tier where
  | one | two
deriving DecidableEq, Repr

/-- What a limit run out does (R50). -/
inductive OnLimit where
  | advance | abort
deriving DecidableEq, Repr

/-- A phase record (R19, the field table). A `next` of `none` is END. -/
structure PhaseRecord where
  kind       : PhaseKind
  target     : Option Int
  ramp       : Option Nat
  duration   : Option Nat
  limit      : Option Nat
  onLimit    : OnLimit
  elements   : ElementSet
  convection : Bool
  fanFloor   : Nat
  locked     : Bool
  tier       : Tier
  gate       : Option Int
  next       : Option Nat
deriving DecidableEq, Repr

/-! ## The Sensor Scanner (Temperature Sensing) -/

/-- The validity grade of a probe channel (R11). -/
inductive ChannelState where
  | unknown | valid | suspect | fault
deriving DecidableEq, Repr

/-- The record of a probe channel (R1, R3, R11, R12, R18). `samples` is the sample store; `raw`, `count`, `valid`
and `formedAt` are those of the last reading formed, and `shift` is the filter shift in use at it (R17); `t` and `tf` are
the temperatures delivered. -/
structure Channel where
  state      : ChannelState
  invalidRun : Nat
  validRun   : Nat
  held       : Option (Int × Int)
  f16        : Int
  samples    : List Nat
  raw        : Option Nat
  count      : Option Nat
  valid      : Option Bool
  t          : Option Int
  tf         : Option Int
  shift      : Option Nat
  formedAt   : Option Nat
deriving DecidableEq, Repr

/-- A cavity's two probe channels. -/
structure ProbePair where
  cavity   : Channel
  catalyst : Channel
deriving DecidableEq, Repr

/-- The reference state (R4). -/
inductive RefState where
  | ok | fault
deriving DecidableEq, Repr

/-- The REF channel with its run counts (R4). -/
structure RefChannel where
  state     : RefState
  badCount  : Nat
  goodCount : Nat
  samples   : List Nat
  raw       : Option Nat
  count     : Option Nat
  good      : Option Bool
  formedAt  : Option Nat
deriving DecidableEq, Repr

/-- A cavity reading (R14). -/
structure CavityReading where
  uptime        : Nat
  probe         : ChannelState
  probeT        : Option Int
  probeTf       : Option Int
  catalyst      : ChannelState
  catalystT     : Option Int
  catalystTf    : Option Int
deriving DecidableEq, Repr

/-- The Sensor Scanner. `latest` is the latest cavity reading delivered for each cavity. -/
structure Scanner where
  probes  : PerCavity ProbePair
  ref     : RefChannel
  board   : Option Int
  boardAt : Option Nat
  latest  : PerCavity (Option CavityReading)
deriving DecidableEq, Repr

/-! ## The Cavity Sequencer -/

/-- The cycle states. -/
inductive SeqState where
  | absent | idle | locking | running | settling | faulted | recovering
deriving DecidableEq, Repr

/-- How a cycle ended (R36). -/
inductive CycleOutcome where
  | done | aborted | tripped | recovered
deriving DecidableEq, Repr

/-- Why a cycle was aborted (R52). -/
inductive AbortReason where
  | request | phaseTimeout | doorOpened
deriving DecidableEq, Repr

/-- A Cavity Sequencer: its state, its cycle context (R36) and the cavity's bound standing (R37). -/
structure Sequencer where
  state        : SeqState
  chain        : List Nat
  position     : Nat
  current      : Option (Nat × PhaseKind)
  phaseElapsed : Nat
  soakProgress : Nat
  blindCool    : Nat
  cycleElapsed : Nat
  completed    : Nat
  lockOwned    : Bool
  newPhase     : Bool
  outcome      : Option CycleOutcome
  abortReason  : Option AbortReason
  bound        : Bool
deriving DecidableEq, Repr

/-! ## The Regulation Unit -/

/-- A regulation context (R65). -/
structure Regulation where
  s60        : Option Nat
  iAcc       : Nat
  u          : Nat
  heatSent   : Bool
  capInForce : Bool
deriving DecidableEq, Repr

/-- The mode of a regulation request (R44). -/
inductive RegMode where
  | regulate | off
deriving DecidableEq, Repr

/-- A regulation request (R44). The cavity it names is the one whose mailbox holds it. -/
structure RegRequest where
  mode       : RegMode
  kind       : Option PhaseKind
  position   : Nat
  newPhase   : Bool
  target     : Option Int
  ramp       : Option Nat
  tf         : Option Int
  probe      : ChannelState
  catalyst   : ChannelState
  catalystTf : Option Int
  gate       : Option Int
deriving DecidableEq, Repr

/-! ## The Power Allocator -/

/-- A demand table entry (R87). -/
structure DemandEntry where
  u        : Nat
  elements : ElementSet
  tier     : Tier
  withdraw : Bool
deriving DecidableEq, Repr

/-- A request record (R89); its cavity and element are its place in the request table. -/
structure RequestRecord where
  output   : Nat
  watts    : Nat
  q        : Nat
  g        : Nat
  deferral : Nat
  overdue  : Bool
  held     : Bool
deriving DecidableEq, Repr

/-- An entry of the tier-1 ring: a cavity or the TIER-2 marker (R92). -/
inductive RingEntry where
  | cavity (c : Cavity)
  | marker
deriving DecidableEq, Repr

/-- The Power Allocator. `started` is clear until the first slot event after power-up (R88). -/
structure Allocator where
  supply       : Nat
  declared     : Nat
  available    : Nat
  demand       : PerCavity DemandEntry
  requests     : PerCavity (PerElement (Option RequestRecord))
  tier1        : List RingEntry
  tier2        : List Cavity
  grants       : List CavityElement
  window       : Nat
  slot         : Nat
  started      : Bool
  powerLimited : PerCavity Bool
deriving DecidableEq, Repr

/-! ## The Element Drive -/

/-- What a load-sense input reported (R109). -/
inductive Sense where
  | current | none
deriving DecidableEq, Repr

/-- An output record (R109). `owner` is `none` while unmapped. -/
structure OutputRecord where
  owner      : Option CavityElement
  rating     : Option Nat
  drive      : Bool
  sense      : Option Sense
  missCount  : Nat
  stuckCount : Nat
  dead       : Bool
  stuck      : Bool
deriving DecidableEq, Repr

/-- A moment of uptime, to a tenth of a second. -/
structure Moment where
  uptime : Nat
  tenths : Nat
deriving DecidableEq, Repr

/-- A supply relay: CLOSED exactly while it has a closing instant (R112). `sinceSlot` says that it stood closed when
the current slot event was taken and has not opened since (R114). (DEDUCED, log entry 28.) -/
structure SupplyRelay where
  closedAt  : Option Moment
  sinceSlot : Bool
deriving DecidableEq, Repr

/-- The Element Drive. `handed` is the slot grant list as it was handed over at the current slot event (R115). -/
structure Drive where
  outputs : Vector OutputRecord 12
  relays  : PerCavity SupplyRelay
  handed  : List CavityElement
deriving DecidableEq, Repr

/-! ## The Door Lock Controllers -/

/-- The lock states (R125). -/
inductive LockState where
  | opened | engaging | locked | releasing | jammed
deriving DecidableEq, Repr

/-- The lock owners (R125). -/
inductive LockOwner where
  | none | request | cycle | recovery
deriving DecidableEq, Repr

/-- A Door Lock Controller: the debounced switches, the lock state, the owner, and the travel timer and reversal
time in tenths of a second (R125, R126, R140). -/
structure DoorLock where
  door     : DoorSwitch
  switch   : LockSwitch
  state    : LockState
  owner    : LockOwner
  timer    : Option Nat
  reversal : Option Nat
deriving DecidableEq, Repr

/-- The notices to the Sequencer (R135). -/
inductive LockNotice where
  | atRestLocked | atRestOpen | atRestJammed | doorOpenedEngaging
deriving DecidableEq, Repr

/-! ## The Fan Controller -/

/-- The states of the cooling fan (R147). -/
inductive FanState where
  | off | spinup | on | stalled
deriving DecidableEq, Repr

/-- The level that each of the six sources gave at the last evaluation (R142, R144). -/
structure FanSources where
  temperature : Nat
  sequencer   : Nat
  trip        : Nat
  board       : Nat
  host        : Nat
  stall       : Nat
deriving DecidableEq, Repr

/-- A stored reading of the Fan Controller (R143). -/
structure FanReading where
  probe : ChannelState
  tf    : Option Int
deriving DecidableEq, Repr

/-- The Fan Controller (R142). `tachCount` is the pulse counter of the current second; `duty` the PWM duty in
percent. -/
structure Fan where
  level         : Nat
  demand        : Nat
  sources       : FanSources
  holdDown      : Nat
  state         : FanState
  spinup        : Option Nat
  stallCount    : Nat
  recoveryCount : Nat
  pulses        : Option Nat
  rpm           : Option Nat
  tachCount     : Nat
  hostFloor     : Nat
  duty          : Nat
  stored        : PerCavity (Option FanReading)
  board         : Option Int
  convection    : PerCavity Bool
deriving DecidableEq, Repr

/-! ## The Limit Supervisor -/

/-- The causes (R157). -/
inductive Cause where
  | overtemp | catalystOvertemp | probeFault | cutout | relayStuck | noHeat
  | fanStall | doorBreach | lockJam | lockLost | boardOvertemp
deriving DecidableEq, Repr

/-- A trip record (R156). `later` is the later-cause set, in the order its causes were taken. -/
structure TripRecord where
  first    : Cause
  uptime   : Nat
  tf       : Option Int
  position : Option Nat
  later    : List Cause
deriving DecidableEq, Repr

/-- A cleared trip record with its clearing uptime (R156). -/
structure ClearedRecord where
  record    : TripRecord
  clearedAt : Nat
deriving DecidableEq, Repr

/-- A stored reading of the Limit Supervisor (R156). -/
structure LimitReading where
  probe     : ChannelState
  probeT    : Option Int
  probeTf   : Option Int
  catalyst  : ChannelState
  catalystT : Option Int
deriving DecidableEq, Repr

/-- What the Limit Supervisor keeps for one cavity (R156). -/
structure LimitRecord where
  reading       : Option LimitReading
  overtempCount : Nat
  catalystCount : Nat
  cutout        : Cutout
  active        : Option TripRecord
  cleared       : Option ClearedRecord
deriving DecidableEq, Repr

/-- The Limit Supervisor (R156). -/
structure Supervisor where
  cavity : PerCavity LimitRecord
  board  : Option Int
deriving DecidableEq, Repr

/-! ## The Service Link -/

/-- The event kinds (R180). -/
inductive EventKind where
  | powerUp | sensorFault | sensorRecovered | phaseBegun | phaseTimeout | cycleDone | cycleAborted
  | recoveryBegun | powerLimited | powerRestored | elementDead | lockEngaged | lockReleased | lockJam
  | fanStall | fanRecovered | trip | tripCleared | requestRefused
deriving DecidableEq, Repr

/-- An event record (R180). `additional` marks a TRIP of a later cause (R163, R187). -/
structure EventRecord where
  kind       : EventKind
  cavity     : Option Cavity
  severity   : Nat
  uptime     : Nat
  detail     : Option Nat
  additional : Bool
deriving DecidableEq, Repr

/-- The outcomes of a request (R176). -/
inductive ReplyOutcome where
  | done | busy | refused | unknown
deriving DecidableEq, Repr

/-- The reasons of a reply (the OUTCOME and REASON table before R186). -/
inductive Reason where
  | none | state | range | hot | door | trip | unbound | inUse | chain | sensor | absent | lock | map | format
  | postedRead
deriving DecidableEq, Repr

/-- The content of a reply: OUTCOME, REASON and payload (R176). `reads` is the number of event records that a
READ EVENTS reply gives, and absent in every other reply (R181). -/
structure Reply where
  outcome : ReplyOutcome
  reason  : Reason
  payload : List Byte
  reads   : Option Nat
deriving DecidableEq, Repr

/-- The reply owed, and whether an event was discarded at a full queue while it was owed (R176, R181). -/
structure OwedReply where
  reply     : Reply
  discarded : Bool
deriving DecidableEq, Repr

/-- The receiver (R173, R179). TAKE holds the bytes of the frame gathered so far, the address byte first;
`waitHigh` waits after a break for the line to return high. -/
inductive Receiver where
  | hunt
  | skip
  | take (gathered : List Byte)
  | waitHigh
deriving DecidableEq, Repr

/-- The link states (R178). -/
inductive LinkState where
  | listen | active | quiet
deriving DecidableEq, Repr

/-- The Service Link. `quiet` is the quiet timer in tenths of a second, absent while it does not run. -/
structure Link where
  node      : Nat
  receiver  : Receiver
  owed      : Option OwedReply
  state     : LinkState
  quiet     : Option Nat
  queue     : List EventRecord
  overflow  : Bool
  threshold : Nat
  attn      : Bool
deriving DecidableEq, Repr

/-! ## Profiles -/

/-- The appliance profile. -/
structure ApplianceProfile where
  enabled     : PerCavity Bool
  quietBudget : Nat
  tLow        : Nat
  tMid        : Nat
  tHigh       : Nat
  rpmLow      : Nat
  rpmMid      : Nat
  rpmHigh     : Nat
  pulsesPerRev : Nat
deriving DecidableEq, Repr

/-- A cavity profile. An output of `none` is NONE. -/
structure CavityProfile where
  outputs          : PerElement (Option Nat)
  ratings          : PerElement Nat
  filterShift      : Nat
  kp               : Nat
  ki               : Nat
  approachBand     : Nat
  soakBand         : Nat
  catalystCap      : Nat
  ceiling          : Nat
  releaseThreshold : Nat
  hardLimit        : Nat
  catalystLimit    : Nat
deriving DecidableEq, Repr

/-! ## Events in flight between the blocks -/

/-- What one block has sent for a cavity and the block it was sent to has not yet taken: the cavity readings
delivered (R14), the regulation requests posted (R65), the heat-complete notices (R77), the lock notices (R135), the
trip notices (R162), the notices to the Allocator (R103) and the closings of the supply relay (R160). Oldest
first, or counted where one is like another. -/
structure Mailbox where
  sequencerReadings  : List CavityReading
  supervisorReadings : List CavityReading
  fanReadings        : List CavityReading
  regulation         : List RegRequest
  heatComplete       : List Nat
  lockNotices        : List LockNotice
  tripNotices        : Nat
  withdrawNotices    : Nat
  relayClosings      : Nat
deriving DecidableEq, Repr

/-- The events in flight: each cavity's, and the board readings for the Supervisor and the Fan Controller (R6). -/
structure Mail where
  cavity          : PerCavity Mailbox
  supervisorBoard : List Int
  fanBoard        : List Int
deriving DecidableEq, Repr

/-! ## The state of the part -/

/-- The state of the PX3. `pending` is the queue of commands waiting, the front first; `clock` the time since
power-up; `pins` the raw switch inputs as a command last gave them; `free` the model's own counter of free values
used. -/
structure State where
  pending   : List Instr
  clock     : Moment
  pins      : PerCavity SwitchPins
  appliance : ApplianceProfile
  profiles  : PerCavity CavityProfile
  scanner   : Scanner
  table     : Vector (Option PhaseRecord) 51
  seq       : PerCavity Sequencer
  reg       : PerCavity Regulation
  alloc     : Allocator
  drive     : Drive
  locks     : PerCavity DoorLock
  fan       : Fan
  limit     : Supervisor
  link      : Link
  mail      : Mail
  free      : Nat
deriving DecidableEq, Repr

/-- The reasons a step can stop with a fault. The reference names no event at which the part stops: every command
has a next state, so there is no constructor. -/
inductive Fault where
deriving DecidableEq, Repr

/-- The reasons a command can be refused by the model. -/
inductive Refusal where
  /-- Raised by the dispatcher for a command that has no meaning yet; safe. No arm raises it now. -/
  | notModelled (mnemonic : String)
deriving DecidableEq, Repr

/-! ## Power-up values -/

/-- The empty element set. -/
def ElementSet.empty : ElementSet := ⟨false, false, false, false⟩

/-- A probe channel at power-up: no reading formed, and so no filter shift in use (R17, R18; DEDUCED, log entry 15). -/
def Channel.powerUp : Channel :=
  { state := .unknown, invalidRun := 0, validRun := 0, held := none, f16 := 0, samples := [], raw := none,
    count := none, valid := none, t := none, tf := none, shift := none, formedAt := none }

/-- The REF channel at power-up (R18). -/
def RefChannel.powerUp : RefChannel :=
  { state := .ok, badCount := 0, goodCount := 0, samples := [], raw := none, count := none, good := none,
    formedAt := none }

/-- The Sensor Scanner at power-up (R18). -/
def Scanner.powerUp : Scanner :=
  { probes := .all ⟨Channel.powerUp, Channel.powerUp⟩, ref := RefChannel.powerUp, board := none, boardAt := none,
    latest := .all none }

/-- A Sequencer in a given state with the context of R36, unbound. -/
def Sequencer.fresh (state : SeqState) : Sequencer :=
  { state := state, chain := [], position := 0, current := none, phaseElapsed := 0, soakProgress := 0,
    blindCool := 0, cycleElapsed := 0, completed := 0, lockOwned := false, newPhase := false, outcome := none,
    abortReason := none, bound := false }

/-- A regulation context at power-up (R65). -/
def Regulation.powerUp : Regulation :=
  { s60 := none, iAcc := 0, u := 0, heatSent := false, capInForce := false }

/-- A demand table entry at power-up (R87). -/
def DemandEntry.powerUp : DemandEntry :=
  { u := 0, elements := .empty, tier := .one, withdraw := false }

/-- A request table row with no record. -/
def noRecords : PerElement (Option RequestRecord) := ⟨none, none, none, none⟩

/-- The Power Allocator at power-up (R108). -/
def Allocator.powerUp : Allocator :=
  { supply := 0, declared := 0, available := 0, demand := .all DemandEntry.powerUp, requests := .all noRecords,
    tier1 := [.cavity .c0, .cavity .c1, .cavity .c2, .marker], tier2 := [], grants := [], window := 0, slot := 1,
    started := false, powerLimited := .all false }

/-- An unmapped output record (R109, R123). -/
def OutputRecord.unmapped : OutputRecord :=
  { owner := none, rating := none, drive := false, sense := none, missCount := 0, stuckCount := 0, dead := false,
    stuck := false }

/-- An OPEN supply relay (R123). -/
def SupplyRelay.opened : SupplyRelay := { closedAt := none, sinceSlot := false }

/-- The Element Drive at power-up (R123). -/
def Drive.powerUp : Drive :=
  { outputs := Vector.replicate 12 OutputRecord.unmapped, relays := .all SupplyRelay.opened, handed := [] }

/-- A Door Lock Controller at power-up (R141): the lock state is taken from the lock switch. -/
def DoorLock.powerUp (pins : SwitchPins) : DoorLock :=
  { door := pins.door, switch := pins.lock,
    state := if pins.lock = .locked then .locked else .opened,
    owner := if pins.lock = .locked then .recovery else .none,
    timer := none, reversal := none }

/-- The Fan Controller at power-up (R142, R155). -/
def Fan.powerUp : Fan :=
  { level := 0, demand := 0, sources := ⟨0, 0, 0, 0, 0, 0⟩, holdDown := 0, state := .off, spinup := none,
    stallCount := 0, recoveryCount := 0, pulses := none, rpm := none, tachCount := 0, hostFloor := 0, duty := 0,
    stored := .all none, board := none, convection := .all false }

/-- What the Supervisor keeps for a cavity at power-up, with the cut-out as its raw input reads (R171). -/
def LimitRecord.powerUp (cutout : Cutout) : LimitRecord :=
  { reading := none, overtempCount := 0, catalystCount := 0, cutout := cutout, active := none, cleared := none }

/-- The POWER_UP event record (R185). -/
def EventRecord.powerUp : EventRecord :=
  { kind := .powerUp, cavity := none, severity := 1, uptime := 0, detail := none, additional := false }

/-- The Service Link at power-up for a node address (R185). -/
def Link.powerUp (node : Nat) : Link :=
  { node := node, receiver := .hunt, owed := none, state := .listen, quiet := none, queue := [EventRecord.powerUp],
    overflow := false, threshold := 1, attn := true }

/-- The default appliance profile. -/
def ApplianceProfile.default : ApplianceProfile :=
  { enabled := .all true, quietBudget := 2000, tLow := 1200, tMid := 2500, tHigh := 4000, rpmLow := 900,
    rpmMid := 1500, rpmHigh := 2100, pulsesPerRev := 2 }

/-- The default cavity profile. -/
def CavityProfile.default : CavityProfile :=
  { outputs := ⟨none, none, none, none⟩, ratings := ⟨0, 0, 0, 0⟩, filterShift := 2, kp := 40, ki := 20,
    approachBand := 50, soakBand := 80, catalystCap := 250, ceiling := 2800, releaseThreshold := 2500,
    hardLimit := 5300, catalystLimit := 6500 }

/-- A mailbox with nothing in flight. -/
def Mailbox.empty : Mailbox :=
  { sequencerReadings := [], supervisorReadings := [], fanReadings := [], regulation := [], heatComplete := [],
    lockNotices := [], tripNotices := 0, withdrawNotices := 0, relayClosings := 0 }

/-- Nothing in flight. -/
def Mail.empty : Mail := { cavity := .all Mailbox.empty, supervisorBoard := [], fanBoard := [] }

/-- The raw switch inputs at reset (DESIGN CHOICE, log entry 1): door CLOSED, latch withdrawn, cut-out intact. -/
def SwitchPins.atRest : SwitchPins := { door := .closed, lock := .unlocked, cutout := .closed }

/-- The node address that the two straps spell, ADDR1 the high bit (R172). -/
def nodeAddress (addr1 addr0 : Bool) : Nat := 2 * addr1.toNat + addr0.toNat

/-- The machine right after reset: every block's power-up state, with the raw inputs at rest and both straps low
(DESIGN CHOICE, log entry 1). POWER_UP gives the same for any inputs. -/
def State.reset : State :=
  { pending := [], clock := ⟨0, 0⟩, pins := .all SwitchPins.atRest, appliance := ApplianceProfile.default,
    profiles := .all CavityProfile.default, scanner := Scanner.powerUp, table := Vector.replicate 51 none,
    seq := .all (Sequencer.fresh .idle), reg := .all Regulation.powerUp, alloc := Allocator.powerUp,
    drive := Drive.powerUp, locks := .all (DoorLock.powerUp SwitchPins.atRest), fan := Fan.powerUp,
    limit := { cavity := .all (LimitRecord.powerUp .closed), board := none }, link := Link.powerUp 0,
    mail := Mail.empty, free := 0 }

end Sys2Proof.Machine
end

