-- ==== Sys2Proof/Machine/Flags.lean ====
section
/-! DEFINITION. The flags and outputs that the blocks work out from what they hold: ATTN, the quiet cap, the
release permission, the motor outputs, the cooling fan's duty, and the flag bytes of replies. -/

namespace Sys2Proof.Machine

/-! ## The Service Link -/

/-- Does the queue hold a record at or above the attention threshold (R182)? -/
def Link.attention (l : Link) : Bool := l.queue.any fun e => decide (l.threshold ≤ e.severity)

/-- The link with ATTN worked out afresh (R182). -/
def Link.withAttn (l : Link) : Link := { l with attn := l.attention }

/-- Is the quiet cap in force: the link state LISTEN or QUIET (R85)? -/
def Link.quietCap (l : Link) : Bool := decide (l.state ≠ .active)

/-- The quiet time in tenths of a second: 5 s (R178). -/
def quietLimit : Nat := 50

/-- Does the quiet timer stand one tenth short of 5 s in ACTIVE, so that QUIET_TIMEOUT is its reaching 5 s (R178)? The
timer restarts at 0 at a valid frame, so that an expiry taken behind the frame finds it short of the limit. (DESIGN
CHOICE, log entry 2.) -/
def Link.quietExpires (l : Link) : Bool := decide (l.state = .active) && decide (l.quiet = some (quietLimit - 1))

/-! ## The Door Lock Controller -/

/-- A motor output (R126). -/
inductive Motor where
  | none | engage | release
deriving DecidableEq, Repr

/-- The motor output driven: engage in ENGAGING, release in RELEASING, otherwise neither (R126). -/
def DoorLock.motor (l : DoorLock) : Motor :=
  match l.state with
  | .engaging => .engage
  | .releasing => .release
  | _ => .none

/-- The blind-cool count that alone allows release (R56, R131). -/
def blindCoolLimit : Nat := 5400

/-- Is a cavity probe usable, VALID or SUSPECT (R44)? -/
def ChannelState.usable : ChannelState → Bool
  | .valid => true
  | .suspect => true
  | .unknown => false
  | .fault => false

/-- Does a reading show the cavity probe VALID at or below a threshold (R131)? -/
def CavityReading.coolAt (r : CavityReading) (threshold : Nat) : Bool :=
  match r.probe, r.probeTf with
  | .valid, some tf => decide (tf ≤ threshold)
  | _, _ => false

/-- The release permission of a cavity against a cavity reading (R131). -/
def State.permissionOn (s : State) (c : Cavity) (reading : Option CavityReading) : Bool :=
  let q := s.seq.get c
  decide (q.state ≠ .locking) && decide (q.state ≠ .running) &&
    ((match reading with
      | some r => r.coolAt (s.profiles.get c).releaseThreshold
      | none => false) || decide (blindCoolLimit ≤ q.blindCool))

/-- The release permission of a cavity on its latest cavity reading (R131). (DEDUCED, log entry 7.) -/
def State.permission (s : State) (c : Cavity) : Bool := s.permissionOn c (s.scanner.latest.get c)

/-! ## The Fan Controller -/

/-- The PWM duty of a level, in percent (R145). -/
def dutyOf : Nat → Nat
  | 0 => 0
  | 1 => 35
  | 2 => 65
  | _ => 100

/-! ## Flag bytes -/

/-- A flag byte: bit n is the n-th flag of the list, the other bits 0 (R186). -/
def flagByte : List Bool → Nat
  | [] => 0
  | b :: bs => b.toNat + 2 * flagByte bs

/-- The byte of an element set: UPPER in bit 0, LOWER in bit 1, RING in bit 2, GRILL in bit 3 (R186). -/
def ElementSet.toByte (s : ElementSet) : Nat := flagByte [s.upper, s.lower, s.ring, s.grill]

/-- A set of cavities as a byte, bits 0 to 2. -/
def cavitySetByte (p : PerCavity Bool) : Nat := flagByte [p.c0, p.c1, p.c2]

end Sys2Proof.Machine
end

