-- ==== Sys2Proof/Machine/Ops.lean ====
section
/-! DEFINITION. Named operations over the state that several blocks share: replacing a block's part, the event
queue with ATTN, the 32-bit counters, the Phase Table's positions, and the mailboxes. -/

namespace Sys2Proof.Machine

/-! ## Elements -/

/-- The elements in rank order (R92). -/
def Element.all : List Element := [.upper, .lower, .ring, .grill]

/-- The rank of an element: 0 to 3. -/
def Element.rank : Element → Nat
  | .upper => 0
  | .lower => 1
  | .ring => 2
  | .grill => 3

/-- Is the element in the set? -/
def ElementSet.has (s : ElementSet) : Element → Bool
  | .upper => s.upper
  | .lower => s.lower
  | .ring => s.ring
  | .grill => s.grill

/-- Is the set empty? -/
def ElementSet.isEmpty (s : ElementSet) : Bool := !(s.upper || s.lower || s.ring || s.grill)

/-- The value of one element. -/
def PerElement.get {α : Type} (p : PerElement α) : Element → α
  | .upper => p.upper
  | .lower => p.lower
  | .ring => p.ring
  | .grill => p.grill

/-- Replace the value of one element. -/
def PerElement.set {α : Type} (p : PerElement α) (e : Element) (a : α) : PerElement α :=
  match e with
  | .upper => { p with upper := a }
  | .lower => { p with lower := a }
  | .ring => { p with ring := a }
  | .grill => { p with grill := a }

/-- Work a function on every element's value, the element given with it. -/
def PerElement.map {α β : Type} (p : PerElement α) (f : Element → α → β) : PerElement β :=
  ⟨f .upper p.upper, f .lower p.lower, f .ring p.ring, f .grill p.grill⟩

/-- Every element of every cavity, in rising cavity number and rank. -/
def allElements : List CavityElement := Cavity.all.flatMap fun c => Element.all.map fun e => (c, e)

/-! ## Replacing a block's part of the state -/

/-- Replace a cavity's Sequencer. -/
def State.setSeq (s : State) (c : Cavity) (x : Sequencer) : State := { s with seq := s.seq.set c x }

/-- Replace a cavity's regulation context. -/
def State.setReg (s : State) (c : Cavity) (x : Regulation) : State := { s with reg := s.reg.set c x }

/-- Replace a cavity's Door Lock Controller. -/
def State.setLock (s : State) (c : Cavity) (x : DoorLock) : State := { s with locks := s.locks.set c x }

/-- Replace a cavity's profile. -/
def State.setProfile (s : State) (c : Cavity) (x : CavityProfile) : State :=
  { s with profiles := s.profiles.set c x }

/-- Replace a cavity's raw inputs. -/
def State.setPins (s : State) (c : Cavity) (x : SwitchPins) : State := { s with pins := s.pins.set c x }

/-- Replace what the Supervisor keeps for a cavity. -/
def State.setLimit (s : State) (c : Cavity) (x : LimitRecord) : State :=
  { s with limit := { s.limit with cavity := s.limit.cavity.set c x } }

/-- Replace a cavity's mailbox. -/
def State.setMail (s : State) (c : Cavity) (x : Mailbox) : State :=
  { s with mail := { s.mail with cavity := s.mail.cavity.set c x } }

/-- Replace a cavity's supply relay. -/
def State.setRelay (s : State) (c : Cavity) (x : SupplyRelay) : State :=
  { s with drive := { s.drive with relays := s.drive.relays.set c x } }

/-- Replace the Allocator. -/
def State.setAlloc (s : State) (x : Allocator) : State := { s with alloc := x }

/-- Replace the Fan Controller. -/
def State.setFan (s : State) (x : Fan) : State := { s with fan := x }

/-- Replace the Service Link. -/
def State.setLink (s : State) (x : Link) : State := { s with link := x }

/-- Replace the Sensor Scanner. -/
def State.setScanner (s : State) (x : Scanner) : State := { s with scanner := x }

/-! ## Standing of a cavity -/

/-- Is the cavity enabled by the appliance profile? -/
def State.enabled (s : State) (c : Cavity) : Bool := s.appliance.enabled.get c

/-- Is the cavity's supply relay CLOSED (R112)? -/
def State.relayClosed (s : State) (c : Cavity) : Bool := (s.drive.relays.get c).closedAt.isSome

/-- Has the cavity an active trip record (R156)? -/
def State.tripped (s : State) (c : Cavity) : Bool := (s.limit.cavity.get c).active.isSome

/-! ## Counters -/

/-- The count after `n` of a counter with the range 0 to 2^32 - 1: the next number, and after the last a free value
(DESIGN CHOICE, log entry 4). -/
def State.nextCount (s : State) (n : Nat) : Nat :=
  if n + 1 < 2 ^ 32 then n + 1 else Config.afterLastCount s.free % 2 ^ 32

/-- The state with the free value that `nextCount n` has used spent. -/
def State.spendCount (s : State) (n : Nat) : State :=
  if n + 1 < 2 ^ 32 then s else { s with free := s.free + 1 }

/-- Add 1, holding at 65535 (R36). -/
def addHeld (n : Nat) : Nat := if n < 65535 then n + 1 else 65535

/-- Clamp an integer to 0 to `hi` and keep it as a count. -/
def clampNat (hi : Nat) (x : Int) : Nat := min hi x.toNat

/-! ## The event queue -/

/-- The most records the event queue holds (R180). -/
def queueLimit : Nat := 24

/-- An event joins the end of the queue, and ATTN is worked out afresh. At a full queue it is discarded and the
overflow flag is set; the reply owed, if any, notes that an event was discarded while it was owed
(R180, R181, R182). -/
def Link.enqueue (l : Link) (e : EventRecord) : Link :=
  if l.queue.length < queueLimit then { l with queue := l.queue ++ [e] }.withAttn
  else { l with overflow := true, owed := l.owed.map fun o => { o with discarded := true } }

/-- A block queues an event, stamped with the whole second of uptime (R180). -/
def State.queueEvent (s : State) (kind : EventKind) (cavity : Option Cavity) (severity : Nat)
    (detail : Option Nat) (additional : Bool := false) : State :=
  s.setLink (s.link.enqueue
    { kind := kind, cavity := cavity, severity := severity, uptime := s.clock.uptime, detail := detail,
      additional := additional })

/-! ## The Phase Table -/

/-- The record at a Phase Table position; `none` is EMPTY (R19). -/
def State.recordAt (s : State) (position : Nat) : Option PhaseRecord := (s.table[position]?).join

/-- Replace the content of a Phase Table position. -/
def State.setRecord (s : State) (position : Nat) (r : Option PhaseRecord) : State :=
  { s with table := s.table.setIfInBounds position r }

/-- The inline slot of a cavity: 48 + cavity (R19). -/
def inlineSlot (c : Cavity) : Nat := 48 + c.num

/-- The Phase Table position of the phase at the current chain position (R42). -/
def Sequencer.entry (q : Sequencer) : Option Nat := q.chain[q.position]?

/-- The record of the phase at the current chain position of a cavity, as the Phase Table holds it (R42). -/
def State.phaseRecord (s : State) (c : Cavity) : Option PhaseRecord := (s.seq.get c).entry.bind s.recordAt

/-- Is the cavity RUNNING in a HEAT or SOAK phase (R42, R94)? -/
def State.heating (s : State) (c : Cavity) : Bool :=
  match (s.seq.get c).state, (s.seq.get c).current with
  | .running, some (_, .heat) => true
  | .running, some (_, .soak) => true
  | _, _ => false

/-! ## Mailboxes -/

/-- The cavity's mailbox. -/
def State.box (s : State) (c : Cavity) : Mailbox := s.mail.cavity.get c

/-- The Door Lock Controller sends its Sequencer a notice (R135). -/
def State.sendLockNotice (s : State) (c : Cavity) (n : LockNotice) : State :=
  s.setMail c { s.box c with lockNotices := (s.box c).lockNotices ++ [n] }

/-- The Supervisor sends the cavity's Sequencer the trip notice (R162). -/
def State.sendTripNotice (s : State) (c : Cavity) : State :=
  s.setMail c { s.box c with tripNotices := (s.box c).tripNotices + 1 }

/-- The Sequencer tells the Allocator that its cavity left RUNNING or began a COOL or DWELL phase (R103). -/
def State.sendWithdrawNotice (s : State) (c : Cavity) : State :=
  s.setMail c { s.box c with withdrawNotices := (s.box c).withdrawNotices + 1 }

/-- The closing of the supply relay, for the Supervisor (R160). -/
def State.sendRelayClosing (s : State) (c : Cavity) : State :=
  s.setMail c { s.box c with relayClosings := (s.box c).relayClosings + 1 }

/-- The Sequencer posts a regulation request (R44). -/
def State.postRegulation (s : State) (c : Cavity) (r : RegRequest) : State :=
  s.setMail c { s.box c with regulation := (s.box c).regulation ++ [r] }

/-- The Regulation Unit sends the heat-complete notice, naming a chain position (R77). -/
def State.sendHeatComplete (s : State) (c : Cavity) (position : Nat) : State :=
  s.setMail c { s.box c with heatComplete := (s.box c).heatComplete ++ [position] }

/-- A cavity reading is delivered to the Sequencer, the Supervisor and the Fan Controller (R14). -/
def State.deliverReading (s : State) (c : Cavity) (r : CavityReading) : State :=
  let b := s.box c
  s.setMail c { b with
    sequencerReadings := b.sequencerReadings ++ [r]
    supervisorReadings := b.supervisorReadings ++ [r]
    fanReadings := b.fanReadings ++ [r] }

end Sys2Proof.Machine
end

