-- ==== Sys2Proof/Machine/Allocation.lean ====
section
/-! DEFINITION. The Power Allocator: the budget, shedding, the demand table, windows and slots, request records, tier
rings, the grant passes and the withdrawals (Power Allocation, R83 to R108), the handover of the grant list to the
driver outputs (R111), and the meanings of SLOT_EVENT and GRANT_WITHDRAW_NOTICE. -/

namespace Sys2Proof.Machine

/-! ## Request records -/

/-- The request record of an element, if it has one. -/
def Allocator.record (a : Allocator) (x : CavityElement) : Option RequestRecord := (a.requests.get x.1).get x.2

/-- Replace the request record of an element. -/
def Allocator.setRecord (a : Allocator) (x : CavityElement) (r : Option RequestRecord) : Allocator :=
  { a with requests := a.requests.set x.1 ((a.requests.get x.1).set x.2 r) }

/-- Work a function on the request record of an element, where there is one. -/
def Allocator.modRecord (a : Allocator) (x : CavityElement) (f : RequestRecord → RequestRecord) : Allocator :=
  a.setRecord x ((a.record x).map f)

/-- Work a function on every request record, its element given with it. -/
def Allocator.mapRecords (a : Allocator) (f : CavityElement → RequestRecord → RequestRecord) : Allocator :=
  { a with requests := a.requests.map fun c row => row.map fun e r => r.map (f (c, e)) }

/-- The rated watts of an element's request record, 0 where there is none. -/
def Allocator.watts (a : Allocator) (x : CavityElement) : Nat :=
  match a.record x with
  | some r => r.watts
  | none => 0

/-- The summed rated watts of a list of grants. -/
def Allocator.sumOf (a : Allocator) (xs : List CavityElement) : Nat := (xs.map a.watts).sum

/-- The granted sum of the current slot (R86). -/
def Allocator.grantedSum (a : Allocator) : Nat := a.sumOf a.grants

/-- A record withdrawn: Q set to G, the deferral count 0, overdue clear, held kept (R101). -/
def RequestRecord.withdrawn (r : RequestRecord) : RequestRecord :=
  { r with q := r.g, deferral := 0, overdue := false }

/-! ## The handover to the Element Drive -/

/-- The drive of an output for a grant list: on while its element stands in the list and its cavity is enabled
(R111). -/
def driven (enabled : Cavity → Bool) (grants : List CavityElement) (o : OutputRecord) : Bool :=
  match o.owner with
  | some x => enabled x.1 && grants.contains x
  | none => false

/-- The Drive with its outputs switched to follow a grant list (R99, R111). -/
def Drive.follow (d : Drive) (enabled : Cavity → Bool) (grants : List CavityElement) : Drive :=
  { d with outputs := d.outputs.map fun o => { o with drive := driven enabled grants o } }

/-- The slot grant list becomes the one given and is handed over to the Drive (R99). -/
def State.setGrants (s : State) (grants : List CavityElement) : State :=
  { s with alloc := { s.alloc with grants := grants }, drive := s.drive.follow s.enabled grants }

/-- Take the grants of a cavity out of the list; nothing changes when none stands there (R103, R104). -/
def State.dropCavityGrants (s : State) (c : Cavity) : State :=
  if s.alloc.grants.any fun x => decide (x.1 = c) then
    s.setGrants (s.alloc.grants.filter fun x => decide (x.1 ≠ c))
  else s

/-- Take one element's grant out of the list; nothing changes when it does not stand there (R117). -/
def State.dropGrant (s : State) (x : CavityElement) : State :=
  if s.alloc.grants.contains x then s.setGrants (s.alloc.grants.filter fun y => decide (y ≠ x)) else s

/-! ## The budget -/

/-- The available budget: the supply limit less the declared load, capped at the quiet budget outside ACTIVE (R85). -/
def State.budget (s : State) : Nat :=
  let base := s.alloc.supply - s.alloc.declared
  if s.link.quietCap then min base s.appliance.quietBudget else base

/-- The grants that stay when a budget is met by removing grants from the end of the list; the list is given
newest first (R86). -/
def keepFitting (watts : CavityElement → Nat) (budget : Nat) : List CavityElement → List CavityElement
  | [] => []
  | x :: xs => if ((x :: xs).map watts).sum ≤ budget then x :: xs else keepFitting watts budget xs

/-- The grants that stay in force under the available budget, in the order of the list (R86). -/
def Allocator.kept (a : Allocator) : List CavityElement :=
  (keepFitting a.watts a.available a.grants.reverse).reverse

/-- A shed grant's record: the slot is given back and the element counts as deferred in this slot (R86). -/
def RequestRecord.shed (r : RequestRecord) : RequestRecord :=
  { r with g := r.g - 1, deferral := 1, overdue := false }

/-- Shed grants from the end of the list until the granted sum fits the available budget (R86). -/
def State.shedGrants (s : State) : State :=
  if s.alloc.grantedSum ≤ s.alloc.available then s
  else
    let kept := s.alloc.kept
    let lost := s.alloc.grants.drop kept.length
    (s.setAlloc (lost.foldl (fun a x => a.modRecord x RequestRecord.shed) s.alloc)).setGrants kept

/-- The available budget is worked out afresh; a fall below the granted sum sheds grants at once (R85, R86). -/
def State.rebudget (s : State) : State :=
  (s.setAlloc { s.alloc with available := s.budget }).shedGrants

/-! ## The demand table and the tier rings -/

/-- Replace a cavity's demand table entry. -/
def State.setDemand (s : State) (c : Cavity) (d : DemandEntry) : State :=
  s.setAlloc { s.alloc with demand := s.alloc.demand.set c d }

/-- A demand is written; a demand of 0 sets the withdraw mark (R76, R87). -/
def State.postDemand (s : State) (c : Cavity) (u : Nat) : State :=
  let d := s.alloc.demand.get c
  s.setDemand c { d with u := u, withdraw := d.withdraw || decide (u = 0) }

/-- Take a cavity out of both rings. -/
def Allocator.leaveRings (a : Allocator) (c : Cavity) : Allocator :=
  { a with tier1 := a.tier1.filter fun x => decide (x ≠ .cavity c)
           tier2 := a.tier2.filter fun x => decide (x ≠ c) }

/-- Append a cavity to the end of a tier's ring. -/
def Allocator.joinRing (a : Allocator) (c : Cavity) : Tier → Allocator
  | .one => { a with tier1 := a.tier1 ++ [.cavity c] }
  | .two => { a with tier2 := a.tier2 ++ [c] }

/-- The tier is written: a changed tier takes the cavity from its old ring to the end of its new one (R93). -/
def State.writeTier (s : State) (c : Cavity) (t : Tier) : State :=
  let d := s.alloc.demand.get c
  if d.tier = t then s
  else (s.setAlloc ((s.alloc.leaveRings c).joinRing c t)).setDemand c { d with tier := t }

/-- The element set is written at a phase begin (R43). -/
def State.writeElements (s : State) (c : Cavity) (e : ElementSet) : State :=
  s.setDemand c { s.alloc.demand.get c with elements := e }

/-- The cavity priority order: the tier-1 ring from its front, the tier-2 ring at the marker (R92). -/
def Allocator.priority (a : Allocator) : List Cavity :=
  a.tier1.flatMap fun x => match x with
    | .cavity c => [c]
    | .marker => a.tier2

/-! ## DEAD elements, as the other blocks read them -/

/-- Has the Drive found the element DEAD: the record of the output it is mapped to has DEAD set (R109)? -/
def State.dead (s : State) (x : CavityElement) : Bool :=
  s.drive.outputs.toList.any fun o => decide (o.owner = some x) && o.dead

/-! ## A slot event -/

/-- The slot just ended is closed: held follows the grant list, which is then emptied (R95). -/
def State.closeSlot (s : State) : State :=
  let a := s.alloc.mapRecords fun x r => { r with held := s.alloc.grants.contains x }
  s.setAlloc { a with grants := [] }

/-- The slot and window numbers advance; the first slot event after power-up is slot 1 of window 0 (R88). (DEDUCED,
log entry 17.) -/
def State.advanceSlot (s : State) : State :=
  if !s.alloc.started then s.setAlloc { s.alloc with started := true }
  else if s.alloc.slot < 30 then s.setAlloc { s.alloc with slot := s.alloc.slot + 1 }
  else (s.spendCount s.alloc.window).setAlloc
    { s.alloc with slot := 1, window := s.nextCount s.alloc.window }

/-- Is an element's record withdrawn at this slot (R101)? -/
def State.withdrawnAtSlot (s : State) (x : CavityElement) : Bool :=
  let d := s.alloc.demand.get x.1
  d.withdraw || !d.elements.has x.2 || s.dead x

/-- The withdrawals due at this slot are made and every withdraw mark is cleared (R101). -/
def State.slotWithdrawals (s : State) : State :=
  let a := s.alloc.mapRecords fun x r => if s.withdrawnAtSlot x then r.withdrawn else r
  s.setAlloc { a with demand := s.alloc.demand.map fun _ d => { d with withdraw := false } }

/-- The shortfall of a cavity: the sum of Q - G over its records (R90). -/
def Allocator.shortfall (a : Allocator) (c : Cavity) : Nat :=
  (Element.all.map fun e => match a.record (c, e) with
    | some r => r.q - r.g
    | none => 0).sum

/-- The power-limited flag of one cavity is worked out at a window end, with its event (R90). -/
def windowEndCavity (s : State) (c : Cavity) : State :=
  if !s.enabled c then s
  else
    let before := s.alloc.powerLimited.get c
    let after := Element.all.any fun e => match s.alloc.record (c, e) with
      | some r => decide (r.g < r.q)
      | none => false
    let s' := s.setAlloc { s.alloc with powerLimited := s.alloc.powerLimited.set c after }
    match before, after with
    | false, true => s'.queueEvent .powerLimited (some c) 2 (some (s.alloc.shortfall c))
    | true, false => s'.queueEvent .powerRestored (some c) 0 none
    | _, _ => s'

/-- The window end, in rising cavity number (R90). -/
def State.windowEnd (s : State) : State := Cavity.all.foldl windowEndCavity s

/-- The slots a demand asks for in a window: (u × 30 + 500) / 1000, truncated (R91). -/
def slotsFor (u : Nat) : Nat := (u * 30 + 500) / 1000

/-- The window start: the requests of the new window (R91). -/
def State.windowStart (s : State) : State :=
  s.setAlloc (s.alloc.mapRecords fun x r =>
    if s.enabled x.1 then
      let d := s.alloc.demand.get x.1
      { r with q := if d.elements.has x.2 && !s.dead x then slotsFor d.u else 0, g := 0 }
    else r)

/-- Is an element eligible, apart from being granted already (R94)? -/
def State.eligible (s : State) (x : CavityElement) : Bool :=
  (match s.alloc.record x with
    | some r => decide (r.g < r.q)
    | none => false)
  && s.heating x.1 && s.relayClosed x.1 && !s.tripped x.1 && !s.dead x

/-- The eligible elements in the order the passes walk them: cavity priority order, then rank (R92, R96). -/
def State.candidates (s : State) : List CavityElement :=
  (s.alloc.priority.flatMap fun c => Element.all.map fun e => (c, e)).filter s.eligible

/-- What a pass has granted so far and the budget that remains. -/
structure PassState where
  granted   : List CavityElement
  remaining : Nat
deriving DecidableEq, Repr

/-- One grant pass over a list of candidates, first-fit (R96). -/
def grantPass (watts : CavityElement → Nat) (qualifies : CavityElement → Bool) :
    List CavityElement → PassState → PassState
  | [], p => p
  | x :: xs, p =>
    if qualifies x && !p.granted.contains x && decide (watts x ≤ p.remaining) then
      grantPass watts qualifies xs ⟨p.granted ++ [x], p.remaining - watts x⟩
    else grantPass watts qualifies xs p

/-- Is the overdue flag of the element's record set? -/
def Allocator.isOverdue (a : Allocator) (x : CavityElement) : Bool := (a.record x).any RequestRecord.overdue

/-- Is the held flag of the element's record set? -/
def Allocator.isHeld (a : Allocator) (x : CavityElement) : Bool := (a.record x).any RequestRecord.held

/-- The grant list after pass 1, the overdue elements (R96). -/
def State.passOne (s : State) : PassState :=
  grantPass s.alloc.watts s.alloc.isOverdue s.candidates ⟨[], s.alloc.available⟩

/-- After pass 2, the holders (R96). -/
def State.passTwo (s : State) : PassState :=
  grantPass s.alloc.watts s.alloc.isHeld s.candidates s.passOne

/-- After pass 3, all that remain eligible (R96). -/
def State.passThree (s : State) : PassState :=
  grantPass s.alloc.watts (fun _ => true) s.candidates s.passTwo

/-- The record of an eligible element after the passes: granted, or deferred once more (R97). -/
def RequestRecord.afterPasses (r : RequestRecord) (granted : Bool) : RequestRecord :=
  if granted then { r with g := r.g + 1, deferral := 0, overdue := false }
  else { r with deferral := min 4 (r.deferral + 1), overdue := r.overdue || decide (4 ≤ r.deferral + 1) }

/-- The rotating cavity of a slot: that of pass 1's first grant, or else of pass 3's first grant (R98). -/
def State.rotating (s : State) : Option Cavity :=
  match s.passOne.granted with
  | x :: _ => some x.1
  | [] => ((s.passThree.granted.drop s.passTwo.granted.length).head?).map Prod.fst

/-- A cavity rotates to the end of its own ring; with a tier-2 cavity the marker goes to the end of tier 1 (R98). -/
def Allocator.rotate (a : Allocator) (c : Cavity) : Allocator :=
  match (a.demand.get c).tier with
  | .one => { a with tier1 := (a.tier1.filter fun x => decide (x ≠ .cavity c)) ++ [.cavity c] }
  | .two =>
    { a with tier2 := (a.tier2.filter fun x => decide (x ≠ c)) ++ [c]
             tier1 := (a.tier1.filter fun x => decide (x ≠ .marker)) ++ [.marker] }

/-- The three passes are made, the records updated and the rings rotated; the new grant list stands (R96 to R98). -/
def State.grantSlot (s : State) : State :=
  let granted := s.passThree.granted
  let a := s.alloc.mapRecords fun x r => if s.eligible x then r.afterPasses (granted.contains x) else r
  let a := match s.rotating with
    | some c => a.rotate c
    | none => a
  s.setAlloc { a with grants := granted }

/-- The list is handed over at a slot event: the Drive follows it, keeps it for the sense check, and notes which
supply relays stand closed at the slot's start (R99, R114, R115). -/
def State.handOver (s : State) : State :=
  let s' := s.setGrants s.alloc.grants
  { s' with drive := { s'.drive with
      handed := s.alloc.grants
      relays := s'.drive.relays.map fun _ r => { r with sinceSlot := r.closedAt.isSome } } }

/-- The window work of a slot event: at slot 1 the window end of the window before, if there is one, and the window
start (R88, R100). `first` marks the first slot event after power-up. -/
def State.windowWork (s : State) (first : Bool) : State :=
  if s.alloc.slot = 1 then (if first then s else s.windowEnd).windowStart else s

/-- A slot event, taken whole (R100). -/
def takeSlot (s : State) : State :=
  let first := !s.alloc.started
  ((s.closeSlot.advanceSlot.slotWithdrawals.windowWork first).grantSlot).handOver

/-- SLOT_EVENT (R100). -/
def execSlotEvent (s : State) : Host.Outcome State Fault Refusal := .next (takeSlot s)

/-! ## Withdrawals between slot events -/

/-- The Allocator takes the Sequencer's notice: the cavity's grants leave the list at once and keep their G (R103). -/
def takeWithdrawNotice (c : Cavity) (s : State) : State :=
  if (s.box c).withdrawNotices = 0 then s
  else (s.setMail c { s.box c with withdrawNotices := (s.box c).withdrawNotices - 1 }).dropCavityGrants c

/-- GRANT_WITHDRAW_NOTICE (R103). -/
def execGrantWithdrawNotice (c : Cavity) (s : State) : Host.Outcome State Fault Refusal :=
  .next (takeWithdrawNotice c s)

/-- Withdraw every request record of a cavity (R104). -/
def State.withdrawRequests (s : State) (c : Cavity) : State :=
  s.setAlloc { s.alloc with
    requests := s.alloc.requests.set c ((s.alloc.requests.get c).map fun _ r => r.map RequestRecord.withdrawn) }

/-- At a trip's first cause the cavity's grants and requests are withdrawn at once (R104). -/
def State.tripWithdraw (s : State) (c : Cavity) : State := (s.dropCavityGrants c).withdrawRequests c

/-! ## Profiles, enable and disable -/

/-- A new request record (R89). -/
def RequestRecord.fresh (output watts : Nat) : RequestRecord :=
  { output := output, watts := watts, q := 0, g := 0, deferral := 0, overdue := false, held := false }

/-- The request record of an element in the output map that the Drive holds, its watts the output's rating (R89). -/
def Drive.requestFor (d : Drive) (x : CavityElement) : Option RequestRecord :=
  match d.outputs.toList.findIdx? fun o => decide (o.owner = some x) with
  | some i => some (RequestRecord.fresh i (((d.outputs.toList[i]?).bind OutputRecord.rating).getD 0))
  | none => none

/-- The cavity's request records are created anew from the Drive's output map (R89, R105). Its grants, of which an
IDLE cavity has none in force, leave the list (DEDUCED, log entry 11). -/
def State.rebuildRequests (s : State) (c : Cavity) : State :=
  let s := s.dropCavityGrants c
  s.setAlloc { s.alloc with
    requests := s.alloc.requests.set c (noRecords.map fun e _ => s.drive.requestFor (c, e)) }

/-- The Allocator's part of disabling a cavity (R106). (DEDUCED, log entry 11.) -/
def State.disableAlloc (s : State) (c : Cavity) : State :=
  let s := s.dropCavityGrants c
  let a := s.alloc.leaveRings c
  s.setAlloc { a with
    requests := a.requests.set c noRecords
    demand := a.demand.set c DemandEntry.powerUp
    powerLimited := a.powerLimited.set c false }

/-- The Allocator's part of enabling a cavity (R106). (DEDUCED, log entry 11.) -/
def State.enableAlloc (s : State) (c : Cavity) : State :=
  let a := (s.alloc.leaveRings c).joinRing c .one
  (s.setAlloc { a with
    demand := a.demand.set c DemandEntry.powerUp
    powerLimited := a.powerLimited.set c false }).rebuildRequests c

end Sys2Proof.Machine
end

