-- ==== Sys2Proof/Machine/Operands.lean ====
section
/-! DEFINITION. The byte layouts of the line (Message Formats and Profiles): how a request's payload is read and how
the fields of a reply are written. Multi-byte fields go most significant byte first (R186). -/

namespace Sys2Proof.Machine

/-! ## Reading a payload -/

/-- The byte at an offset of a payload. -/
def byteAt (p : List Byte) (i : Nat) : Nat := (p.getD i 0).toNat

/-- The 16-bit field at an offset, most significant byte first (R186). -/
def wordAt (p : List Byte) (i : Nat) : Nat := 256 * byteAt p i + byteAt p (i + 1)

/-- A bit of a number. -/
def bitAt (n k : Nat) : Bool := decide (n / 2 ^ k % 2 = 1)

/-- A 16-bit field read as a signed temperature. -/
def signed16 (n : Nat) : Int := if n < 32768 then n else (n : Int) - 65536

/-- The cavity a byte names, 0 to 2 (R38). -/
def cavityOf : Nat → Option Cavity
  | 0 => some .c0
  | 1 => some .c1
  | 2 => some .c2
  | _ => none

/-- The element set of a byte: bits 0 to 3; its other bits are not read (R186; DESIGN CHOICE, log entry 13). -/
def elementSetOf (n : Nat) : ElementSet := ⟨bitAt n 0, bitAt n 1, bitAt n 2, bitAt n 3⟩

/-! ## The phase record (R187) -/

/-- The code of a record kind (R187). -/
def PhaseKind.code : PhaseKind → Nat
  | .heat => 1
  | .soak => 2
  | .cool => 3
  | .dwell => 4

/-- The kind of a code. -/
def phaseKindOf : Nat → Option PhaseKind
  | 1 => some .heat
  | 2 => some .soak
  | 3 => some .cool
  | 4 => some .dwell
  | _ => none

/-- A count whose 0 means absent (R187). -/
def nonzero (n : Nat) : Option Nat := if n = 0 then none else some n

/-- The fields of a record's sixteen bytes, its kind apart. -/
structure RawRecord where
  kind       : Nat
  convection : Bool
  locked     : Bool
  abort      : Bool
  target     : Option Int
  ramp       : Option Nat
  duration   : Option Nat
  limit      : Option Nat
  elements   : ElementSet
  fanFloor   : Nat
  tier       : Nat
  gate       : Option Nat
  next       : Nat
deriving DecidableEq, Repr

/-- Read a record at an offset of a payload (R187). -/
def rawRecordAt (p : List Byte) (i : Nat) : RawRecord :=
  { kind := byteAt p i
    convection := bitAt (byteAt p (i + 1)) 0
    locked := bitAt (byteAt p (i + 1)) 1
    abort := bitAt (byteAt p (i + 1)) 2
    target := if wordAt p (i + 2) = 0x8000 then none else some (signed16 (wordAt p (i + 2)))
    ramp := nonzero (wordAt p (i + 4))
    duration := nonzero (wordAt p (i + 6))
    limit := nonzero (wordAt p (i + 8))
    elements := elementSetOf (byteAt p (i + 10))
    fanFloor := byteAt p (i + 11)
    tier := byteAt p (i + 12)
    gate := nonzero (wordAt p (i + 13))
    next := byteAt p (i + 15) }

/-- Is a temperature within a range? -/
def inTenths (lo hi : Int) : Option Int → Bool
  | some t => decide (lo ≤ t) && decide (t ≤ hi)
  | none => false

/-- Is a count within a range? -/
def inCount (lo hi : Nat) : Option Nat → Bool
  | some n => decide (lo ≤ n) && decide (n ≤ hi)
  | none => false

/-- Is a count absent or within a range? -/
def optCount (lo hi : Nat) (o : Option Nat) : Bool := o.isNone || inCount lo hi o

/-- Does the target suit the kind (field 2)? -/
def RawRecord.targetOk (r : RawRecord) : PhaseKind → Bool
  | .heat => inTenths 300 5000 r.target
  | .soak => inTenths 300 5000 r.target
  | .cool => inTenths 0 5000 r.target
  | .dwell => r.target.isNone

/-- Does the ramp suit the kind (field 3)? -/
def RawRecord.rampOk (r : RawRecord) : PhaseKind → Bool
  | .heat => optCount 1 300 r.ramp
  | _ => r.ramp.isNone

/-- Does the duration suit the kind (field 4)? -/
def RawRecord.durationOk (r : RawRecord) : PhaseKind → Bool
  | .soak => inCount 1 65535 r.duration
  | .dwell => inCount 1 65535 r.duration
  | _ => r.duration.isNone

/-- Does the element set suit the kind (field 7)? -/
def RawRecord.elementsOk (r : RawRecord) : PhaseKind → Bool
  | .heat => !r.elements.isEmpty
  | .soak => !r.elements.isEmpty
  | _ => r.elements.isEmpty

/-- Does the catalyst gate suit the kind (field 12)? -/
def RawRecord.gateOk (r : RawRecord) : PhaseKind → Bool
  | .heat => optCount 1000 4000 r.gate
  | .soak => optCount 1000 4000 r.gate
  | _ => r.gate.isNone

/-- The record of raw fields that have passed their checks. -/
def RawRecord.toRecord (r : RawRecord) (k : PhaseKind) : PhaseRecord :=
  { kind := k, target := r.target, ramp := r.ramp, duration := r.duration, limit := r.limit,
    onLimit := if r.abort then .abort else .advance, elements := r.elements, convection := r.convection,
    fanFloor := r.fanFloor, locked := r.locked, tier := if r.tier = 2 then .two else .one,
    gate := r.gate.map fun g => (g : Int), next := if r.next = 255 then none else some r.next }

/-- The check of a record given to the PX3 (R20): its fields in the order of their codes, the first failing
field's code or the record. Convection and locked (8, 10) are single bits and cannot fail. -/
def RawRecord.check (r : RawRecord) : Except Nat PhaseRecord :=
  match phaseKindOf r.kind with
  | none => .error 1
  | some k =>
    if !r.targetOk k then .error 2
    else if !r.rampOk k then .error 3
    else if !r.durationOk k then .error 4
    else if !optCount 1 1023 r.limit then .error 5
    else if r.abort && r.limit.isNone then .error 6
    else if !r.elementsOk k then .error 7
    else if !decide (r.fanFloor ≤ 3) then .error 9
    else if !(decide (r.tier = 1) || decide (r.tier = 2)) then .error 11
    else if !r.gateOk k then .error 12
    else if decide (48 ≤ r.next) && decide (r.next ≠ 255) then .error 13
    else .ok (r.toRecord k)

/-! ## Writing a payload -/

/-- One byte. -/
def byte (n : Nat) : Byte := BitVec.ofNat 8 n

/-- A 16-bit field, most significant byte first. -/
def word (n : Nat) : List Byte := [byte (n / 256), byte n]

/-- A 32-bit field, most significant byte first. -/
def long (n : Nat) : List Byte := [byte (n / 16777216), byte (n / 65536), byte (n / 256), byte n]

/-- A temperature in 16 bits; an absent one is 0x8000 (R186). -/
def tenthsField : Option Int → List Byte
  | some t => word (t % 65536).toNat
  | none => word 0x8000

/-- A one-byte field; an absent one is 0xFF (R186). -/
def byteField : Option Nat → List Byte
  | some n => [byte n]
  | none => [byte 0xFF]

/-- A 16-bit field; an absent one is 0xFFFF (R186). -/
def wordField : Option Nat → List Byte
  | some n => word n
  | none => word 0xFFFF

/-- A 32-bit uptime; an absent one is 0xFFFFFFFF (R186). -/
def uptimeField : Option Nat → List Byte
  | some n => long n
  | none => long 0xFFFFFFFF

/-- A one-byte item that answers yes or no: 1 for yes, 0 for no, codes that no layout gives (DESIGN CHOICE, log
entry 42). -/
def boolField (b : Bool) : List Byte := [byte b.toNat]

/-- A yes or no that may be absent (DESIGN CHOICE, log entry 42). -/
def optBoolField (b : Option Bool) : List Byte := byteField (b.map Bool.toNat)

/-- The sixteen bytes of a Phase Table position; EMPTY has every field absent, the set empty and the flags off
(R24, R187). (DESIGN CHOICE, log entry 13.) -/
def recordBytes : Option PhaseRecord → List Byte
  | some r =>
    [byte r.kind.code, byte (flagByte [r.convection, r.locked, decide (r.onLimit = .abort)])]
      ++ tenthsField r.target ++ word (r.ramp.getD 0) ++ word (r.duration.getD 0) ++ word (r.limit.getD 0)
      ++ [byte r.elements.toByte, byte r.fanFloor, byte (match r.tier with | .one => 1 | .two => 2)]
      ++ word ((r.gate.getD 0).toNat) ++ byteField r.next
  | none =>
    [byte 0, byte 0] ++ tenthsField none ++ word 0 ++ word 0 ++ word 0 ++ [byte 0, byte 0xFF, byte 0xFF]
      ++ word 0 ++ [byte 0xFF]

/-! ## Codes of the enumerations (R187) -/

/-- The code of an event kind. -/
def EventKind.code : EventKind → Nat
  | .powerUp => 1
  | .sensorFault => 2
  | .sensorRecovered => 3
  | .phaseBegun => 4
  | .phaseTimeout => 5
  | .cycleDone => 6
  | .cycleAborted => 7
  | .recoveryBegun => 8
  | .powerLimited => 9
  | .powerRestored => 10
  | .elementDead => 11
  | .lockEngaged => 12
  | .lockReleased => 13
  | .lockJam => 14
  | .fanStall => 15
  | .fanRecovered => 16
  | .trip => 17
  | .tripCleared => 18
  | .requestRefused => 19

/-- The code of a Sequencer state. -/
def SeqState.code : SeqState → Nat
  | .absent => 0
  | .idle => 1
  | .locking => 2
  | .running => 3
  | .settling => 4
  | .faulted => 5
  | .recovering => 6

/-- The code of a cycle's outcome, 0 when absent. -/
def outcomeCode : Option CycleOutcome → Nat
  | none => 0
  | some .done => 1
  | some .aborted => 2
  | some .tripped => 3
  | some .recovered => 4

/-- The code of an abort reason (R52). -/
def AbortReason.code : AbortReason → Nat
  | .request => 1
  | .phaseTimeout => 2
  | .doorOpened => 3

/-- The code of a channel state. -/
def ChannelState.code : ChannelState → Nat
  | .unknown => 0
  | .valid => 1
  | .suspect => 2
  | .fault => 3

/-- The code of a reference state (R186). -/
def RefState.code : RefState → Nat
  | .ok => 0
  | .fault => 1

/-- The code of a lock state. -/
def LockState.code : LockState → Nat
  | .opened => 0
  | .engaging => 1
  | .locked => 2
  | .releasing => 3
  | .jammed => 4

/-- The code of a lock owner. -/
def LockOwner.code : LockOwner → Nat
  | .none => 0
  | .request => 1
  | .cycle => 2
  | .recovery => 3

/-- The code of a motor output (R188). -/
def Motor.code : Motor → Nat
  | .none => 0
  | .engage => 1
  | .release => 2

/-- The code of a fan state. -/
def FanState.code : FanState → Nat
  | .off => 0
  | .spinup => 1
  | .on => 2
  | .stalled => 3

/-- The code of a link state. -/
def LinkState.code : LinkState → Nat
  | .listen => 0
  | .active => 1
  | .quiet => 2

/-- The code of a cause (R157). -/
def Cause.code : Cause → Nat
  | .overtemp => 1
  | .catalystOvertemp => 2
  | .probeFault => 3
  | .cutout => 4
  | .relayStuck => 5
  | .noHeat => 6
  | .fanStall => 7
  | .doorBreach => 8
  | .lockJam => 9
  | .lockLost => 10
  | .boardOvertemp => 11

/-- The code of a tier. -/
def Tier.code : Tier → Nat
  | .one => 1
  | .two => 2

/-- The code of an OUTCOME. -/
def ReplyOutcome.code : ReplyOutcome → Nat
  | .done => 0
  | .busy => 1
  | .refused => 2
  | .unknown => 3

/-- The code of a REASON. -/
def Reason.code : Reason → Nat
  | .none => 0
  | .state => 1
  | .range => 2
  | .hot => 3
  | .door => 4
  | .trip => 5
  | .unbound => 6
  | .inUse => 7
  | .chain => 8
  | .sensor => 9
  | .absent => 10
  | .lock => 11
  | .map => 12
  | .format => 13
  | .postedRead => 14

/-- The nine bytes of an event record (R187). An absent detail, for which no marker is given, is sent as 0xFFFF (DESIGN
CHOICE, log entry 37). -/
def EventRecord.bytes (e : EventRecord) : List Byte :=
  [byte e.kind.code] ++ byteField (e.cavity.map Cavity.num)
    ++ [byte (e.severity % 4 + 64 * e.additional.toNat + 128 * e.detail.isSome.toNat)]
    ++ long e.uptime ++ wordField e.detail

/-! ## Replies -/

/-- A DONE reply with its payload. -/
def Reply.done (payload : List Byte) : Reply := ⟨.done, .none, payload, none⟩

/-- A BUSY reply (no payload, R186). -/
def Reply.busy : Reply := ⟨.busy, .none, [], none⟩

/-- An UNKNOWN reply (R175). -/
def Reply.unknown : Reply := ⟨.unknown, .none, [], none⟩

/-- A REFUSED reply whose reason carries no payload (R186). -/
def Reply.refuse (r : Reason) : Reply := ⟨.refused, r, [], none⟩

/-- REFUSED, RANGE with the field code, 0 where the rule gives none (R186). -/
def Reply.range (field : Nat) : Reply := ⟨.refused, .range, [byte field], none⟩

/-- REFUSED, CHAIN with the offending position and the check code (R28, R186). -/
def Reply.chain (position check : Nat) : Reply := ⟨.refused, .chain, [byte position, byte check], none⟩

/-- REFUSED, TRIP with the cause code (R165, R186). -/
def Reply.tripPresent (c : Cause) : Reply := ⟨.refused, .trip, [byte c.code], none⟩

end Sys2Proof.Machine
end

