-- ==== Sys2Proof/Machine/Relays.lean ====
section
/-! DEFINITION. The supply relays' opening and the standing of a cavity's outputs, which the Limit Supervisor and the
Sequencer both use (Element Drive and Load Sensing, R109, R113). Closing stands in Drive.lean: it can raise a cause. -/

namespace Sys2Proof.Machine

/-- A cavity's supply relay opens: a CLOSED one at once, its closing instant becoming absent; an OPEN one stays as it
is (R113). -/
def State.openRelay (s : State) (c : Cavity) : State :=
  if s.relayClosed c then s.setRelay c SupplyRelay.opened else s

/-- Has the cavity a STUCK output (R109)? -/
def State.hasStuck (s : State) (c : Cavity) : Bool :=
  s.drive.outputs.toList.any fun o => decide (o.owner.map Prod.fst = some c) && o.stuck

/-- Switch a cavity's convection fan output as its Sequencer orders (R152). -/
def State.setConvection (s : State) (c : Cavity) (on : Bool) : State :=
  s.setFan { s.fan with convection := s.fan.convection.set c on }

end Sys2Proof.Machine
end

