-- ==== Sys2Proof/Machine/Supervision.lean ====
section
/-! DEFINITION. The Limit Supervisor: raising a cause, trip records, the readings it takes, the cut-outs, and the
disabling and enabling of its part (Limit Supervision and Trips, R156 to R171), with the meanings of its events. CLEAR
TRIP and READ TRIP stand in Requests.lean. -/

namespace Sys2Proof.Machine

/-! ## Raising a cause -/

/-- Does a cause apply in a Sequencer state (R157)? -/
def Cause.applies : Cause → SeqState → Bool
  | .probeFault, st => decide (st = .locking) || decide (st = .running)
  | .cutout, st => decide (st = .locking) || decide (st = .running)
  | .fanStall, st => decide (st = .locking) || decide (st = .running)
  | .boardOvertemp, st => decide (st = .locking) || decide (st = .running)
  | .noHeat, st => decide (st = .running)
  | .overtemp, st => decide (st ≠ .absent)
  | .catalystOvertemp, st => decide (st ≠ .absent)
  | .relayStuck, st => decide (st ≠ .absent)
  | .doorBreach, st => decide (st ≠ .absent)
  | .lockJam, st => decide (st ≠ .absent)
  | .lockLost, st => decide (st ≠ .absent)

/-- The Tf at trip: the stored Tf when the stored cavity probe is VALID or SUSPECT (R162). -/
def LimitRecord.tfAtTrip (l : LimitRecord) : Option Int :=
  match l.reading with
  | some r => if r.probe.usable then r.probeTf else none
  | none => none

/-- The record position at a trip: the current record's position when the Sequencer is RUNNING (R162). -/
def Sequencer.tripPosition (q : Sequencer) : Option Nat :=
  if q.state = .running then q.current.map Prod.fst else none

/-- The trip record that a first cause creates (R162). -/
def State.newTrip (s : State) (c : Cavity) (cause : Cause) : TripRecord :=
  { first := cause, uptime := s.clock.uptime, tf := (s.limit.cavity.get c).tfAtTrip,
    position := (s.seq.get c).tripPosition, later := [] }

/-- A first cause trips the cavity: the record is created, the supply relay opened, grants and requests withdrawn,
TRIP queued and the trip notice sent, in this order (R162). -/
def State.trip (s : State) (c : Cavity) (cause : Cause) : State :=
  let s := s.setLimit c { s.limit.cavity.get c with active := some (s.newTrip c cause) }
  let s := (s.openRelay c).tripWithdraw c
  (s.queueEvent .trip (some c) 3 (some cause.code)).sendTripNotice c

/-- A later cause: passed over when the record holds it, otherwise added to the later-cause set with an additional
TRIP (R163). -/
def State.laterCause (s : State) (c : Cavity) (r : TripRecord) (cause : Cause) : State :=
  if r.first = cause ∨ cause ∈ r.later then s
  else
    (s.setLimit c { s.limit.cavity.get c with active := some { r with later := r.later ++ [cause] } }).queueEvent
      .trip (some c) 3 (some cause.code) true

/-- The Supervisor takes a cause raised for a cavity (R157, R162, R163). -/
def State.raise (s : State) (c : Cavity) (cause : Cause) : State :=
  if cause.applies (s.seq.get c).state then
    match (s.limit.cavity.get c).active with
    | none => s.trip c cause
    | some r => s.laterCause c r cause
  else s

/-- A cause raised for each enabled cavity, in rising cavity number (R148, R149, R161). -/
def State.raiseForEnabled (s : State) (cause : Cause) : State :=
  Cavity.all.foldl (fun s c => if s.enabled c then s.raise c cause else s) s

/-! ## Cavity readings -/

/-- A limit count after a reading: VALID at or above the limit adds 1 up to 3, VALID below sets 0, any other grade
keeps it (R158). -/
def limitCount (count : Nat) (state : ChannelState) (t : Option Int) (limit : Nat) : Nat :=
  match state, t with
  | .valid, some t => if (limit : Int) ≤ t then min 3 (count + 1) else 0
  | _, _ => count

/-- What the Supervisor stores of a cavity reading (R156). -/
def CavityReading.forLimit (r : CavityReading) : LimitReading :=
  { probe := r.probe, probeT := r.probeT, probeTf := r.probeTf, catalyst := r.catalyst, catalystT := r.catalystT }

/-- The stored reading is replaced and the limit counts are updated (R158, R159). -/
def State.storeReading (s : State) (c : Cavity) (r : CavityReading) : State :=
  let l := s.limit.cavity.get c
  let p := s.profiles.get c
  s.setLimit c { l with
    reading := some r.forLimit
    overtempCount := limitCount l.overtempCount r.probe r.probeT p.hardLimit
    catalystCount := limitCount l.catalystCount r.catalyst r.catalystT p.catalystLimit }

/-- Raise a cause when a condition holds. -/
def State.raiseIf (s : State) (b : Bool) (c : Cavity) (cause : Cause) : State := if b then s.raise c cause else s

/-- Is the cut-out OPEN while the supply relay is CLOSED (R160)? -/
def State.cutoutFeeds (s : State) (c : Cavity) : Bool :=
  decide ((s.limit.cavity.get c).cutout = .opened) && s.relayClosed c

/-- A cavity reading is taken whole: stored, the counts updated, then OVERTEMP, CATALYST_OVERTEMP, PROBE_FAULT and
CUTOUT raised as due (R158, R159). -/
def State.superviseReading (s : State) (c : Cavity) (r : CavityReading) : State :=
  let s₁ := s.storeReading c r
  let l := s₁.limit.cavity.get c
  let s₂ := (s₁.raiseIf (decide (l.overtempCount = 3)) c .overtemp).raiseIf
    (decide (l.catalystCount = 3)) c .catalystOvertemp
  let s₃ := s₂.raiseIf (decide (r.probe = .fault)) c .probeFault
  s₃.raiseIf (s₃.cutoutFeeds c) c .cutout

/-- The Supervisor takes the oldest cavity reading delivered to it; with none in flight nothing happens (DESIGN
CHOICE, log entry 3). -/
def takeSupervisorReading (c : Cavity) (s : State) : State :=
  match (s.box c).supervisorReadings with
  | [] => s
  | r :: rest => (s.setMail c { s.box c with supervisorReadings := rest }).superviseReading c r

/-- SUPERVISOR_CAVITY_READING (R159). -/
def execSupervisorCavityReading (c : Cavity) (s : State) : Host.Outcome State Fault Refusal :=
  .next (takeSupervisorReading c s)

/-! ## The board -/

/-- A board reading is stored; at 850 or more BOARD_OVERTEMP is raised for each enabled cavity (R161). -/
def State.superviseBoard (s : State) (b : Int) : State :=
  let s₁ := { s with limit := { s.limit with board := some b } }
  if 850 ≤ b then s₁.raiseForEnabled .boardOvertemp else s₁

/-- The Supervisor takes the oldest board reading delivered to it (R161). -/
def takeSupervisorBoard (s : State) : State :=
  match s.mail.supervisorBoard with
  | [] => s
  | b :: rest => { s with mail := { s.mail with supervisorBoard := rest } }.superviseBoard b

/-- SUPERVISOR_BOARD_READING (R161). -/
def execSupervisorBoardReading (s : State) : Host.Outcome State Fault Refusal := .next (takeSupervisorBoard s)

/-! ## The cut-outs -/

/-- The Supervisor takes the closing of the supply relay (R160). -/
def takeRelayClosing (c : Cavity) (s : State) : State :=
  if (s.box c).relayClosings = 0 then s
  else
    let s₁ := s.setMail c { s.box c with relayClosings := (s.box c).relayClosings - 1 }
    s₁.raiseIf (s₁.cutoutFeeds c) c .cutout

/-- SUPPLY_RELAY_CLOSED (R160). -/
def execSupplyRelayClosed (c : Cavity) (s : State) : Host.Outcome State Fault Refusal := .next (takeRelayClosing c s)

/-- The debounced cut-out input changes. An absent cavity's input is not watched (R170); a value already held is no
change (DESIGN CHOICE, log entry 5). An opening with the supply relay CLOSED raises CUTOUT (R160). -/
def changeCutout (c : Cavity) (value : Cutout) (s : State) : State :=
  let s := s.setPins c { s.pins.get c with cutout := value }
  let l := s.limit.cavity.get c
  if s.enabled c && decide (l.cutout ≠ value) then
    let s₁ := s.setLimit c { l with cutout := value }
    s₁.raiseIf (s₁.cutoutFeeds c) c .cutout
  else s

/-- CUTOUT_CHANGE (R160). -/
def execCutoutChange (c : Cavity) (value : Cutout) (s : State) : Host.Outcome State Fault Refusal :=
  .next (changeCutout c value s)

/-! ## Disabling and enabling -/

/-- The Supervisor's part of disabling a cavity (R170). -/
def State.disableLimit (s : State) (c : Cavity) : State :=
  s.setLimit c { s.limit.cavity.get c with reading := none, overtempCount := 0, catalystCount := 0, cleared := none }

/-- The Supervisor's part of enabling a cavity: the cut-out is set from its raw input (R170). -/
def State.enableLimit (s : State) (c : Cavity) : State :=
  s.setLimit c { s.limit.cavity.get c with
    reading := none, overtempCount := 0, catalystCount := 0, cutout := (s.pins.get c).cutout }

end Sys2Proof.Machine
end

