-- ==== Sys2Proof/Machine/Drive.lean ====
section
/-! DEFINITION. The Element Drive: the closing of a supply relay, the sense check with DEAD, STUCK and NO_HEAT, and the
rebuilding of output records (Element Drive and Load Sensing, R109 to R123), with the meaning of SENSE_CHECK. -/

namespace Sys2Proof.Machine

/-! ## The supply relay's closing -/

/-- The Drive takes the order to close a supply relay: refused on an active trip; refused on a STUCK output, which
raises RELAY_STUCK; nothing on a CLOSED relay; otherwise the relay closes, its closing instant is recorded and the
closing goes to the Supervisor (R112, R160). (DEDUCED, log entry 28.) -/
def State.closeRelay (s : State) (c : Cavity) : State :=
  if s.tripped c then s
  else if s.hasStuck c then s.raise c .relayStuck
  else if s.relayClosed c then s
  else (s.setRelay c { closedAt := some s.clock, sinceSlot := false }).sendRelayClosing c

/-! ## The sense check -/

/-- One output's place in a sense check. -/
structure Judgement where
  output  : Fin 12
  cavity  : Cavity
  element : Element
  granted : Bool
  current : Bool
deriving DecidableEq, Repr

/-- The output record at an output. -/
def State.output (s : State) (i : Fin 12) : OutputRecord := s.drive.outputs[i]

/-- Replace an output record. -/
def State.setOutput (s : State) (i : Fin 12) (o : OutputRecord) : State :=
  { s with drive := { s.drive with outputs := s.drive.outputs.set i o } }

/-- Does the cavity's relay qualify its outputs: enabled, and the relay CLOSED since the start of the slot (R114)? -/
def State.relayQualifies (s : State) (c : Cavity) : Bool :=
  s.enabled c && s.relayClosed c && (s.drive.relays.get c).sinceSlot

/-- The judgement of an output at a sense check, or none when it does not qualify or is skipped because its element
left the list since the handover (R114, R115). -/
def State.judgementOf (s : State) (loads : BitVec 12) (i : Fin 12) : Option Judgement :=
  match (s.output i).owner with
  | none => none
  | some (c, e) =>
    let handed := s.drive.handed.contains (c, e)
    let standing := s.alloc.grants.contains (c, e)
    if s.relayQualifies c && (handed == standing) then
      some { output := i, cavity := c, element := e, granted := standing, current := loads.getLsbD i }
    else none

/-- The judgements of a sense check, in rising output number (R120). -/
def State.judgements (s : State) (loads : BitVec 12) : List Judgement :=
  (List.finRange 12).filterMap (s.judgementOf loads)

/-- An output is sampled (R114). -/
def State.sampleLoad (s : State) (j : Judgement) : State :=
  s.setOutput j.output { s.output j.output with sense := some (if j.current then .current else .none) }

/-- A granted check that found no current: the miss count adds 1; at 3 the element becomes DEAD, ELEMENT_DEAD is
queued and its grant leaves the list (R116, R117). -/
def State.countMiss (s : State) (j : Judgement) : State :=
  let o := s.output j.output
  if o.missCount + 1 < 3 then s.setOutput j.output { o with missCount := o.missCount + 1 }
  else if o.dead then s.setOutput j.output { o with missCount := 3 }
  else ((s.setOutput j.output { o with missCount := 3, dead := true }).queueEvent .elementDead (some j.cavity) 2
    (some j.output)).dropGrant (j.cavity, j.element)

/-- An ungranted check that found current: the stuck count adds 1; at 2 the output becomes STUCK and RELAY_STUCK is
raised (R116, R118). -/
def State.countStuck (s : State) (j : Judgement) : State :=
  let o := s.output j.output
  if o.stuckCount + 1 < 2 then s.setOutput j.output { o with stuckCount := o.stuckCount + 1 }
  else (s.setOutput j.output { o with stuckCount := 2, stuck := true }).raise j.cavity .relayStuck

/-- A sampled output is judged; an output already STUCK is not counted further (R116). -/
def State.judge (s : State) (j : Judgement) : State :=
  let o := s.output j.output
  if o.stuck then s
  else match j.granted, j.current with
    | true, true => s.setOutput j.output { o with missCount := 0 }
    | true, false => s.countMiss j
    | false, true => s.countStuck j
    | false, false => s.setOutput j.output { o with stuckCount := 0 }

/-- Is every element of the cavity's demand table set DEAD while it is RUNNING in a HEAT or SOAK phase (R119)? -/
def State.noHeat (s : State) (c : Cavity) : Bool :=
  s.heating c && Element.all.all fun e => !(s.alloc.demand.get c).elements.has e || s.dead (c, e)

/-- The sense check, taken whole: every qualifying output is sampled, then judged in rising output number, then the
NO_HEAT test is made in rising cavity number (R120). -/
def checkSense (loads : BitVec 12) (s : State) : State :=
  let js := s.judgements loads
  let s₁ := js.foldl State.sampleLoad s
  let s₂ := js.foldl State.judge s₁
  Cavity.all.foldl (fun s c => s.raiseIf (s.noHeat c) c .noHeat) s₂

/-- SENSE_CHECK (R120). -/
def execSenseCheck (loads : BitVec 12) (s : State) : Host.Outcome State Fault Refusal := .next (checkSense loads s)

/-! ## The cavity profile -/

/-- The element of a cavity that a profile maps to an output, the lowest rank first (R109). -/
def CavityProfile.elementAt (p : CavityProfile) (i : Nat) : Option Element :=
  Element.all.find? fun e => decide (p.outputs.get e = some i)

/-- The output record of one output under a cavity's new profile: every output of the cavity is made unmapped, and
every output the profile names gets its owner and rating, statuses and counts cleared (R121). -/
def OutputRecord.rebuilt (o : OutputRecord) (c : Cavity) (p : CavityProfile) (i : Nat) : OutputRecord :=
  match p.elementAt i with
  | some e => { OutputRecord.unmapped with owner := some (c, e), rating := some (p.ratings.get e) }
  | none => if o.owner.map Prod.fst = some c then OutputRecord.unmapped else o

/-- The Drive rebuilds a cavity's output records from its profile (R121). -/
def State.rebuildOutputs (s : State) (c : Cavity) (p : CavityProfile) : State :=
  { s with drive := { s.drive with outputs := s.drive.outputs.mapFinIdx fun i o _ => o.rebuilt c p i } }

end Sys2Proof.Machine
end

