-- ==== Sys2Proof/Machine/Fans.lean ====
section
/-! DEFINITION. The Fan Controller: the readings it stores, the level sources, the hold-down, the speed measurement, the
stall and recovery tests, and the disabling and enabling of its part (Fans, R142 to R155), with the meanings of its
events. SET FAN FLOOR stands in Requests.lean, the convection switching orders in Relays.lean. -/

namespace Sys2Proof.Machine

/-! ## Stored readings -/

/-- What the Fan Controller stores of a cavity reading (R143). -/
def CavityReading.forFan (r : CavityReading) : FanReading := { probe := r.probe, tf := r.probeTf }

/-- The Fan Controller takes the oldest cavity reading delivered to it (R143; DESIGN CHOICE, log entry 3). -/
def takeFanReading (c : Cavity) (s : State) : State :=
  match (s.box c).fanReadings with
  | [] => s
  | r :: rest =>
    let s₁ := s.setMail c { s.box c with fanReadings := rest }
    s₁.setFan { s₁.fan with stored := s₁.fan.stored.set c (some r.forFan) }

/-- FAN_CAVITY_READING (R143). -/
def execFanCavityReading (c : Cavity) (s : State) : Host.Outcome State Fault Refusal := .next (takeFanReading c s)

/-- The Fan Controller takes the oldest board reading delivered to it (R143; DESIGN CHOICE, log entry 3). -/
def takeFanBoard (s : State) : State :=
  match s.mail.fanBoard with
  | [] => s
  | b :: rest =>
    let s₁ := { s with mail := { s.mail with fanBoard := rest } }
    s₁.setFan { s₁.fan with board := some b }

/-- FAN_BOARD_READING (R143). -/
def execFanBoardReading (s : State) : Host.Outcome State Fault Refusal := .next (takeFanBoard s)

/-! ## Speed measurement -/

/-- The most pulses that the tach count holds (R146). -/
def tachLimit : Nat := 1000

/-- One rising edge at the tach input (R146). -/
def countPulse (s : State) : State := s.setFan { s.fan with tachCount := min tachLimit (s.fan.tachCount + 1) }

/-- TACH_PULSE (R146). -/
def execTachPulse (s : State) : Host.Outcome State Fault Refusal := .next (countPulse s)

/-- The speed of a count of pulses (R146). -/
def rpmOf (pulses perRev : Nat) : Nat := pulses * 60 / perRev

/-- The nominal speed of a level; level 0 has none (R146). -/
def ApplianceProfile.nominal (a : ApplianceProfile) : Nat → Nat
  | 0 => 0
  | 1 => a.rpmLow
  | 2 => a.rpmMid
  | _ => a.rpmHigh

/-- Is a speed below half the nominal speed of a level? It is not tested for level 0 (R146). (DEDUCED, log entry 30.)
-/
def ApplianceProfile.belowHalf (a : ApplianceProfile) (level rpm : Nat) : Bool :=
  decide (level ≠ 0) && decide (2 * rpm < a.nominal level)

/-- The tach count of the second just ended is closed and the rpm worked out (R146, R150 step 1). -/
def State.closeTach (s : State) : State :=
  s.setFan { s.fan with
    pulses := some s.fan.tachCount
    rpm := some (rpmOf s.fan.tachCount s.appliance.pulsesPerRev)
    tachCount := 0 }

/-! ## Stall and recovery -/

/-- The evaluations in a row that stall the fan, and that recover it (R148, R149). -/
def stallRun : Nat := 10

/-- The stall test of an evaluation in ON (R148). -/
def State.stallTest (s : State) (rpm : Nat) : State :=
  if !s.appliance.belowHalf s.fan.level rpm then s.setFan { s.fan with stallCount := 0 }
  else if s.fan.stallCount + 1 < stallRun then s.setFan { s.fan with stallCount := s.fan.stallCount + 1 }
  else
    ((s.setFan { s.fan with state := .stalled, stallCount := 0, recoveryCount := 0 }).queueEvent .fanStall none 3
      (some rpm)).raiseForEnabled .fanStall

/-- The recovery test of an evaluation in STALLED, the repeated causes having been raised (R149). -/
def State.recoveryTest (s : State) (rpm : Nat) : State :=
  if s.appliance.belowHalf s.fan.level rpm then s.setFan { s.fan with recoveryCount := 0 }
  else if s.fan.recoveryCount + 1 < stallRun then s.setFan { s.fan with recoveryCount := s.fan.recoveryCount + 1 }
  else
    (s.setFan { s.fan with state := .on, stallCount := 0, recoveryCount := 0 }).queueEvent .fanRecovered none 1
      (some rpm)

/-- Step 2 of an evaluation: the stall test in ON; the repeated causes and the recovery test in STALLED (R150). -/
def State.speedTest (s : State) (rpm : Nat) : State :=
  match s.fan.state with
  | .on => s.stallTest rpm
  | .stalled => (s.raiseForEnabled .fanStall).recoveryTest rpm
  | .off => s
  | .spinup => s

/-! ## The level sources (R144) -/

/-- The level of a temperature against the fan thresholds. -/
def ApplianceProfile.levelAt (a : ApplianceProfile) (tf : Int) : Nat :=
  if (a.tHigh : Int) ≤ tf then 3 else if (a.tMid : Int) ≤ tf then 2 else if (a.tLow : Int) ≤ tf then 1 else 0

/-- The temperature source of a cavity's stored reading. A usable reading always carries a Tf (R143). -/
def ApplianceProfile.temperatureLevel (a : ApplianceProfile) : Option FanReading → Nat
  | none => 0
  | some r => if r.probe.usable then (match r.tf with | some tf => a.levelAt tf | none => 0) else 3

/-- The Sequencer source of a cavity. -/
def State.sequencerLevel (s : State) (c : Cavity) : Nat :=
  let q := s.seq.get c
  match q.state with
  | .running => ((s.phaseRecord c).map PhaseRecord.fanFloor).getD 0
  | .locking => 2
  | .settling => if q.lockOwned then 2 else 0
  | .recovering => if q.lockOwned then 2 else 0
  | .idle => 0
  | .faulted => 0
  | .absent => 0

/-- Is the stored reading VALID with Tf below T_low: the one case in which a tripped cavity asks for nothing? -/
def ApplianceProfile.provenCool (a : ApplianceProfile) : Option FanReading → Bool
  | some r => match r.probe, r.tf with
    | .valid, some tf => decide (tf < (a.tLow : Int))
    | _, _ => false
  | none => false

/-- Does the trip source watch the cavity: FAULTED, or SETTLING or RECOVERING with outcome TRIPPED? -/
def Sequencer.tripCooled (q : Sequencer) : Bool :=
  match q.state with
  | .faulted => true
  | .settling => decide (q.outcome = some .tripped)
  | .recovering => decide (q.outcome = some .tripped)
  | _ => false

/-- The trip source of a cavity. -/
def State.tripLevel (s : State) (c : Cavity) : Nat :=
  if (s.seq.get c).tripCooled && !s.appliance.provenCool (s.fan.stored.get c) then 3 else 0

/-- The highest level of a per-cavity source over the enabled cavities. -/
def State.highest (s : State) (f : Cavity → Nat) : Nat :=
  Cavity.all.foldl (fun m c => if s.enabled c then max m (f c) else m) 0

/-- The level that each of the six sources gives. -/
def State.fanSources (s : State) : FanSources :=
  { temperature := s.highest fun c => s.appliance.temperatureLevel (s.fan.stored.get c)
    sequencer := s.highest s.sequencerLevel
    trip := s.highest s.tripLevel
    board := match s.fan.board with
      | some b => if 700 ≤ b then 3 else 0
      | none => 0
    host := s.fan.hostFloor
    stall := if s.fan.state = .stalled then 3 else 0 }

/-- The demand of the sources: the highest. -/
def FanSources.demand (x : FanSources) : Nat :=
  max x.temperature (max x.sequencer (max x.trip (max x.board (max x.host x.stall))))

/-- The demand is formed from the sources (R144, R150 step 3). -/
def State.formDemand (s : State) : State :=
  s.setFan { s.fan with sources := s.fanSources, demand := s.fanSources.demand }

/-! ## The commanded level and the fan state -/

/-- The evaluations in a row that a lower demand must hold (R145). -/
def holdDownRun : Nat := 60

/-- The commanded level, the hold-down count and the duty after the demand is formed (R145, R150 step 4). -/
def Fan.follow (f : Fan) : Fan :=
  if f.level < f.demand then { f with holdDown := 0, level := f.demand, duty := dutyOf f.demand }
  else if f.demand = f.level then { f with holdDown := 0 }
  else if f.holdDown + 1 < holdDownRun then { f with holdDown := f.holdDown + 1 }
  else { f with holdDown := 0, level := f.demand, duty := dutyOf f.demand }

/-- The evaluations that SPINUP lasts (R147). -/
def spinupRun : Nat := 5

/-- The fan state after the level is updated from `before` (R147, R150 step 5). -/
def Fan.moveState (f : Fan) (before : Nat) : Fan :=
  if f.state = .stalled then f
  else if f.level = 0 then { f with state := .off, spinup := none, stallCount := 0, recoveryCount := 0 }
  else if before < f.level then { f with state := .spinup, spinup := some spinupRun, stallCount := 0 }
  else if f.state = .spinup then
    if (f.spinup.getD 0) ≤ 1 then { f with state := .on, spinup := none }
    else { f with spinup := some (f.spinup.getD 0 - 1) }
  else f

/-- A fan evaluation, taken whole (R150). -/
def evaluateFan (s : State) : State :=
  let s₁ := s.closeTach
  let s₂ := (s₁.speedTest (s₁.fan.rpm.getD 0)).formDemand
  s₂.setFan (s₂.fan.follow.moveState s₂.fan.level)

/-- FAN_EVALUATION (R150). -/
def execFanEvaluation (s : State) : Host.Outcome State Fault Refusal := .next (evaluateFan s)

/-! ## Disabling and enabling -/

/-- The Fan Controller's part of disabling a cavity: its stored reading becomes absent and its convection fan output
is set off (R143, R152). -/
def State.disableFan (s : State) (c : Cavity) : State :=
  s.setFan { s.fan with stored := s.fan.stored.set c none, convection := s.fan.convection.set c false }

/-- The Fan Controller's part of enabling a cavity: its stored reading is absent (R143). -/
def State.enableFan (s : State) (c : Cavity) : State :=
  s.setFan { s.fan with stored := s.fan.stored.set c none }

end Sys2Proof.Machine
end

