-- ==== Sys2Proof/Machine/Link.lean ====
section
/-! DEFINITION. The Service Link: the CRC, the receiver, the link state, the taking of a request with its reply or its
REQUEST_REFUSED, and the ends of a reply (The Service Link, R172 to R185), with the meanings of its own events. -/

namespace Sys2Proof.Machine

/-! ## The CRC (R174) -/

/-- One shift of the CRC register, most significant bit out, the polynomial x^8 + x^2 + x + 1 in. -/
def crcShift (r : Byte) : Byte := if r.msb then (r <<< 1) ^^^ 0x07#8 else r <<< 1

/-- The CRC register after one byte. -/
def crcByte (r b : Byte) : Byte :=
  crcShift (crcShift (crcShift (crcShift (crcShift (crcShift (crcShift (crcShift (r ^^^ b))))))))

/-- The CRC of a run of bytes in the order sent, from 0 (R174). -/
def crc8 (bytes : List Byte) : Byte := bytes.foldl crcByte 0#8

/-! ## Frames -/

/-- The request kinds (R175). -/
inductive RequestKind where
  | identify | readStatus | readEvents | setAttention | applianceProfile | cavityProfile | readProfile
  | writePhase | readPhase | erasePhase | startCycle | startInline | abortCycle | lockDoor | unlockDoor
  | setSupply | declareLoad | setFanFloor | clearTrip | readTrip | readSensor
deriving DecidableEq, Repr

/-- The request kinds in the order of their codes. -/
def RequestKind.all : List RequestKind :=
  [.identify, .readStatus, .readEvents, .setAttention, .applianceProfile, .cavityProfile, .readProfile,
    .writePhase, .readPhase, .erasePhase, .startCycle, .startInline, .abortCycle, .lockDoor, .unlockDoor,
    .setSupply, .declareLoad, .setFanFloor, .clearTrip, .readTrip, .readSensor]

/-- The kind code of a request kind (R175). -/
def RequestKind.code : RequestKind → Nat
  | .identify => 0x01
  | .readStatus => 0x02
  | .readEvents => 0x03
  | .setAttention => 0x04
  | .applianceProfile => 0x10
  | .cavityProfile => 0x11
  | .readProfile => 0x12
  | .writePhase => 0x20
  | .readPhase => 0x21
  | .erasePhase => 0x22
  | .startCycle => 0x30
  | .startInline => 0x31
  | .abortCycle => 0x32
  | .lockDoor => 0x40
  | .unlockDoor => 0x41
  | .setSupply => 0x50
  | .declareLoad => 0x51
  | .setFanFloor => 0x52
  | .clearTrip => 0x60
  | .readTrip => 0x61
  | .readSensor => 0x70

/-- The request kind of a kind code, if it is one (R175). -/
def requestKindOf (code : Nat) : Option RequestKind := RequestKind.all.find? fun k => decide (k.code = code)

/-- Is the kind a read kind (R175)? -/
def RequestKind.isRead : RequestKind → Bool
  | .identify => true
  | .readStatus => true
  | .readEvents => true
  | .readProfile => true
  | .readPhase => true
  | .readTrip => true
  | .readSensor => true
  | _ => false

/-- The payload length of a request kind (R186). -/
def RequestKind.length : RequestKind → Nat
  | .identify => 0
  | .readStatus => 2
  | .readEvents => 1
  | .setAttention => 1
  | .applianceProfile => 16
  | .cavityProfile => 32
  | .readProfile => 1
  | .writePhase => 17
  | .readPhase => 1
  | .erasePhase => 1
  | .startCycle => 2
  | .startInline => 17
  | .abortCycle => 1
  | .lockDoor => 1
  | .unlockDoor => 1
  | .setSupply => 2
  | .declareLoad => 2
  | .setFanFloor => 1
  | .clearTrip => 1
  | .readTrip => 1
  | .readSensor => 1

/-- Does the first payload byte of the kind name a cavity (R177, R186)? -/
def RequestKind.namesCavity : RequestKind → Bool
  | .readStatus => true
  | .cavityProfile => true
  | .readProfile => true
  | .startCycle => true
  | .startInline => true
  | .abortCycle => true
  | .lockDoor => true
  | .unlockDoor => true
  | .clearTrip => true
  | .readTrip => true
  | _ => false

/-- The cavity that a request's payload names, when it names one from 0 to 2 (R177; DEDUCED, log entry 14). -/
def RequestKind.cavityIn (k : RequestKind) (payload : List Byte) : Option Cavity :=
  if k.namesCavity && decide (payload.length = k.length) then cavityOf (byteAt payload 0) else none

/-- Is the request posted: bit 7 of KIND, or a broadcast (R175)? -/
def isPosted (h : Header) : Bool := h.posted || h.broadcast

/-- The broadcast address (R172). -/
def broadcastAddress : Byte := 0x0F#8

/-- The bytes of a request frame, the CRC last (R173, R175). -/
def frameBytes (node : Nat) (h : Header) (code : BitVec 7) (payload : List Byte) : List Byte :=
  let kind : Byte := byte (code.toNat + 128 * h.posted.toNat)
  let body := (if h.broadcast then broadcastAddress else byte node) :: byte (payload.length + 1) :: kind :: payload
  body ++ [crc8 body]

/-- The bytes of the reply frame of a node, the CRC last (R176). -/
def Reply.frameBytes (node : Nat) (r : Reply) : List Byte :=
  let body := byte (0x10 + node) :: byte (r.payload.length + 2) :: byte r.outcome.code :: byte r.reason.code
    :: r.payload
  body ++ [crc8 body]

/-- The characters that carry a frame's bytes: the first has the address marker (R172). -/
def lineChars : List Byte → List LineChar
  | [] => []
  | b :: bs => ⟨b, true, false⟩ :: bs.map fun x => ⟨x, false, false⟩

/-! ## The receiver (R173) -/

/-- The most LENGTH names (R173). -/
def lengthLimit : Nat := 64

/-- The receiver on an address character: a frame for this node or a broadcast begins, any other is skipped. -/
def receiveAddress (node : Nat) (b : Byte) : Receiver :=
  if b.toNat = node ∨ b = broadcastAddress then .take [b] else .skip

/-- A data character in TAKE is added to the frame: a LENGTH of 0 or above 64 discards it, and the character that
completes LENGTH + 3 ends it. The second component is the frame that has ended. -/
def receiveData (gathered : List Byte) (b : Byte) : Receiver × Option (List Byte) :=
  let g := gathered ++ [b]
  let n := byteAt g 1
  if gathered.length = 1 ∧ (n = 0 ∨ lengthLimit < n) then (.hunt, none)
  else if 1 < gathered.length ∧ g.length = n + 3 then (.hunt, some g)
  else (.take g, none)

/-- The receiver takes one character (R173). A character met after a break shows that the line is high again (DEDUCED,
log entry 20). An address character that also has a framing error, which fits two columns of the table of R173, is taken
under the framing error's (DESIGN CHOICE, log entry 36). -/
def receiveChar (node : Nat) (r : Receiver) (ch : LineChar) : Receiver × Option (List Byte) :=
  match r with
  | .take gathered =>
    if ch.framingError then (.hunt, none)
    else if ch.marker then (receiveAddress node ch.byte, none)
    else receiveData gathered ch.byte
  | .skip => if ch.marker && !ch.framingError then (receiveAddress node ch.byte, none) else (.skip, none)
  | _ => if ch.marker && !ch.framingError then (receiveAddress node ch.byte, none) else (.hunt, none)

/-- The receiver takes characters in turn: where it stands after them, and the frames that ended, in order. -/
def receiveAll (node : Nat) : Receiver → List LineChar → Receiver × List (List Byte)
  | r, [] => (r, [])
  | r, ch :: rest =>
    let one := receiveChar node r ch
    let more := receiveAll node one.1 rest
    (more.1, one.2.toList ++ more.2)

/-- Does a frame that has ended carry the right CRC (R174)? -/
def frameValid (frame : List Byte) : Bool := decide (frame.getLast? = some (crc8 frame.dropLast))

/-- The header of a frame that has ended: broadcast by its address, posted by bit 7 of KIND (R172, R175). -/
def frameHeader (frame : List Byte) : Header :=
  { broadcast := decide (frame.head? = some broadcastAddress), posted := bitAt (byteAt frame 2) 7 }

/-- The kind code of a frame: bits 6 to 0 of KIND (R175). -/
def frameCode (frame : List Byte) : BitVec 7 := BitVec.ofNat 7 (byteAt frame 2)

/-- The payload of a frame (R173). -/
def framePayload (frame : List Byte) : List Byte := (frame.drop 3).dropLast

/-! ## The link state (R178) -/

/-- A valid frame for this node or a broadcast has ended: the receiver is back in HUNT, the quiet timer restarts and
the link is ACTIVE; entering ACTIVE works out the budget afresh (R173, R178). (DESIGN CHOICE, log entry 31.) -/
def State.heard (s : State) : State :=
  let s₁ := s.setLink { s.link with receiver := .hunt, state := .active, quiet := some 0 }
  if s.link.state = .active then s₁ else s₁.rebudget

/-- The quiet timer reaches 5 s in ACTIVE; where a frame has restarted the timer, the link stays ACTIVE (R178). (DESIGN
CHOICE, log entry 5.) (DEDUCED, log entry 16.) -/
def quietReached (s : State) : State :=
  if s.link.quietExpires then (s.setLink { s.link with state := .quiet, quiet := none }).rebudget else s

/-- QUIET_TIMEOUT (R178). -/
def execQuietTimeout (s : State) : Host.Outcome State Fault Refusal := .next (quietReached s)

/-- A break: the partial frame and the reply owed are discarded, the link state is LISTEN with the quiet timer
stopped, and leaving ACTIVE works out the budget afresh (R178, R179). -/
def takeBreak (s : State) : State :=
  let s₁ := s.setLink { s.link with receiver := .waitHigh, owed := none, state := .listen, quiet := none }
  if s.link.state = .active then s₁.rebudget else s₁

/-- BREAK (R179). -/
def execLineBreak (s : State) : Host.Outcome State Fault Refusal := .next (takeBreak s)

/-- The line returns high after a break, and the receiver enters HUNT (R179; DESIGN CHOICE, log entry 5). -/
def lineHigh (s : State) : State :=
  if s.link.receiver = .waitHigh then s.setLink { s.link with receiver := .hunt } else s

/-- LINE_RETURN_HIGH (R179). -/
def execLineReturnHigh (s : State) : Host.Outcome State Fault Refusal := .next (lineHigh s)

/-- More than 4 ms between two characters of a frame in TAKE discards it (R173). -/
def characterGap (s : State) : State :=
  match s.link.receiver with
  | .take _ => s.setLink { s.link with receiver := .hunt }
  | _ => s

/-- CHARACTER_GAP_TIMEOUT (R173). -/
def execCharacterGapTimeout (s : State) : Host.Outcome State Fault Refusal := .next (characterGap s)

/-! ## Replies -/

/-- The event records that a READ EVENTS reply gave leave the queue; the overflow flag becomes set when an event was
discarded while the reply was owed and clear otherwise; ATTN is worked out afresh (R181, R182). -/
def Link.removeRead (l : Link) (n : Nat) (discarded : Bool) : Link :=
  { l with queue := l.queue.drop n, overflow := discarded }.withAttn

/-- The reply's CRC character has been sent: no reply is owed, and a READ EVENTS reply removes its records (R176,
R181). The reply's own characters have reached the receiver, which passes over them (R172; DEDUCED, log entry 27). -/
def Link.replySent (l : Link) (o : OwedReply) : Link :=
  let l := { l with owed := none, receiver := (receiveAll l.node l.receiver (lineChars (o.reply.frameBytes l.node))).1 }
  match o.reply.reads with
  | some n => l.removeRead n o.discarded
  | none => l

/-- The reply owed is complete; with none owed nothing happens (DESIGN CHOICE, log entry 5). -/
def completeReply (s : State) : State :=
  match s.link.owed with
  | some o => s.setLink (s.link.replySent o)
  | none => s

/-- REPLY_COMPLETE (R176). (DESIGN CHOICE, log entry 8.) -/
def execReplyComplete (s : State) : Host.Outcome State Fault Refusal := .next (completeReply s)

/-- The detail of REQUEST_REFUSED: the kind code in the upper byte, OUTCOME × 16 + REASON in the lower (R187). -/
def refusedDetail (code : Nat) (r : Reply) : Nat := code * 256 + (r.outcome.code * 16 + r.reason.code)

/-- What follows the outcome of a request: a posted one queues REQUEST_REFUSED unless DONE (R177); any other leaves
its reply owed (R176). -/
def State.answer (s : State) (h : Header) (code : Nat) (cavity : Option Cavity) (r : Reply) : State :=
  if isPosted h then
    if r.outcome = .done then s else s.queueEvent .requestRefused cavity 2 (some (refusedDetail code r))
  else s.setLink { s.link with owed := some { reply := r, discarded := false } }

/-! ## Taking a request -/

/-- What an owner makes of a request that reaches it: the new state and the reply. -/
abbrev Owner := List Byte → State → State × Reply

/-- The checks of R175 in their order, and the handing of the request to its owner. -/
def dispatchRequest (k : RequestKind) (h : Header) (payload : List Byte) (owner : Owner) (s : State) : State × Reply :=
  if payload.length ≠ k.length then (s, Reply.refuse .format)
  else if k.isRead && isPosted h then (s, Reply.refuse .postedRead)
  else owner payload s

/-- A valid request frame for this node or a broadcast ends: the link state is updated, and unless a reply is owed the
request is taken and answered (R175 to R178). (DEDUCED, log entry 22.) -/
def takeRequest (k : RequestKind) (h : Header) (payload : List Byte) (owner : Owner) (s : State) : State :=
  if s.link.owed.isSome then s.heard
  else
    let out := dispatchRequest k h payload owner s.heard
    out.1.answer h k.code (k.cavityIn payload) out.2

/-- A valid frame whose kind code is not a request kind ends: outcome UNKNOWN (R175). -/
def takeUnknown (h : Header) (code : Nat) (s : State) : State :=
  if s.link.owed.isSome then s.heard else s.heard.answer h code none Reply.unknown

end Sys2Proof.Machine
end

