-- ==== Sys2Proof/Machine/Regulation.lean ====
section
/-! DEFINITION. The Regulation Unit: the setpoint, the PI law with its freeze test, the catalyst cap, the posting of the
demand and the heat-complete notice (Temperature Regulation, R65 to R82), with the meanings of REGULATE_REQUEST and
OFF_REQUEST. -/

namespace Sys2Proof.Machine

/-! ## The setpoint -/

/-- The setpoint of a context: S60 / 60, rounded down, or absent (R65). -/
def Regulation.setpoint (x : Regulation) : Option Nat := x.s60.map (· / 60)

/-- The target of a request as a count of tenths, 0 where it carries none. -/
def RegRequest.targetNat (r : RegRequest) : Nat := (r.target.getD 0).toNat

/-- Does the request begin a regulated phase: the marker, or S60 absent (R67)? -/
def RegRequest.begins (r : RegRequest) (x : Regulation) : Bool := r.newPhase || x.s60.isNone

/-- S60 at the begin of a HEAT phase: 60 × the smaller of the target and Tf, a negative or absent Tf counting as 0
(R68). -/
def RegRequest.startS60 (r : RegRequest) : Nat := 60 * min r.targetNat (r.tf.getD 0).toNat

/-- The ramp step (R68). -/
def RegRequest.rampStep (r : RegRequest) (s60 : Nat) : Nat :=
  match r.ramp with
  | some ramp => min (s60 + ramp) (60 * r.targetNat)
  | none => 60 * r.targetNat

/-- S60 after the setpoint step of a REGULATE request: the ramp step for HEAT, the target for SOAK (R67 to R69). -/
def RegRequest.nextS60 (r : RegRequest) (x : Regulation) : Nat :=
  match r.kind with
  | some .heat => r.rampStep (if r.begins x then r.startS60 else x.s60.getD 0)
  | _ => 60 * r.targetNat

/-! ## The PI law -/

/-- The integral's upper end (R71). -/
def integralLimit : Nat := 1000000

/-- The previous bound: the catalyst cap when the cap was in force, otherwise 1000 (R72). -/
def Regulation.bound (x : Regulation) (cap : Nat) : Nat := if x.capInForce then cap else 1000

/-- The freeze test: is integration skipped (R72)? -/
def Regulation.frozen (x : Regulation) (e : Int) (cap : Nat) (limited : Bool) : Bool :=
  if 0 < e then limited || decide (x.u = x.bound cap)
  else if e < 0 then decide (x.u = 0)
  else false

/-- The integral after a request (R71). -/
def Regulation.integrate (x : Regulation) (e : Int) (ki cap : Nat) (limited : Bool) : Nat :=
  if x.frozen e cap limited then x.iAcc else clampNat integralLimit ((x.iAcc : Int) + ki * e)

/-- The proportional term: Kp × e / 10, truncated toward zero (R70). -/
def proportional (kp : Nat) (e : Int) : Int := Int.tdiv ((kp : Int) * e) 10

/-- The demand before the cap: P + I, clamped to 0 to 1000 (R73). -/
def demandOf (p : Int) (iAcc : Nat) : Nat := clampNat 1000 (p + ((iAcc / 1000 : Nat) : Int))

/-! ## The catalyst cap -/

/-- Is the catalyst cap in force for a request: a gate, and a catalyst probe that is not usable or reads below it
(R74)? -/
def RegRequest.capped (r : RegRequest) : Bool :=
  match r.gate with
  | none => false
  | some gate =>
    if r.catalyst.usable then
      match r.catalystTf with
      | some tf => decide (tf < gate)
      | none => true
    else true

/-! ## One request -/

/-- The heat-complete test of a REGULATE request against the context it leaves (R77). -/
def RegRequest.heatComplete (r : RegRequest) (sent : Bool) (sp approach : Nat) : Bool :=
  match r.tf with
  | none => false
  | some tf =>
    decide (r.kind = some .heat) && !sent && decide (sp = r.targetNat) && decide ((r.targetNat : Int) - approach ≤ tf)

/-- The context after a REGULATE request, heat-complete sent apart from the notice of this request (R78). -/
def Regulation.regulate (x : Regulation) (r : RegRequest) (p : CavityProfile) (limited : Bool) : Regulation :=
  let s60 := r.nextS60 x
  let sp := s60 / 60
  let sent := x.heatSent && !r.begins x
  let iAcc := match r.tf with
    | some tf => x.integrate ((sp : Int) - tf) p.ki p.catalystCap limited
    | none => x.iAcc
  let u := match r.tf with
    | some tf => demandOf (proportional p.kp ((sp : Int) - tf)) iAcc
    | none => x.u
  { s60 := some s60
    iAcc := iAcc
    u := if r.capped then min u p.catalystCap else u
    heatSent := sent || r.heatComplete sent sp p.approachBand
    capInForce := r.capped }

/-- Does a REGULATE request send the heat-complete notice (R77)? -/
def Regulation.notifies (x : Regulation) (r : RegRequest) (p : CavityProfile) : Bool :=
  r.heatComplete (x.heatSent && !r.begins x) (r.nextS60 x / 60) p.approachBand

/-- The Unit takes a REGULATE request of a cavity: the context, then the demand posted, then the notice (R78). -/
def State.takeRegulate (s : State) (c : Cavity) (r : RegRequest) : State :=
  let x := s.reg.get c
  let p := s.profiles.get c
  let x' := x.regulate r p (s.alloc.powerLimited.get c)
  let s' := (s.setReg c x').postDemand c x'.u
  if x.notifies r p then s'.sendHeatComplete c r.position else s'

/-- The Unit takes a request with mode OFF (R66). -/
def State.takeOff (s : State) (c : Cavity) : State := (s.setReg c Regulation.powerUp).postDemand c 0

/-- The oldest regulation request posted for the cavity is taken out of its mailbox. -/
def State.dropRegulation (s : State) (c : Cavity) : State :=
  s.setMail c { s.box c with regulation := (s.box c).regulation.tail }

/-- The Unit takes the cavity's oldest request when its mode is REGULATE. Requests of one cavity are taken in the
order in which they were posted (R65), so with another mode in front, or nothing in flight, nothing happens (DESIGN
CHOICE, log entry 3). -/
def takeRegulateRequest (c : Cavity) (s : State) : State :=
  match (s.box c).regulation with
  | [] => s
  | r :: _ => if r.mode = .regulate then (s.dropRegulation c).takeRegulate c r else s

/-- REGULATE_REQUEST (R78). -/
def execRegulateRequest (c : Cavity) (s : State) : Host.Outcome State Fault Refusal := .next (takeRegulateRequest c s)

/-- The Unit takes the cavity's oldest request when its mode is OFF (R65, R66; DESIGN CHOICE, log entry 3). -/
def takeOffRequest (c : Cavity) (s : State) : State :=
  match (s.box c).regulation with
  | [] => s
  | r :: _ => if r.mode = .off then (s.dropRegulation c).takeOff c else s

/-- OFF_REQUEST (R66). -/
def execOffRequest (c : Cavity) (s : State) : Host.Outcome State Fault Refusal := .next (takeOffRequest c s)

end Sys2Proof.Machine
end

