-- ==== Sys2Proof/Machine/Sensing.lean ====
section
/-! DEFINITION. The Sensor Scanner: samples, readings, the reference check, conversion, filter, channel states and the
cavity reading (Temperature Sensing, R1 to R16), with the meanings of SAMPLE_INSTANT and WHOLE_SECOND_READING. -/

namespace Sys2Proof.Machine

/-! ## Samples -/

/-- The samples of one second (R1). -/
def samplesPerSecond : Nat := 4

/-- A sample joins the store; the store of a second holds four (R1; DEDUCED, log entry 25). -/
def addSample (store : List Nat) (r : Nat) : List Nat :=
  if store.length < samplesPerSecond then store ++ [r] else store

/-- A channel takes one sample. -/
def Channel.sample (ch : Channel) (r : Nat) : Channel := { ch with samples := addSample ch.samples r }

/-- The two probe channels of a cavity take one sample each. -/
def ProbePair.sample (p : ProbePair) (r : ProbeSamples) : ProbePair :=
  { cavity := p.cavity.sample r.cavity, catalyst := p.catalyst.sample r.catalyst }

/-- One sample instant: REF and every probe channel in service, that is of an enabled cavity (R1, R16). -/
def sampleAll (r : Samples) (s : State) : State :=
  s.setScanner { s.scanner with
    probes := s.scanner.probes.map fun c p => if s.enabled c then p.sample (r.probes.get c) else p
    ref := { s.scanner.ref with samples := addSample s.scanner.ref.samples r.reference } }

/-- SAMPLE_INSTANT (R1). -/
def execSampleInstant (r : Samples) (s : State) : Host.Outcome State Fault Refusal := .next (sampleAll r s)

/-! ## The reading of a second -/

/-- Is a sample valid (R2)? -/
def validSample (r : Nat) : Bool := decide (8000 ≤ r) && decide (r ≤ 33000)

/-- The valid samples of a store (R3). -/
def validSamples (store : List Nat) : List Nat := store.filter validSample

/-- The raw reading: the mean of the valid samples, truncated, or absent when there is none (R3). -/
def rawReading (store : List Nat) : Option Nat :=
  if (validSamples store).length = 0 then none else some ((validSamples store).sum / (validSamples store).length)

/-- Is the reading valid on its own samples: three or four valid (R3)? -/
def measuredValid (store : List Nat) : Bool := decide (3 ≤ (validSamples store).length)

/-! ## From resistance to temperature -/

/-- The resistances R_0 to R_12 of the breakpoints, in 0.1 Ω. -/
def breakpoints : List Int :=
  [10000, 11940, 13851, 15733, 17586, 19410, 21205, 22972, 24709, 26418, 28098, 29749, 31371]

/-- The resistance of breakpoint k. -/
def breakpoint (k : Nat) : Int := breakpoints.getD k 0

/-- The segment of a raw reading: 0 below 10000, 11 from 29749, and between them the k with R_k ≤ R < R_(k+1), which
is the number of inner breakpoints R_1 to R_11 at or below R (R7). -/
def segmentOf (r : Int) : Nat :=
  if r < 10000 then 0
  else if 29749 ≤ r then 11
  else ((breakpoints.drop 1).filter fun b => decide (b ≤ r)).length

/-- The quotient of integers, the divisor positive, rounded to nearest with a half away from zero. -/
def roundDiv (a b : Int) : Int :=
  if 0 ≤ a then (2 * a + b) / (2 * b) else -((2 * (-a) + b) / (2 * b))

/-- The temperature of a raw reading, in tenths (R8). -/
def temperatureOf (raw : Nat) : Int :=
  let r : Int := raw
  let k := segmentOf r
  500 * k + roundDiv ((r - breakpoint k) * 500) (breakpoint (k + 1) - breakpoint k)

/-! ## The filter -/

/-- One filter step: the difference to 16·T divided by 2^s, truncated toward zero, is added to F16 (R9). -/
def filterStep (shift : Nat) (f16 t : Int) : Int := f16 + Int.tdiv (16 * t - f16) (2 ^ shift)

/-- The filtered temperature of an accumulator: (F16 + 8) / 16, floor (R9). -/
def filtered (f16 : Int) : Int := (f16 + 8) / 16

/-! ## Channel states -/

/-- The invalid readings in a row that fault a channel, and the valid ones in a row that return it (R11, R12). -/
def faultRun : Nat := 3

/-- The valid readings in a row that return a channel from FAULT (R12). -/
def recoverRun : Nat := 10

/-- The channel with this second's valid temperature, F16 set afresh to 16·T (R10). -/
def Channel.setAfresh (ch : Channel) (t : Int) : Channel :=
  { ch with state := .valid, f16 := 16 * t, t := some t, tf := some t }

/-- The channel with this second's valid temperature and the filter updated (R9). -/
def Channel.update (ch : Channel) (shift : Nat) (t : Int) : Channel :=
  let f := filterStep shift ch.f16 t
  { ch with state := .valid, f16 := f, t := some t, tf := some (filtered f) }

/-- Entry into FAULT (R12). -/
def Channel.enterFault (ch : Channel) : Channel :=
  { ch with state := .fault, invalidRun := faultRun, validRun := 0, held := none, t := none, tf := none }

/-- One more invalid reading in a row, in UNKNOWN or SUSPECT (R11). -/
def Channel.countInvalid (ch : Channel) : Channel :=
  if faultRun ≤ ch.invalidRun + 1 then ch.enterFault else { ch with invalidRun := ch.invalidRun + 1 }

/-- The move of a channel on a valid reading of temperature t (R11, R12). -/
def Channel.onValid (ch : Channel) (shift : Nat) (t : Int) : Channel :=
  match ch.state with
  | .unknown => { ch.setAfresh t with invalidRun := 0 }
  | .valid => ch.update shift t
  | .suspect => { ch.update shift t with invalidRun := 0, held := none }
  | .fault =>
    if recoverRun ≤ ch.validRun + 1 then { ch.setAfresh t with validRun := recoverRun, invalidRun := 0 }
    else { ch with validRun := ch.validRun + 1 }

/-- The T and Tf of the last VALID second, to be held (R11). -/
def Channel.lastValid (ch : Channel) : Option (Int × Int) :=
  match ch.t, ch.tf with
  | some t, some tf => some (t, tf)
  | _, _ => none

/-- The move of a channel on an invalid reading (R11, R12). -/
def Channel.onInvalid (ch : Channel) : Channel :=
  match ch.state with
  | .unknown => ch.countInvalid
  | .valid => { ch with state := .suspect, invalidRun := 1, held := ch.lastValid }
  | .suspect => ch.countInvalid
  | .fault => { ch with validRun := 0 }

/-- A channel forms the reading of its second and is graded: the reading is valid on its samples and outside a
reference fault (R3, R5, R11); the store is emptied, and the shift is the one in use (R10, R17). -/
def Channel.grade (ch : Channel) (shift : Nat) (refFault : Bool) (now : Nat) : Channel :=
  let ok := measuredValid ch.samples && !refFault
  let formed := { ch with
    raw := rawReading ch.samples, count := some (validSamples ch.samples).length, valid := some ok,
    shift := some shift, formedAt := some now, samples := [] }
  match ok, rawReading ch.samples with
  | true, some r => formed.onValid shift (temperatureOf r)
  | _, _ => formed.onInvalid

/-- A channel that did not take all four samples of the second is not graded; its store is emptied (R16). -/
def Channel.second (ch : Channel) (shift : Nat) (refFault : Bool) (now : Nat) : Channel :=
  if ch.samples.length = samplesPerSecond then ch.grade shift refFault now else { ch with samples := [] }

/-! ## The reference check -/

/-- The bad seconds in a row that enter REF_FAULT, and the good ones in a row that leave it (R4). -/
def refBadRun : Nat := 3

/-- The good seconds in a row that return REF_OK (R4). -/
def refGoodRun : Nat := 10

/-- Is a second good for the reference (R4)? -/
def referenceGood (store : List Nat) : Bool :=
  measuredValid store &&
    match rawReading store with
    | some r => decide (14850 ≤ r) && decide (r ≤ 15150)
    | none => false

/-- The reference state moves on a good or a bad second (R4). -/
def RefChannel.move (r : RefChannel) (good : Bool) : RefChannel :=
  match r.state, good with
  | .ok, true => { r with badCount := 0 }
  | .ok, false =>
    if refBadRun ≤ r.badCount + 1 then { r with badCount := refBadRun, state := .fault, goodCount := 0 }
    else { r with badCount := r.badCount + 1 }
  | .fault, true =>
    if refGoodRun ≤ r.goodCount + 1 then { r with goodCount := refGoodRun, state := .ok, badCount := 0 }
    else { r with goodCount := r.goodCount + 1 }
  | .fault, false => { r with goodCount := 0 }

/-- The REF reading of the second is formed and the reference state updated (R3, R4). -/
def RefChannel.second (r : RefChannel) (now : Nat) : RefChannel :=
  let good := referenceGood r.samples
  let r' := r.move good
  { r' with
    raw := rawReading r.samples, count := some (validSamples r.samples).length, good := some good,
    formedAt := some now, samples := [] }

/-- The reference step of a whole second, with its event, detail 6 (R4). -/
def referenceSecond (s : State) : State :=
  let r := s.scanner.ref.second s.clock.uptime
  let s' := s.setScanner { s.scanner with ref := r }
  match s.scanner.ref.state, r.state with
  | .ok, .fault => s'.queueEvent .sensorFault none 2 (some 6)
  | .fault, .ok => s'.queueEvent .sensorRecovered none 0 (some 6)
  | _, _ => s'

/-! ## Grading the probe channels -/

/-- A cavity's probe or its catalyst probe. -/
inductive ProbeKind where
  | cavity | catalyst
deriving DecidableEq, Repr

/-- A probe channel of a pair. -/
def ProbePair.channel (p : ProbePair) : ProbeKind → Channel
  | .cavity => p.cavity
  | .catalyst => p.catalyst

/-- Replace a probe channel of a pair. -/
def ProbePair.setChannel (p : ProbePair) (k : ProbeKind) (ch : Channel) : ProbePair :=
  match k with
  | .cavity => { p with cavity := ch }
  | .catalyst => { p with catalyst := ch }

/-- The probe channels in rising channel number: P0, P1, P2, K0, K1, K2. -/
def probeChannels : List (Cavity × ProbeKind) :=
  (Cavity.all.map fun c => (c, .cavity)) ++ (Cavity.all.map fun c => (c, .catalyst))

/-- The channel number of a probe channel: 0 to 5. -/
def channelNumber (c : Cavity) : ProbeKind → Nat
  | .cavity => c.num
  | .catalyst => 3 + c.num

/-- The event of a channel's change into or out of FAULT (R13). -/
def channelEvent (s : State) (c : Cavity) (k : ProbeKind) (before after : ChannelState) : State :=
  if before ≠ .fault ∧ after = .fault then s.queueEvent .sensorFault (some c) 2 (some (channelNumber c k))
  else if before = .fault ∧ after ≠ .fault then s.queueEvent .sensorRecovered (some c) 0 (some (channelNumber c k))
  else s

/-- One probe channel in service is graded, under the reference state as it now stands (R5, R11, R13). -/
def gradeChannel (s : State) (x : Cavity × ProbeKind) : State :=
  if s.enabled x.1 then
    let pair := s.scanner.probes.get x.1
    let ch := pair.channel x.2
    let ch' := ch.second (s.profiles.get x.1).filterShift (decide (s.scanner.ref.state = .fault)) s.clock.uptime
    let s' := s.setScanner { s.scanner with probes := s.scanner.probes.set x.1 (pair.setChannel x.2 ch') }
    channelEvent s' x.1 x.2 ch.state ch'.state
  else s

/-! ## Delivering the readings -/

/-- The cavity reading that a pair of channels gives (R14). -/
def ProbePair.reading (p : ProbePair) (now : Nat) : CavityReading :=
  { uptime := now, probe := p.cavity.state, probeT := p.cavity.t, probeTf := p.cavity.tf,
    catalyst := p.catalyst.state, catalystT := p.catalyst.t, catalystTf := p.catalyst.tf }

/-- The cavity reading of an enabled cavity whose channels were both graded this second is delivered (R14, R16).
`graded` says which cavities' channels had taken all four samples. -/
def deliverCavity (graded : PerCavity Bool) (s : State) (c : Cavity) : State :=
  if s.enabled c && graded.get c then
    let r := (s.scanner.probes.get c).reading s.clock.uptime
    (s.setScanner { s.scanner with latest := s.scanner.latest.set c (some r) }).deliverReading c r
  else s

/-- The board reading: the sensor's figure clamped to -400 to 1500 (R6). -/
def boardReading (x : Int) : Int := max (-400) (min 1500 x)

/-- The board reading is formed and delivered to the Supervisor and the Fan Controller (R6). -/
def deliverBoard (x : Int) (s : State) : State :=
  let b := boardReading x
  { s.setScanner { s.scanner with board := some b, boardAt := some s.clock.uptime } with
    mail := { s.mail with supervisorBoard := s.mail.supervisorBoard ++ [b], fanBoard := s.mail.fanBoard ++ [b] } }

/-- Which cavities' two channels have taken all four samples of the second (R16). (DEDUCED, log entry 25.) -/
def fullSecond (s : State) : PerCavity Bool :=
  s.scanner.probes.map fun _ p =>
    decide (p.cavity.samples.length = samplesPerSecond) && decide (p.catalyst.samples.length = samplesPerSecond)

/-- A whole second of the scanner: the reference first, then the probe channels in rising number, then the cavity
readings and the board reading (R3 to R6, R11, R13, R14). -/
def wholeSecond (board : Int) (s : State) : State :=
  let graded := fullSecond s
  let s₁ := probeChannels.foldl gradeChannel (referenceSecond s)
  deliverBoard board (Cavity.all.foldl (deliverCavity graded) s₁)

/-- WHOLE_SECOND_READING (R3). -/
def execWholeSecondReading (board : Int) (s : State) : Host.Outcome State Fault Refusal := .next (wholeSecond board s)

/-! ## Disabling and enabling a cavity -/

/-- A disabled cavity's channels go out of service and their records are reset (R15); an enabled one's come into
service with the same record (R16). -/
def resetChannels (s : State) (c : Cavity) : State :=
  s.setScanner { s.scanner with
    probes := s.scanner.probes.set c ⟨Channel.powerUp, Channel.powerUp⟩, latest := s.scanner.latest.set c none }

end Sys2Proof.Machine
end

