-- ==== Sys2Proof/Machine/Locks.lean ====
section
/-! DEFINITION. The Door Lock Controllers: travels, switch changes, the Sequencer's orders, and the disabling and
enabling of their part (Door Locks, R124 to R141), with the meanings of their events. LOCK DOOR and UNLOCK DOOR stand
in Requests.lean. -/

namespace Sys2Proof.Machine

/-! ## Travels -/

/-- An engagement begins: the owner is set, the state becomes ENGAGING and the travel timer starts (R126, R127). -/
def DoorLock.engage (l : DoorLock) (owner : LockOwner) : DoorLock :=
  { l with state := .engaging, owner := owner, timer := some 0, reversal := none }

/-- An ordinary release begins: the owner is kept and the travel timer starts (R126, R132). -/
def DoorLock.release (l : DoorLock) : DoorLock :=
  { l with state := .releasing, timer := some 0, reversal := none }

/-- The travel reverses: the timer's value becomes the reversal time and the timer restarts (R129). -/
def DoorLock.reverse (l : DoorLock) : DoorLock :=
  { l with state := .releasing, reversal := some (l.timer.getD 0), timer := some 0 }

/-- The lock is at rest in a state, neither timer running (R125). -/
def DoorLock.rest (l : DoorLock) (state : LockState) : DoorLock :=
  { l with state := state, timer := none, reversal := none }

/-- The lock comes to rest OPEN with owner NONE (R125, R130). -/
def DoorLock.restOpen (l : DoorLock) : DoorLock := { l.rest .opened with owner := .none }

/-- ENGAGING ended by the lock switch: LOCKED, LOCK_ENGAGED, and the notice (R128). -/
def State.lockEngaged (s : State) (c : Cavity) (l : DoorLock) : State :=
  ((s.setLock c (l.rest .locked)).queueEvent .lockEngaged (some c) 1 none).sendLockNotice c .atRestLocked

/-- A release ends OPEN: owner NONE, LOCK_RELEASED, and the notice (R130, R137). -/
def State.lockReleased (s : State) (c : Cavity) (l : DoorLock) : State :=
  ((s.setLock c l.restOpen).queueEvent .lockReleased (some c) 1 none).sendLockNotice c .atRestOpen

/-- A travel has run out: JAMMED with the owner kept, LOCK_JAM queued with its detail, then the cause LOCK_JAM, then
the notice (R128, R130). -/
def State.lockJammed (s : State) (c : Cavity) (l : DoorLock) (detail : Nat) : State :=
  (((s.setLock c (l.rest .jammed)).queueEvent .lockJam (some c) 3 (some detail)).raise c
    .lockJam).sendLockNotice c .atRestJammed

/-- The lock switch moved without drive: JAMMED with the owner kept, the cause LOCK_LOST, then the notice (R133). -/
def State.lockLost (s : State) (c : Cavity) (l : DoorLock) : State :=
  ((s.setLock c (l.rest .jammed)).raise c .lockLost).sendLockNotice c .atRestJammed

/-! ## Switch changes -/

/-- The debounced door switch has changed (R129, R130, R134). -/
def State.doorChanged (s : State) (c : Cavity) (value : DoorSwitch) : State :=
  let l := { s.locks.get c with door := value }
  match (s.locks.get c).state, value with
  | .engaging, .opened => (s.setLock c l.reverse).sendLockNotice c .doorOpenedEngaging
  | .locked, .opened => (s.setLock c l).raise c .doorBreach
  | _, _ => s.setLock c l

/-- A door change. An absent cavity's inputs are not watched (R139); a value already held is no change (DESIGN
CHOICE, log entry 5). -/
def changeDoor (c : Cavity) (value : DoorSwitch) (s : State) : State :=
  let s := s.setPins c { s.pins.get c with door := value }
  if s.enabled c && decide ((s.locks.get c).door ≠ value) then s.doorChanged c value else s

/-- DOOR_CHANGE (R124). (DESIGN CHOICE, log entry 8.) -/
def execDoorChange (c : Cavity) (value : DoorSwitch) (s : State) : Host.Outcome State Fault Refusal :=
  .next (changeDoor c value s)

/-- The debounced lock switch has changed (R128, R130, R133). -/
def State.lockSwitchChanged (s : State) (c : Cavity) (value : LockSwitch) : State :=
  let l := { s.locks.get c with switch := value }
  match (s.locks.get c).state, value with
  | .engaging, .locked => s.lockEngaged c l
  | .releasing, .unlocked => s.lockReleased c l
  | .releasing, .locked => s.setLock c { l with reversal := none }
  | .locked, .unlocked => s.lockLost c l
  | .opened, .locked => s.lockLost c { l with owner := .none }
  | _, _ => s.setLock c l

/-- A lock switch change (R124, R139; DESIGN CHOICE, log entry 5). -/
def changeLockSwitch (c : Cavity) (value : LockSwitch) (s : State) : State :=
  let s := s.setPins c { s.pins.get c with lock := value }
  if s.enabled c && decide ((s.locks.get c).switch ≠ value) then s.lockSwitchChanged c value else s

/-- LOCK_SWITCH_CHANGE (R124). -/
def execLockSwitchChange (c : Cavity) (value : LockSwitch) (s : State) : Host.Outcome State Fault Refusal :=
  .next (changeLockSwitch c value s)

/-! ## Timers -/

/-- The engage travel runs out; with no engagement in progress the expiry finds nothing (R128). (DESIGN CHOICE, log
entry 6.) -/
def engageTimeout (c : Cavity) (s : State) : State :=
  if (s.locks.get c).state = .engaging then s.lockJammed c (s.locks.get c) 1 else s

/-- ENGAGE_TRAVEL_TIMEOUT (R128). -/
def execEngageTravelTimeout (c : Cavity) (s : State) : Host.Outcome State Fault Refusal := .next (engageTimeout c s)

/-- The release travel runs out; with no release in progress the expiry finds nothing (R130). (DESIGN CHOICE, log
entry 6.) -/
def releaseTimeout (c : Cavity) (s : State) : State :=
  if (s.locks.get c).state = .releasing then s.lockJammed c (s.locks.get c) 2 else s

/-- RELEASE_TRAVEL_TIMEOUT (R130). -/
def execReleaseTravelTimeout (c : Cavity) (s : State) : Host.Outcome State Fault Refusal := .next (releaseTimeout c s)

/-- A reversed release has run back for its reversal time with the lock switch UNLOCKED (R130). (DESIGN CHOICE, log
entry 6.) -/
def reversalReached (c : Cavity) (s : State) : State :=
  let l := s.locks.get c
  if l.state = .releasing ∧ l.reversal.isSome = true ∧ l.switch = .unlocked then s.lockReleased c l else s

/-- REVERSAL_TIME_REACHED (R130). -/
def execReversalTimeReached (c : Cavity) (s : State) : Host.Outcome State Fault Refusal := .next (reversalReached c s)

/-! ## The Sequencer's orders -/

/-- The Sequencer's engage order (R127). -/
def State.orderEngage (s : State) (c : Cavity) : State := s.setLock c ((s.locks.get c).engage .cycle)

/-- The Sequencer's release order (R132). -/
def State.orderRelease (s : State) (c : Cavity) : State := s.setLock c (s.locks.get c).release

/-- The Sequencer gives up a jammed lock: the owner becomes NONE (R132). -/
def State.orderGiveUp (s : State) (c : Cavity) : State := s.setLock c { s.locks.get c with owner := .none }

/-! ## Disabling and enabling -/

/-- A disabled cavity's lock stays OPEN with owner NONE, its debounced values as they stood (R139). -/
def State.disableLock (s : State) (c : Cavity) : State := s.setLock c (s.locks.get c).restOpen

/-- An enabled cavity's controller sets both debounced values from the raw inputs; a lock switch reading LOCKED makes
the lock JAMMED with owner NONE and raises LOCK_LOST (R139). -/
def State.enableLock (s : State) (c : Cavity) : State :=
  let p := s.pins.get c
  let l := { (s.locks.get c).restOpen with door := p.door, switch := p.lock }
  match p.lock with
  | .unlocked => s.setLock c l
  | .locked => (s.setLock c { l with state := .jammed }).raise c .lockLost

end Sys2Proof.Machine
end

