-- ==== Sys2Proof/Machine/Phases.lean ====
section
/-! DEFINITION. The Phase Table: what is in use, and the chain check made at a start (Phase Records and Chains, R19 to
R35). The requests that write, read and erase records stand in Requests.lean. -/

namespace Sys2Proof.Machine

/-- Does the cavity hold the position in use: LOCKING or RUNNING with the position on its fixed chain (R22)? -/
def State.uses (s : State) (position : Nat) (c : Cavity) : Bool :=
  let q := s.seq.get c
  (decide (q.state = .locking) || decide (q.state = .running)) && q.chain.contains position

/-- Is the position in use through some cavity (R22)? -/
def State.inUse (s : State) (position : Nat) : Bool := Cavity.all.any (s.uses position)

/-- The in-use set of a position (R24). -/
def State.inUseSet (s : State) (position : Nat) : PerCavity Bool :=
  ⟨s.uses position .c0, s.uses position .c1, s.uses position .c2⟩

/-! ## The chain check -/

/-- The check codes of a refusal CHAIN (R28). -/
inductive ChainCheck where
  | empty | loop | length | unmapped | margin | ceiling
deriving DecidableEq, Repr

/-- The number of a check code (R28). -/
def ChainCheck.code : ChainCheck → Nat
  | .empty => 1
  | .loop => 2
  | .length => 3
  | .unmapped => 4
  | .margin => 5
  | .ceiling => 6

/-- Is every element of the set mapped by the profile's output map (R27)? -/
def CavityProfile.mapsAll (p : CavityProfile) (e : ElementSet) : Bool :=
  Element.all.all fun x => !e.has x || (p.outputs.get x).isSome

/-- Does the record heat: HEAT or SOAK? -/
def PhaseKind.heats : PhaseKind → Bool
  | .heat => true
  | .soak => true
  | .cool => false
  | .dwell => false

/-- Is the target above a bound? -/
def PhaseRecord.targetAbove (r : PhaseRecord) (bound : Int) : Bool :=
  match r.target with
  | some t => decide (bound < t)
  | none => false

/-- The checks of a written record at the position visited: UNMAPPED, MARGIN, CEILING (R26, R27). -/
def recordCheck (p : CavityProfile) (r : PhaseRecord) : Option ChainCheck :=
  if r.kind.heats && !p.mapsAll r.elements then some .unmapped
  else if r.kind.heats && r.targetAbove ((p.hardLimit : Int) - 200) then some .margin
  else if r.kind.heats && !r.locked && r.targetAbove p.ceiling then some .ceiling
  else none

/-- The most positions a chain holds (R29). -/
def chainLimit : Nat := 16

/-- The walk from a position, which stands last in the walked list (R25, R26): the accepted list, or the offending
position with its check. Each visit spends one unit of fuel; with `chainLimit` units LENGTH is found before they run
out. -/
def walk (table : Nat → Option PhaseRecord) (p : CavityProfile) :
    Nat → List Nat → Nat → Except (Nat × ChainCheck) (List Nat)
  | 0, _, position => .error (position, .length)
  | fuel + 1, walked, position =>
    match table position with
    | none => .error (position, .empty)
    | some r =>
      match recordCheck p r with
      | some k => .error (position, k)
      | none =>
        match r.next with
        | none => .ok walked
        | some n =>
          if walked.contains n then .error (n, .loop)
          else if walked.length = chainLimit then .error (n, .length)
          else walk table p fuel (walked ++ [n]) n

/-- The chain check from a first position (R25). -/
def chainCheck (table : Nat → Option PhaseRecord) (p : CavityProfile) (first : Nat) :
    Except (Nat × ChainCheck) (List Nat) :=
  walk table p chainLimit [first] first

/-- The Phase Table with a record standing at a position for the length of a walk (R31). -/
def State.tableWith (s : State) (position : Nat) (r : PhaseRecord) : Nat → Option PhaseRecord :=
  fun n => if n = position then some r else s.recordAt n

/-- Does a walked list hold a locked record (R39)? -/
def holdsLocked (table : Nat → Option PhaseRecord) (walked : List Nat) : Bool :=
  walked.any fun n => match table n with
    | some r => r.locked
    | none => false

end Sys2Proof.Machine
end

