-- ==== Sys2Proof/Machine/Sequencer.lean ====
section
/-! DEFINITION. The Cavity Sequencer: the phase begin and end, the cycle end, settling, the release of the lock, trips as
the Sequencer sees them, and the disabling and enabling of its part (The Cavity Sequencer, R36 to R63), with the meanings
of its events. The requests START CYCLE, START INLINE and ABORT CYCLE stand in Requests.lean. -/

namespace Sys2Proof.Machine

/-! ## The regulation request -/

/-- The regulation request that the Sequencer posts (R44). The temperatures are those of the cavity reading being
taken; where none is being taken (a cycle end at a request or a notice) they are absent (DEDUCED, log entry 23). A cycle
that ends from LOCKING has no current record: the request's kind is then absent, its chain position the Sequencer's own,
and its gate that of the record there (DESIGN CHOICE, log entry 39). -/
def State.regRequest (s : State) (c : Cavity) (mode : RegMode) (reading : Option CavityReading) : RegRequest :=
  let q := s.seq.get c
  let heats := (q.current.map Prod.snd).any PhaseKind.heats
  let record := s.phaseRecord c
  let probe := (reading.map CavityReading.probe).getD .unknown
  let catalyst := (reading.map CavityReading.catalyst).getD .unknown
  { mode := mode
    kind := q.current.map Prod.snd
    position := q.position
    newPhase := q.newPhase
    target := if heats then record.bind PhaseRecord.target else none
    ramp := if q.current.map Prod.snd = some .heat then record.bind PhaseRecord.ramp else none
    tf := if probe.usable then reading.bind CavityReading.probeTf else none
    probe := probe
    catalyst := catalyst
    catalystTf := if catalyst.usable then reading.bind CavityReading.catalystTf else none
    gate := record.bind PhaseRecord.gate }

/-- The Sequencer posts a regulation request, which clears the new-phase mark (R44). -/
def State.postRequest (s : State) (c : Cavity) (mode : RegMode) (reading : Option CavityReading) : State :=
  (s.postRegulation c (s.regRequest c mode reading)).setSeq c { s.seq.get c with newPhase := false }

/-- The mode of the request of the phase now current: REGULATE for HEAT or SOAK, otherwise OFF (R44). -/
def Sequencer.mode (q : Sequencer) : RegMode :=
  if (q.current.map Prod.snd).any PhaseKind.heats then .regulate else .off

/-! ## Leaving SETTLING -/

/-- The Sequencer leaves SETTLING or RECOVERING: to FAULTED when the outcome is TRIPPED, to IDLE otherwise (R54,
R61). -/
def Sequencer.leave (q : Sequencer) : Sequencer :=
  { q with state := if q.outcome = some .tripped then .faulted else .idle }

/-- The Sequencer gives up a jammed lock (R57). (DEDUCED, log entry 33.) -/
def State.giveUpLock (s : State) (c : Cavity) : State :=
  (s.setSeq c { s.seq.get c with
    outcome := some .tripped, abortReason := none, lockOwned := false, state := .faulted }).orderGiveUp c

/-- The settling test, made in SETTLING and RECOVERING (R54, R57, R61). -/
def State.settlingTest (s : State) (c : Cavity) : State :=
  let q := s.seq.get c
  match (s.locks.get c).state, q.lockOwned with
  | .engaging, _ => s
  | .releasing, _ => s
  | .opened, true => s.setSeq c { q with lockOwned := false }.leave
  | .locked, true => s
  | .jammed, true => s.giveUpLock c
  | _, false => s.setSeq c q.leave

/-! ## The end of a cycle -/

/-- The event of a cycle end: CYCLE_DONE, CYCLE_ABORTED, or none when TRIPPED (R52, R59). -/
def State.cycleEvent (s : State) (c : Cavity) (outcome : CycleOutcome) (reason : Option AbortReason) : State :=
  match outcome with
  | .done => s.queueEvent .cycleDone (some c) 1 (some (s.seq.get c).completed)
  | .aborted => s.queueEvent .cycleAborted (some c) 2 (reason.map AbortReason.code)
  | _ => s

/-- A cycle ends (R52, R59): the OFF request, the relay opened, the convection fan off, the outcome recorded, SETTLING
entered with the notice to the Allocator when the cavity leaves RUNNING (R103), the event, and the settling test. -/
def State.endCycle (s : State) (c : Cavity) (outcome : CycleOutcome) (reason : Option AbortReason)
    (reading : Option CavityReading) : State :=
  let wasRunning := decide ((s.seq.get c).state = .running)
  let s₁ := ((s.postRequest c .off reading).openRelay c).setConvection c false
  let s₂ := s₁.setSeq c { s₁.seq.get c with outcome := some outcome, abortReason := reason, state := .settling }
  let s₃ := if wasRunning then s₂.sendWithdrawNotice c else s₂
  (s₃.cycleEvent c outcome reason).settlingTest c

/-! ## The begin of a phase -/

/-- The phase at the current chain position begins (R43). `entering` marks the entry into RUNNING, which closes the
supply relay. A COOL or DWELL begin is told to the Allocator (R103). A position that is EMPTY, which R30 excludes,
begins nothing (DESIGN CHOICE, log entry 29). -/
def State.beginPhase (s : State) (c : Cavity) (entering : Bool) : State :=
  match (s.seq.get c).entry, s.phaseRecord c with
  | some position, some r =>
    let s₁ := s.setSeq c { s.seq.get c with
      current := some (position, r.kind), phaseElapsed := 0, soakProgress := 0 }
    let s₂ := (s₁.queueEvent .phaseBegun (some c) 0 (some position)).writeElements c r.elements
    let s₃ := if r.kind.heats then s₂.writeTier c r.tier else s₂.sendWithdrawNotice c
    let s₄ := (if entering then s₃.closeRelay c else s₃).setConvection c r.convection
    s₄.setSeq c { s₄.seq.get c with newPhase := true }
  | _, _ => s

/-- The Sequencer enters RUNNING and begins the phase at its chain position (R40, R41). -/
def State.enterRunning (s : State) (c : Cavity) : State :=
  (s.setSeq c { s.seq.get c with state := .running }).beginPhase c true

/-- A phase ends: phases completed adds 1, and the next phase begins or the cycle ends DONE (R51). (DESIGN CHOICE,
log entry 29.) -/
def State.endPhase (s : State) (c : Cavity) (reading : Option CavityReading) : State :=
  let q := { s.seq.get c with completed := (s.seq.get c).completed + 1 }
  match s.phaseRecord c with
  | some r =>
    match r.next with
    | none => (s.setSeq c q).endCycle c .done none reading
    | some _ => (s.setSeq c { q with position := q.position + 1 }).beginPhase c false
  | none => s

/-! ## A cavity reading in RUNNING -/

/-- Time is counted at a reading in RUNNING (R45). -/
def State.countTime (s : State) (c : Cavity) : State :=
  let q := s.seq.get c
  (s.spendCount q.cycleElapsed).setSeq c
    { q with phaseElapsed := addHeld q.phaseElapsed, cycleElapsed := s.nextCount q.cycleElapsed }

/-- Is the cavity probe usable with its Tf in a range of temperatures? -/
def CavityReading.tfMeets (r : CavityReading) (p : Int → Bool) : Bool :=
  r.probe.usable && r.probeTf.any p

/-- The soak progress after a reading in a SOAK phase (R47). -/
def soakAfter (progress : Nat) (r : PhaseRecord) (soakBand : Nat) (reading : CavityReading) : Nat :=
  if reading.tfMeets fun tf => decide (r.target.getD 0 - soakBand ≤ tf) then progress + 1 else progress

/-- The Sequencer after the progress test of a reading: only a SOAK phase records progress (R46 to R49). -/
def Sequencer.progress (q : Sequencer) (r : PhaseRecord) (soakBand : Nat) (reading : CavityReading) : Sequencer :=
  match r.kind with
  | .soak => { q with soakProgress := soakAfter q.soakProgress r soakBand reading }
  | _ => q

/-- Has the phase ended by its own test, given the Sequencer after the progress (R46 to R49)? -/
def Sequencer.phaseOver (q : Sequencer) (r : PhaseRecord) (reading : CavityReading) : Bool :=
  match r.kind with
  | .heat => false
  | .soak => decide (r.duration = some q.soakProgress)
  | .cool => reading.tfMeets fun tf => decide (tf ≤ r.target.getD 0)
  | .dwell => decide (r.duration = some q.phaseElapsed)

/-- Has the record's limit run out (R50)? -/
def Sequencer.limitOut (q : Sequencer) (r : PhaseRecord) : Bool :=
  match r.limit with
  | some m => decide (q.phaseElapsed = m * 60)
  | none => false

/-- A limit run out: PHASE_TIMEOUT, then the phase end or the cycle end ABORTED (R50). -/
def State.limitReached (s : State) (c : Cavity) (r : PhaseRecord) (reading : CavityReading) : State :=
  let position := (s.seq.get c).entry
  match r.onLimit with
  | .advance => (s.queueEvent .phaseTimeout (some c) 1 position).endPhase c (some reading)
  | .abort =>
    (s.queueEvent .phaseTimeout (some c) 2 position).endCycle c .aborted (some .phaseTimeout) (some reading)

/-- The tests of a reading in RUNNING, time being counted (R45, steps 2 to 4). -/
def State.phaseTests (s : State) (c : Cavity) (reading : CavityReading) : State :=
  match s.phaseRecord c with
  | none => s
  | some r =>
    let q := (s.seq.get c).progress r (s.profiles.get c).soakBand reading
    let s₁ := s.setSeq c q
    if q.phaseOver r reading then s₁.endPhase c (some reading)
    else if q.limitOut r then s₁.limitReached c r reading
    else s₁

/-- A cavity reading taken in RUNNING (R45). -/
def State.runningReading (s : State) (c : Cavity) (reading : CavityReading) : State :=
  let s₁ := (s.countTime c).phaseTests c reading
  let q := s₁.seq.get c
  if q.state = .running then s₁.postRequest c q.mode (some reading) else s₁

/-! ## A cavity reading in the other states -/

/-- The blind-cool count at a reading in SETTLING, RECOVERING or FAULTED (R56). -/
def State.countBlind (s : State) (c : Cavity) (reading : CavityReading) : State :=
  let q := s.seq.get c
  if reading.probe.usable then s else s.setSeq c { q with blindCool := addHeld q.blindCool }

/-- The permission test and the release order (R55). -/
def State.releaseTest (s : State) (c : Cavity) (reading : CavityReading) : State :=
  if (s.seq.get c).lockOwned = true ∧ (s.locks.get c).state = .locked ∧ s.permissionOn c (some reading) = true then
    s.orderRelease c
  else s

/-- A cavity reading taken in SETTLING or RECOVERING: the count, the permission test, the settling test (R54 to R56).
-/
def State.settlingReading (s : State) (c : Cavity) (reading : CavityReading) : State :=
  ((s.countBlind c reading).releaseTest c reading).settlingTest c

/-- The Sequencer takes a cavity reading according to its state (R41, R45, R54 to R56, R60). -/
def State.sequenceReading (s : State) (c : Cavity) (reading : CavityReading) : State :=
  match (s.seq.get c).state with
  | .running => s.runningReading c reading
  | .settling => s.settlingReading c reading
  | .recovering => s.settlingReading c reading
  | .faulted => s.countBlind c reading
  | .locking => s
  | .idle => s
  | .absent => s

/-- The Sequencer takes the oldest cavity reading delivered to it; with none in flight nothing happens (DESIGN
CHOICE, log entry 3). -/
def takeSequencerReading (c : Cavity) (s : State) : State :=
  match (s.box c).sequencerReadings with
  | [] => s
  | r :: rest => (s.setMail c { s.box c with sequencerReadings := rest }).sequenceReading c r

/-- SEQUENCER_CAVITY_READING (R45). -/
def execSequencerCavityReading (c : Cavity) (s : State) : Host.Outcome State Fault Refusal :=
  .next (takeSequencerReading c s)

/-! ## Notices -/

/-- A heat-complete notice ends the HEAT phase at the chain position it names; otherwise it is discarded (R46). -/
def State.heatCompleted (s : State) (c : Cavity) (position : Nat) : State :=
  let q := s.seq.get c
  if q.state = .running ∧ q.current.map Prod.snd = some .heat ∧ q.position = position then s.endPhase c none else s

/-- The Sequencer takes its oldest heat-complete notice (R46; DESIGN CHOICE, log entry 3). -/
def takeHeatComplete (c : Cavity) (s : State) : State :=
  match (s.box c).heatComplete with
  | [] => s
  | n :: rest => (s.setMail c { s.box c with heatComplete := rest }).heatCompleted c n

/-- HEAT_COMPLETE_NOTICE (R46). -/
def execHeatCompleteNotice (c : Cavity) (s : State) : Host.Outcome State Fault Refusal := .next (takeHeatComplete c s)

/-- The Sequencer's handling of a lock notice: in LOCKING under R41, in SETTLING and RECOVERING the settling test,
nothing in any other state (R135). A notice "lock at rest, OPEN" that is taken in LOCKING, for which the table of R41 has no
row, changes nothing (DESIGN CHOICE, log entry 34). -/
def State.lockNoticed (s : State) (c : Cavity) (n : LockNotice) : State :=
  match (s.seq.get c).state, n with
  | .locking, .atRestLocked => s.enterRunning c
  | .locking, .doorOpenedEngaging => s.endCycle c .aborted (some .doorOpened) none
  | .settling, _ => s.settlingTest c
  | .recovering, _ => s.settlingTest c
  | _, _ => s

/-- The Sequencer takes its oldest lock notice (R135; DESIGN CHOICE, log entry 3). -/
def takeLockNotice (c : Cavity) (s : State) : State :=
  match (s.box c).lockNotices with
  | [] => s
  | n :: rest => (s.setMail c { s.box c with lockNotices := rest }).lockNoticed c n

/-- LOCK_NOTICE (R135). -/
def execLockNotice (c : Cavity) (s : State) : Host.Outcome State Fault Refusal := .next (takeLockNotice c s)

/-- The Sequencer's handling of a trip notice (R58, R59). -/
def State.tripNoticed (s : State) (c : Cavity) : State :=
  let q := s.seq.get c
  match q.state with
  | .locking => s.endCycle c .tripped none none
  | .running => s.endCycle c .tripped none none
  | .settling => (s.setSeq c { q with outcome := some .tripped, abortReason := none }).settlingTest c
  | .recovering => s.setSeq c { q with outcome := some .tripped }
  | .idle => s.setSeq c { q with state := .faulted }
  | .faulted => s
  | .absent => s

/-- The Sequencer takes a trip notice sent to it (R58; DESIGN CHOICE, log entry 3). -/
def takeTripNotice (c : Cavity) (s : State) : State :=
  if (s.box c).tripNotices = 0 then s
  else (s.setMail c { s.box c with tripNotices := (s.box c).tripNotices - 1 }).tripNoticed c

/-- TRIP_NOTICE (R58). -/
def execTripNotice (c : Cavity) (s : State) : Host.Outcome State Fault Refusal := .next (takeTripNotice c s)

/-! ## Starting a cycle -/

/-- The next state of an accepted start (R40): a locked chain with the lock OPEN orders the engagement and enters
LOCKING; otherwise the Sequencer enters RUNNING. The walked list becomes the fixed chain and the context is reset. -/
def State.acceptStart (s : State) (c : Cavity) (walked : List Nat) (locks : Bool) : State :=
  let q := { Sequencer.fresh .idle with chain := walked, bound := (s.seq.get c).bound }
  if locks && decide ((s.locks.get c).state = .opened) then
    (s.setSeq c { q with lockOwned := true, state := .locking }).orderEngage c
  else (s.setSeq c q).enterRunning c

/-! ## Disabling and enabling -/

/-- A disabled cavity's Sequencer is ABSENT with the power-up context, unbound (R62). -/
def State.disableSequencer (s : State) (c : Cavity) : State := s.setSeq c (Sequencer.fresh .absent)

/-- An enabled cavity's Sequencer is IDLE with the context of R36, unbound (R63). -/
def State.enableSequencer (s : State) (c : Cavity) : State := s.setSeq c (Sequencer.fresh .idle)

end Sys2Proof.Machine
end

