-- ==== Sys2Proof/Machine/Profiles.lean ====
section
/-! DEFINITION. The profiles: APPLIANCE PROFILE with the disabling and enabling of cavities, CAVITY PROFILE and READ
PROFILE (Message Formats and Profiles, R189 to R193). -/

namespace Sys2Proof.Machine

/-! ## The cavity that a request names -/

/-- The cavity that a request's byte names, checked first as R38 says: a number above 2 is refused RANGE, an ABSENT
cavity ABSENT. -/
def State.namedCavity (s : State) (n : Nat) : Except Reply Cavity :=
  match cavityOf n with
  | none => .error (Reply.range 0)
  | some c => if (s.seq.get c).state = .absent then .error (Reply.refuse .absent) else .ok c

/-- An owner of a request that names a cavity in its first byte: the number is checked under R38, then the cavity's
own checks follow. -/
def ownerOfCavity (f : Cavity → List Byte → State → State × Reply) : Owner := fun p s =>
  match s.namedCavity (byteAt p 0) with
  | .error r => (s, r)
  | .ok c => f c p s

/-! ## The appliance profile -/

/-- The appliance profile in a payload (the 16-byte layout). (DESIGN CHOICE, log entry 13.) -/
def applianceProfileOf (p : List Byte) : ApplianceProfile :=
  { enabled := ⟨bitAt (byteAt p 0) 0, bitAt (byteAt p 0) 1, bitAt (byteAt p 0) 2⟩
    quietBudget := wordAt p 1
    tLow := wordAt p 3
    tMid := wordAt p 5
    tHigh := wordAt p 7
    rpmLow := wordAt p 9
    rpmMid := wordAt p 11
    rpmHigh := wordAt p 13
    pulsesPerRev := byteAt p 15 }

/-- The sixteen bytes of an appliance profile. -/
def ApplianceProfile.bytes (a : ApplianceProfile) : List Byte :=
  byte (cavitySetByte a.enabled) :: word a.quietBudget ++ word a.tLow ++ word a.tMid ++ word a.tHigh
    ++ word a.rpmLow ++ word a.rpmMid ++ word a.rpmHigh ++ [byte a.pulsesPerRev]

/-- Is a count within a range? -/
def within (lo hi n : Nat) : Bool := decide (lo ≤ n) && decide (n ≤ hi)

/-- The first field of an appliance profile that is out of its range, by its code (R189). -/
def ApplianceProfile.badField (a : ApplianceProfile) : Option Nat :=
  if !(a.enabled.c0 || a.enabled.c1 || a.enabled.c2) then some 1
  else if !within 0 11000 a.quietBudget then some 2
  else if !within 500 5000 a.tLow then some 3
  else if !(within 500 5000 a.tMid && decide (a.tLow < a.tMid)) then some 4
  else if !(within 500 5000 a.tHigh && decide (a.tMid < a.tHigh)) then some 5
  else if !within 300 6000 a.rpmLow then some 6
  else if !within 300 6000 a.rpmMid then some 7
  else if !within 300 6000 a.rpmHigh then some 8
  else if !within 1 4 a.pulsesPerRev then some 9
  else none

/-- Does a cavity refuse the change of its enable, and why: STATE before LOCK (R189)? -/
def State.enableRefusal (s : State) (c : Cavity) : Option Reason :=
  if ((s.seq.get c).state ≠ .idle ∧ (s.seq.get c).state ≠ .absent) ∨ s.tripped c = true then some .state
  else if (s.locks.get c).state ≠ .opened then some .lock
  else none

/-- Does the profile change the cavity's enable? -/
def State.changesEnable (s : State) (a : ApplianceProfile) (c : Cavity) : Bool :=
  decide (a.enabled.get c ≠ s.appliance.enabled.get c)

/-- The refusal of an appliance profile, if any: the first failing field, then the cavities whose enable it changes in
rising number (R189). -/
def State.applianceRefusal (s : State) (a : ApplianceProfile) : Option Reply :=
  match a.badField with
  | some f => some (Reply.range f)
  | none => ((Cavity.all.filter (s.changesEnable a)).findSome? s.enableRefusal).map Reply.refuse

/-- A cavity is disabled, in every block (R190). Its events in flight are dropped (DESIGN CHOICE, log entry 9). -/
def disableCavity (s : State) (c : Cavity) : State :=
  let s := ((resetChannels s c).setRecord (inlineSlot c) none).disableSequencer c
  let s := ((s.setReg c Regulation.powerUp).disableAlloc c).openRelay c
  let s := (((s.setGrants s.alloc.grants).disableFan c).disableLock c).disableLimit c
  s.setMail c Mailbox.empty

/-- A cavity is enabled, in every block; the Door Lock Controller reads its switches last (R190). -/
def enableCavity (s : State) (c : Cavity) : State :=
  let s := resetChannels ((s.enableSequencer c).enableAlloc c) c
  ((s.enableFan c).enableLimit c).enableLock c

/-- An accepted appliance profile acts: it replaces the one in force, the cavities being disabled are handled first,
then those being enabled, and a changed quiet budget is worked into the available budget (R190). Within either group the
cavities are taken in rising number, an order that R190 does not give (DESIGN CHOICE, log entry 38). -/
def State.acceptAppliance (s : State) (a : ApplianceProfile) : State :=
  let changed := Cavity.all.filter (s.changesEnable a)
  let s₁ := (changed.filter fun c => !a.enabled.get c).foldl disableCavity { s with appliance := a }
  let s₂ := (changed.filter fun c => a.enabled.get c).foldl enableCavity s₁
  if a.quietBudget = s.appliance.quietBudget then s₂ else s₂.rebudget

/-- The owner's part of APPLIANCE PROFILE (R189, R190). -/
def applianceProfile : Owner := fun p s =>
  match s.applianceRefusal (applianceProfileOf p) with
  | some r => (s, r)
  | none => (s.acceptAppliance (applianceProfileOf p), Reply.done [])

/-- APPLIANCE_PROFILE (R189). The raw inputs are those that the command gives. (DESIGN CHOICE, log entry 32.) -/
def execApplianceProfile (h : Header) (payload : List Byte) (pins : PerCavity SwitchPins) (s : State) :
    Host.Outcome State Fault Refusal :=
  .next (takeRequest .applianceProfile h payload applianceProfile { s with pins := pins })

/-! ## The cavity profile -/

/-- The output of a map byte: 0xFF is NONE. -/
def outputOf (n : Nat) : Option Nat := if n = 255 then none else some n

/-- The cavity profile in a payload (the 32-byte layout, the cavity number at its front). (DEDUCED, log entry 18.) -/
def cavityProfileOf (p : List Byte) : CavityProfile :=
  { outputs := ⟨outputOf (byteAt p 1), outputOf (byteAt p 2), outputOf (byteAt p 3), outputOf (byteAt p 4)⟩
    ratings := ⟨wordAt p 5, wordAt p 7, wordAt p 9, wordAt p 11⟩
    filterShift := byteAt p 13
    kp := wordAt p 14
    ki := wordAt p 16
    approachBand := wordAt p 18
    soakBand := wordAt p 20
    catalystCap := wordAt p 22
    ceiling := wordAt p 24
    releaseThreshold := wordAt p 26
    hardLimit := wordAt p 28
    catalystLimit := wordAt p 30 }

/-- The thirty-two bytes of a cavity's profile. (DEDUCED, log entry 18.) -/
def CavityProfile.bytes (x : CavityProfile) (c : Cavity) : List Byte :=
  byte c.num :: byteField x.outputs.upper ++ byteField x.outputs.lower ++ byteField x.outputs.ring
    ++ byteField x.outputs.grill ++ word x.ratings.upper ++ word x.ratings.lower ++ word x.ratings.ring
    ++ word x.ratings.grill ++ [byte x.filterShift] ++ word x.kp ++ word x.ki ++ word x.approachBand
    ++ word x.soakBand ++ word x.catalystCap ++ word x.ceiling ++ word x.releaseThreshold ++ word x.hardLimit
    ++ word x.catalystLimit

/-- The first field of a cavity profile that is out of its range, by its code (R191). -/
def CavityProfile.badField (x : CavityProfile) : Option Nat :=
  if Element.all.any fun e => (x.outputs.get e).any fun o => decide (11 < o) then some 1
  else if Element.all.any fun e => (x.outputs.get e).isSome && !within 1 3600 (x.ratings.get e) then some 2
  else if !within 0 4 x.filterShift then some 3
  else if !within 0 255 x.kp then some 4
  else if !within 0 1000 x.ki then some 5
  else if !within 10 200 x.approachBand then some 6
  else if !within 10 300 x.soakBand then some 7
  else if !within 0 1000 x.catalystCap then some 8
  else if !within 2000 3200 x.ceiling then some 9
  else if !(within 1500 3000 x.releaseThreshold && decide (x.releaseThreshold + 100 ≤ x.ceiling)) then some 10
  else if !(within 4000 5600 x.hardLimit && decide (x.ceiling + 1000 ≤ x.hardLimit)) then some 11
  else if !within 4000 6500 x.catalystLimit then some 12
  else none

/-- The outputs that a profile names, element by element. -/
def CavityProfile.named (x : CavityProfile) : List Nat := Element.all.filterMap x.outputs.get

/-- Is an output owned by an element of a cavity other than the one given (R110)? -/
def State.ownedElsewhere (s : State) (c : Cavity) (i : Nat) : Bool :=
  match (s.drive.outputs[i]?).bind OutputRecord.owner with
  | some x => decide (x.1 ≠ c)
  | none => false

/-- Does the map conflict: an output named twice, or one owned by another cavity (R110)? -/
def State.mapConflict (s : State) (c : Cavity) (x : CavityProfile) : Bool :=
  !decide x.named.Nodup || x.named.any (s.ownedElsewhere c)

/-- The refusal of a cavity profile, if any, the cavity number having passed (R191). -/
def State.profileRefusal (s : State) (c : Cavity) (x : CavityProfile) : Option Reply :=
  if (s.seq.get c).state ≠ .idle ∨ s.tripped c = true then some (Reply.refuse .state)
  else match x.badField with
    | some f => some (Reply.range f)
    | none => if s.mapConflict c x then some (Reply.refuse .map) else none

/-- An accepted cavity profile acts: the cavity is bound to the new profile, the Drive rebuilds its output records,
the Allocator its request records, and the Regulation Unit resets its context (R192). -/
def State.acceptProfile (s : State) (c : Cavity) (x : CavityProfile) : State :=
  let s := (s.setProfile c x).setSeq c { s.seq.get c with bound := true }
  ((s.rebuildOutputs c x).rebuildRequests c).setReg c Regulation.powerUp

/-- The owner's part of CAVITY PROFILE (R191, R192). -/
def cavityProfile : Owner := ownerOfCavity fun c p s =>
  match s.profileRefusal c (cavityProfileOf p) with
  | some r => (s, r)
  | none => (s.acceptProfile c (cavityProfileOf p), Reply.done [])

/-- CAVITY_PROFILE (R191). -/
def execCavityProfile (h : Header) (payload : List Byte) (s : State) : Host.Outcome State Fault Refusal :=
  .next (takeRequest .cavityProfile h payload cavityProfile s)

/-! ## Reading -/

/-- The owner's part of READ PROFILE (R193). -/
def readProfile : Owner := fun p s =>
  if byteAt p 0 = 3 then (s, Reply.done s.appliance.bytes)
  else match s.namedCavity (byteAt p 0) with
    | .error r => (s, r)
    | .ok c => (s, Reply.done ((s.profiles.get c).bytes c ++ boolField (s.seq.get c).bound))

/-- READ_PROFILE (R193). -/
def execReadProfile (h : Header) (payload : List Byte) (s : State) : Host.Outcome State Fault Refusal :=
  .next (takeRequest .readProfile h payload readProfile s)

end Sys2Proof.Machine
end

