-- ==== Sys2Proof/Machine/Requests.lean ====
section
/-! DEFINITION. The requests whose owners are the Service Link, the Phase Table, the Sequencer, the Door Lock Controller,
the Allocator, the Fan Controller, the Limit Supervisor and the Scanner (R175). Each owner's part is a function of the
payload and the state; READ STATUS and the profiles stand in files of their own. -/

namespace Sys2Proof.Machine

/-! ## The Service Link -/

/-- The owner's part of IDENTIFY, given the link state before the frame (R183). -/
def identify (before : LinkState) : Owner := fun _ s =>
  (s, Reply.done (word 0x0B1A ++ word 0x0033 ++ [byte 0x02, byte s.link.node, byte (cavitySetByte s.appliance.enabled),
    byte before.code] ++ long s.clock.uptime))

/-- IDENTIFY (R183). -/
def execIdentify (h : Header) (payload : List Byte) (s : State) : Host.Outcome State Fault Refusal :=
  .next (takeRequest .identify h payload (identify s.link.state) s)

/-- The most records that a READ EVENTS asks for (R181). -/
def readLimit : Nat := 6

/-- The reply to READ EVENTS for a count in its range (R181). -/
def Link.eventsReply (l : Link) (count : Nat) : Reply :=
  let given := l.queue.take count
  { outcome := .done, reason := .none, reads := some given.length
    payload := [byte given.length, byte l.overflow.toNat, byte (l.queue.length - given.length)]
      ++ given.flatMap EventRecord.bytes }

/-- The owner's part of READ EVENTS: the records leave the queue when the reply is complete (R181). -/
def readEvents : Owner := fun p s =>
  let count := byteAt p 0
  if count = 0 ∨ readLimit < count then (s, Reply.range 0) else (s, s.link.eventsReply count)

/-- READ_EVENTS (R181). -/
def execReadEvents (h : Header) (payload : List Byte) (s : State) : Host.Outcome State Fault Refusal :=
  .next (takeRequest .readEvents h payload readEvents s)

/-- The owner's part of SET ATTENTION (R182). -/
def setAttention : Owner := fun p s =>
  let n := byteAt p 0
  if 4 < n then (s, Reply.range 0)
  else
    let l := { s.link with threshold := n }.withAttn
    (s.setLink l, Reply.done (byte n :: boolField l.attn))

/-- SET_ATTENTION (R182). -/
def execSetAttention (h : Header) (payload : List Byte) (s : State) : Host.Outcome State Fault Refusal :=
  .next (takeRequest .setAttention h payload setAttention s)

/-! ## The Phase Table -/

/-- The first position that is not a table record (R19). -/
def tableRecords : Nat := 48

/-- The owner's part of WRITE PHASE (R21). -/
def writePhase : Owner := fun p s =>
  let index := byteAt p 0
  if tableRecords ≤ index then (s, Reply.range 0)
  else match (rawRecordAt p 1).check with
    | .error f => (s, Reply.range f)
    | .ok r => if s.inUse index then (s, Reply.refuse .inUse) else (s.setRecord index (some r), Reply.done [])

/-- WRITE_PHASE (R21). -/
def execWritePhase (h : Header) (payload : List Byte) (s : State) : Host.Outcome State Fault Refusal :=
  .next (takeRequest .writePhase h payload writePhase s)

/-- The owner's part of READ PHASE (R24). -/
def readPhase : Owner := fun p s =>
  let position := byteAt p 0
  if 51 ≤ position then (s, Reply.range 0)
  else (s, Reply.done (recordBytes (s.recordAt position) ++ [byte (cavitySetByte (s.inUseSet position))]))

/-- READ_PHASE (R24). -/
def execReadPhase (h : Header) (payload : List Byte) (s : State) : Host.Outcome State Fault Refusal :=
  .next (takeRequest .readPhase h payload readPhase s)

/-- The owner's part of ERASE PHASE (R23). -/
def erasePhase : Owner := fun p s =>
  let index := byteAt p 0
  if tableRecords ≤ index then (s, Reply.range 0)
  else if s.inUse index then (s, Reply.refuse .inUse)
  else (s.setRecord index none, Reply.done [])

/-- ERASE_PHASE (R23). -/
def execErasePhase (h : Header) (payload : List Byte) (s : State) : Host.Outcome State Fault Refusal :=
  .next (takeRequest .erasePhase h payload erasePhase s)

/-! ## The Cavity Sequencer -/

/-- Is the cavity probe VALID in the latest cavity reading (R39 step 5)? (DEDUCED, log entry 7.) -/
def State.probeValid (s : State) (c : Cavity) : Bool :=
  match s.scanner.latest.get c with
  | some r => decide (r.probe = .valid)
  | none => false

/-- Steps 3 to 5 of the start checks (R39). -/
def State.startRefusal (s : State) (c : Cavity) : Option Reply :=
  if (s.seq.get c).state ≠ .idle then some (Reply.refuse .state)
  else if (s.seq.get c).bound = false then some (Reply.refuse .unbound)
  else if s.probeValid c = false then some (Reply.refuse .sensor)
  else none

/-- Steps 7 to 9 of the start checks, given whether the walked list holds a locked record (R39). -/
def State.startLockRefusal (s : State) (c : Cavity) (locked : Bool) : Option Reply :=
  match (s.locks.get c).state with
  | .engaging => some Reply.busy
  | .releasing => some Reply.busy
  | .jammed => some (Reply.refuse .lock)
  | _ => if locked = true ∧ (s.locks.get c).door = .opened then some (Reply.refuse .door) else none

/-- The end of a start, its chain step given: a refusal CHAIN, the checks of the lock, or the acceptance, made on the
state with the inline slot written (R39 steps 6 to 9, R40). -/
def State.finishStart (s : State) (c : Cavity) (table : Nat → Option PhaseRecord)
    (chain : Except (Nat × ChainCheck) (List Nat)) (write : State → State) : State × Reply :=
  match chain with
  | .error (position, k) => (s, Reply.chain position k.code)
  | .ok walked =>
    match s.startLockRefusal c (holdsLocked table walked) with
    | some r => (s, r)
    | none => ((write s).acceptStart c walked (holdsLocked table walked), Reply.done [])

/-- The owner's part of START CYCLE (R39, R40). -/
def startCycle : Owner := ownerOfCavity fun c p s =>
  match s.startRefusal c with
  | some r => (s, r)
  | none =>
    let first := byteAt p 1
    if tableRecords ≤ first then (s, Reply.range 0)
    else s.finishStart c s.recordAt (chainCheck s.recordAt (s.profiles.get c) first) id

/-- START_CYCLE (R39). -/
def execStartCycle (h : Header) (payload : List Byte) (s : State) : Host.Outcome State Fault Refusal :=
  .next (takeRequest .startCycle h payload startCycle s)

/-- The owner's part of START INLINE (R31, R39, R40). -/
def startInline : Owner := ownerOfCavity fun c p s =>
  match s.startRefusal c with
  | some r => (s, r)
  | none =>
    match (rawRecordAt p 1).check with
    | .error f => (s, Reply.range f)
    | .ok record =>
      let table := s.tableWith (inlineSlot c) record
      s.finishStart c table (chainCheck table (s.profiles.get c) (inlineSlot c))
        fun s => s.setRecord (inlineSlot c) (some record)

/-- START_INLINE (R31). -/
def execStartInline (h : Header) (payload : List Byte) (s : State) : Host.Outcome State Fault Refusal :=
  .next (takeRequest .startInline h payload startInline s)

/-- The owner's part of ABORT CYCLE (R53). -/
def abortCycle : Owner := ownerOfCavity fun c _ s =>
  match (s.seq.get c).state with
  | .locking => (s.endCycle c .aborted (some .request) none, Reply.done [])
  | .running => (s.endCycle c .aborted (some .request) none, Reply.done [])
  | _ => (s, Reply.refuse .state)

/-- ABORT_CYCLE (R53). -/
def execAbortCycle (h : Header) (payload : List Byte) (s : State) : Host.Outcome State Fault Refusal :=
  .next (takeRequest .abortCycle h payload abortCycle s)

/-! ## The Door Lock Controller -/

/-- The owner's part of LOCK DOOR (R136). -/
def lockDoor : Owner := ownerOfCavity fun c _ s =>
  let l := s.locks.get c
  if (s.seq.get c).state ≠ .idle then (s, Reply.refuse .state)
  else match l.state with
    | .engaging => (s, Reply.busy)
    | .releasing => (s, Reply.busy)
    | .jammed => (s, Reply.refuse .lock)
    | .locked => (s, Reply.done [])
    | .opened =>
      match l.door with
      | .opened => (s, Reply.refuse .door)
      | .closed => (s.setLock c (l.engage .request), Reply.done [])

/-- LOCK_DOOR (R136). -/
def execLockDoor (h : Header) (payload : List Byte) (s : State) : Host.Outcome State Fault Refusal :=
  .next (takeRequest .lockDoor h payload lockDoor s)

/-- The owner's part of UNLOCK DOOR (R137). -/
def unlockDoor : Owner := ownerOfCavity fun c _ s =>
  let l := s.locks.get c
  if l.owner = .cycle ∨ l.owner = .recovery then (s, Reply.refuse .state)
  else match l.state with
    | .engaging => (s, Reply.busy)
    | .releasing => (s, Reply.busy)
    | .opened => (s, Reply.done [])
    | st =>
      if s.permission c = false then (s, Reply.refuse .hot)
      else if st = .jammed ∧ l.switch = .unlocked then (s.lockReleased c l, Reply.done [])
      else (s.setLock c l.release, Reply.done [])

/-- UNLOCK_DOOR (R137). -/
def execUnlockDoor (h : Header) (payload : List Byte) (s : State) : Host.Outcome State Fault Refusal :=
  .next (takeRequest .unlockDoor h payload unlockDoor s)

/-! ## The Power Allocator -/

/-- The most watts that SET SUPPLY and DECLARE LOAD take (R83, R84). -/
def supplyCeiling : Nat := 11000

/-- The reply that gives the available budget. -/
def State.budgetReply (s : State) : State × Reply := (s, Reply.done (word s.alloc.available))

/-- The owner's part of SET SUPPLY (R83). -/
def setSupply : Owner := fun p s =>
  if supplyCeiling < wordAt p 0 then (s, Reply.range 0)
  else (s.setAlloc { s.alloc with supply := wordAt p 0 }).rebudget.budgetReply

/-- SET_SUPPLY (R83). -/
def execSetSupply (h : Header) (payload : List Byte) (s : State) : Host.Outcome State Fault Refusal :=
  .next (takeRequest .setSupply h payload setSupply s)

/-- The owner's part of DECLARE LOAD (R84). -/
def declareLoad : Owner := fun p s =>
  if supplyCeiling < wordAt p 0 then (s, Reply.range 0)
  else (s.setAlloc { s.alloc with declared := wordAt p 0 }).rebudget.budgetReply

/-- DECLARE_LOAD (R84). -/
def execDeclareLoad (h : Header) (payload : List Byte) (s : State) : Host.Outcome State Fault Refusal :=
  .next (takeRequest .declareLoad h payload declareLoad s)

/-! ## The Fan Controller -/

/-- The owner's part of SET FAN FLOOR (R151). -/
def setFanFloor : Owner := fun p s =>
  let n := byteAt p 0
  if 3 < n then (s, Reply.range 0)
  else (s.setFan { s.fan with hostFloor := n }, Reply.done [byte n, byte s.fan.level])

/-- SET_FAN_FLOOR (R151). -/
def execSetFanFloor (h : Header) (payload : List Byte) (s : State) : Host.Outcome State Fault Refusal :=
  .next (takeRequest .setFanFloor h payload setFanFloor s)

/-! ## The Limit Supervisor -/

/-- Is the stored cavity probe VALID (R165 step 2)? -/
def LimitRecord.probeValid (l : LimitRecord) : Bool :=
  match l.reading with
  | some r => decide (r.probe = .valid)
  | none => false

/-- Is the stored cavity T below a limit (R165 step 3)? -/
def LimitRecord.coolerThan (l : LimitRecord) (limit : Nat) : Bool :=
  match l.reading.bind LimitReading.probeT with
  | some t => decide (t < limit)
  | none => false

/-- Does the stored catalyst probe pass a limit: not VALID, or its T below it (R165 step 4)? -/
def LimitRecord.catalystPasses (l : LimitRecord) (limit : Nat) : Bool :=
  match l.reading with
  | some r =>
    match r.catalyst, r.catalystT with
    | .valid, some t => decide (t < limit)
    | _, _ => true
  | none => true

/-- The checks of CLEAR TRIP in their order; the first that fails gives the reply (R165). -/
def State.clearRefusal (s : State) (c : Cavity) : Option Reply :=
  let l := s.limit.cavity.get c
  let p := s.profiles.get c
  if (s.seq.get c).state ≠ .faulted then some (Reply.refuse .state)
  else if l.probeValid = false then some (Reply.tripPresent .probeFault)
  else if l.coolerThan p.hardLimit = false then some (Reply.tripPresent .overtemp)
  else if l.catalystPasses p.catalystLimit = false then some (Reply.tripPresent .catalystOvertemp)
  else if l.cutout = .opened then some (Reply.tripPresent .cutout)
  else if s.fan.state = .stalled then some (Reply.tripPresent .fanStall)
  else if s.limit.board.any (fun b => decide (800 ≤ b)) then some (Reply.tripPresent .boardOvertemp)
  else if (s.locks.get c).state ≠ .opened then some (Reply.refuse .lock)
  else none

/-- A trip is cleared: the record becomes the last cleared record, the active record becomes absent, the Sequencer
leaves FAULTED for IDLE, and TRIP_CLEARED is queued (R166, R60). Trip notices of the cleared record still in flight
are dropped (DESIGN CHOICE, log entry 10); with no record there is none to clear (DESIGN CHOICE, log entry 24). -/
def State.clearTrip (s : State) (c : Cavity) : State :=
  let l := s.limit.cavity.get c
  let s₀ := s.setMail c { s.box c with tripNotices := 0 }
  match l.active with
  | some r =>
    let s₁ := s₀.setLimit c { l with active := none, cleared := some { record := r, clearedAt := s.clock.uptime } }
    (s₁.setSeq c { s₁.seq.get c with state := .idle }).queueEvent .tripCleared (some c) 1 (some r.first.code)
  | none => s₀.setSeq c { s₀.seq.get c with state := .idle }

/-- The owner's part of CLEAR TRIP: the reply carries the first cause of the record cleared (R165, R166). -/
def clearTrip : Owner := ownerOfCavity fun c _ s =>
  match s.clearRefusal c with
  | some r => (s, r)
  | none =>
    (s.clearTrip c, Reply.done (byteField ((s.limit.cavity.get c).active.map fun r => r.first.code)))

/-- CLEAR_TRIP (R165). -/
def execClearTrip (h : Header) (payload : List Byte) (s : State) : Host.Outcome State Fault Refusal :=
  .next (takeRequest .clearTrip h payload clearTrip s)

/-- A set of causes in 16 bits: bit n for cause code n (R186). -/
def causeSet (later : List Cause) : Nat := (later.map fun k => 2 ^ k.code).sum

/-- The bytes of a trip record in a READ TRIP reply, its clearing uptime at the end (R168, R186). -/
def TripRecord.bytes (r : TripRecord) (clearedAt : Option Nat) : List Byte :=
  byte r.first.code :: long r.uptime ++ tenthsField r.tf ++ byteField r.position ++ word (causeSet r.later)
    ++ uptimeField clearedAt

/-- The payload of a READ TRIP reply (R168). -/
def LimitRecord.tripBytes (l : LimitRecord) : List Byte :=
  match l.active, l.cleared with
  | some r, _ => byte 1 :: r.bytes none
  | none, some x => byte 2 :: x.record.bytes (some x.clearedAt)
  | none, none =>
    byte 0 :: byteField none ++ uptimeField none ++ tenthsField none ++ byteField none ++ wordField none
      ++ uptimeField none

/-- The owner's part of READ TRIP (R168). -/
def readTrip : Owner := ownerOfCavity fun c _ s => (s, Reply.done (s.limit.cavity.get c).tripBytes)

/-- READ_TRIP (R168). -/
def execReadTrip (h : Header) (payload : List Byte) (s : State) : Host.Outcome State Fault Refusal :=
  .next (takeRequest .readTrip h payload readTrip s)

/-! ## The Sensor Scanner -/

/-- The record of a probe channel in a READ SENSOR reply, as the last whole second left it, the filter shift among its
values (R17, R186; DEDUCED, log entry 15). -/
def Channel.bytes (ch : Channel) (number : Nat) : List Byte :=
  [byte number, byte ch.state.code, byte (ch.count.getD 0)] ++ optBoolField ch.valid ++ wordField ch.raw
    ++ tenthsField ch.t ++ tenthsField ch.tf ++ [byte ch.invalidRun, byte ch.validRun]
    ++ byteField ch.shift ++ uptimeField ch.formedAt

/-- The record of REF in a READ SENSOR reply (R17, R186). (DEDUCED, log entry 15.) -/
def RefChannel.bytes (r : RefChannel) : List Byte :=
  [byte 6, byte r.state.code, byte (r.count.getD 0)] ++ optBoolField r.good ++ wordField r.raw
    ++ tenthsField none ++ tenthsField none ++ [byte r.badCount, byte r.goodCount] ++ byteField none
    ++ uptimeField r.formedAt

/-- The record of BRD in a READ SENSOR reply (R17, R186; DEDUCED, log entry 15). -/
def Scanner.boardBytes (x : Scanner) : List Byte :=
  byte 7 :: byteField none ++ byteField none ++ byteField none ++ wordField none ++ tenthsField x.board
    ++ tenthsField none ++ byteField none ++ byteField none ++ byteField none ++ uptimeField x.boardAt

/-- The probe channel of a channel number: P0 to P2, then K0 to K2. -/
def probeChannelOf : Nat → Option (Cavity × ProbeKind)
  | 0 => some (.c0, .cavity)
  | 1 => some (.c1, .cavity)
  | 2 => some (.c2, .cavity)
  | 3 => some (.c0, .catalyst)
  | 4 => some (.c1, .catalyst)
  | 5 => some (.c2, .catalyst)
  | _ => none

/-- The reply to READ SENSOR (R17). -/
def State.sensorReply (s : State) (n : Nat) : Reply :=
  match probeChannelOf n with
  | some (c, k) =>
    if s.enabled c then Reply.done (((s.scanner.probes.get c).channel k).bytes n)
    else Reply.refuse .absent
  | none =>
    if n = 6 then Reply.done s.scanner.ref.bytes
    else if n = 7 then Reply.done s.scanner.boardBytes
    else Reply.range 0

/-- The owner's part of READ SENSOR (R17). -/
def readSensor : Owner := fun p s => (s, s.sensorReply (byteAt p 0))

/-- READ_SENSOR (R17). -/
def execReadSensor (h : Header) (payload : List Byte) (s : State) : Host.Outcome State Fault Refusal :=
  .next (takeRequest .readSensor h payload readSensor s)

end Sys2Proof.Machine
end

