-- ==== Sys2Proof/Machine/Status.lean ====
section
/-! DEFINITION. READ STATUS: the sections of the owners and their byte layouts (R184, R188, with R64, R82, R107, R122,
R140, R154 and R169). -/

namespace Sys2Proof.Machine

/-! ## Selectors -/

/-- The sections of READ STATUS (R184). -/
inductive Section where
  | sequencer | regulation | allocator | drive | lock | fan | limit | link
deriving DecidableEq, Repr

/-- The section of a code (R187). -/
def sectionOf : Nat → Option Section
  | 1 => some .sequencer
  | 2 => some .regulation
  | 3 => some .allocator
  | 4 => some .drive
  | 5 => some .lock
  | 6 => some .fan
  | 7 => some .limit
  | 8 => some .link
  | _ => none

/-- A cavity selector: one cavity or ALL (R184). -/
inductive Selector where
  | one (c : Cavity)
  | all
deriving DecidableEq, Repr

/-- The selector of a byte: 0 to 2, or 0x0F for ALL (R186). -/
def selectorOf (n : Nat) : Option Selector :=
  if n = 0x0F then some .all else (cavityOf n).map .one

/-- Does the section of ALL cavities not fit in one frame (R188)? -/
def Section.oneCavityOnly : Section → Bool
  | .sequencer => true
  | .allocator => true
  | .drive => true
  | _ => false

/-! ## The layouts (R188) -/

/-- A chain in its 16 bytes, the unused entries 0xFF. -/
def chainField (chain : List Nat) : List Byte :=
  (chain.map byte ++ List.replicate 16 (byte 0xFF)).take 16

/-- The SEQUENCER part of a cavity (R64, R188). An absent byte is 0xFF, and an absent outcome 0 (R186, R187). -/
def State.sequencerPart (s : State) (c : Cavity) : List Byte :=
  let q := s.seq.get c
  [byte q.state.code, byte (flagByte [q.bound, q.lockOwned]), byte q.chain.length] ++ chainField q.chain
    ++ [byte q.position] ++ byteField (q.current.map Prod.fst) ++ byteField (q.current.map fun x => x.2.code)
    ++ word q.phaseElapsed ++ word q.soakProgress ++ word q.blindCool ++ long q.cycleElapsed
    ++ [byte q.completed, byte (outcomeCode q.outcome)] ++ byteField (q.abortReason.map AbortReason.code)
    ++ tenthsField (if s.heating c then (s.phaseRecord c).bind PhaseRecord.target else none)

/-- The REGULATION part of a cavity (R82). -/
def State.regulationPart (s : State) (c : Cavity) : List Byte :=
  let x := s.reg.get c
  tenthsField (x.setpoint.map fun n => (n : Int)) ++ long x.iAcc ++ word x.u
    ++ [byte (flagByte [x.heatSent, x.capInForce])]

/-- The ALLOCATOR items for the whole part (R107). -/
def State.allocatorWhole (s : State) : List Byte :=
  word s.alloc.supply ++ word s.alloc.declared ++ boolField s.link.quietCap ++ word s.alloc.available
    ++ word s.alloc.grantedSum ++ long s.alloc.window ++ [byte s.alloc.slot]

/-- One request record of the ALLOCATOR part. -/
def Allocator.recordBytes (a : Allocator) (c : Cavity) (e : Element) : List Byte :=
  match a.record (c, e) with
  | some r =>
    [byte e.rank, byte r.output] ++ word r.watts ++ [byte r.q, byte r.g, byte r.deferral,
      byte (flagByte [r.overdue, r.held, a.grants.contains (c, e)])]
  | none => []

/-- The place of a cavity in the cavity priority order, from 1 to 3 (R107). -/
def Allocator.place (a : Allocator) (c : Cavity) : Nat := a.priority.findIdx (fun x => decide (x = c)) + 1

/-- The ALLOCATOR part of a cavity (R107, R188), its request records in rising element rank, an order that neither rule
gives (DESIGN CHOICE, log entry 40). -/
def State.allocatorPart (s : State) (c : Cavity) : List Byte :=
  let d := s.alloc.demand.get c
  let records := Element.all.filter fun e => (s.alloc.record (c, e)).isSome
  word d.u ++ [byte d.elements.toByte, byte d.tier.code, byte (flagByte [d.withdraw, s.alloc.powerLimited.get c]),
    byte (s.alloc.place c), byte records.length] ++ records.flatMap (s.alloc.recordBytes c)

/-- One output of the DRIVE part. -/
def OutputRecord.bytes (o : OutputRecord) (i : Nat) (e : Element) : List Byte :=
  [byte i, byte e.rank] ++ wordField o.rating
    ++ [byte (flagByte [o.drive, decide (o.sense = some .current), o.sense.isNone, o.dead, o.stuck]),
      byte o.missCount, byte o.stuckCount]

/-- The outputs whose owner is an element of the cavity, with their numbers (R122). They are listed in rising output
number, an order that neither R122 nor R188 gives (DESIGN CHOICE, log entry 41). -/
def State.outputsOf (s : State) (c : Cavity) : List (Nat × Element × OutputRecord) :=
  (List.finRange 12).filterMap fun i =>
    match (s.drive.outputs[i]).owner with
    | some x => if x.1 = c then some (i.val, x.2, s.drive.outputs[i]) else none
    | none => none

/-- The DRIVE part of a cavity (R122, R188). Its supply relay byte is 1 for CLOSED and 0 for OPEN, a code that no
enumeration gives (DESIGN CHOICE, log entry 35). -/
def State.drivePart (s : State) (c : Cavity) : List Byte :=
  boolField (s.relayClosed c) ++ boolField (s.hasStuck c) ++ [byte (s.outputsOf c).length]
    ++ (s.outputsOf c).flatMap fun x => x.2.2.bytes x.1 x.2.1

/-- The LOCK part of a cavity (R140). -/
def State.lockPart (s : State) (c : Cavity) : List Byte :=
  let l := s.locks.get c
  [byte l.state.code, byte l.owner.code,
    byte (flagByte [decide (l.door = .opened), decide (l.switch = .locked)] + 4 * l.motor.code)]
    ++ byteField l.timer ++ byteField l.reversal ++ boolField (s.permission c)

/-- The FAN items for the whole part (R154, R188). The six source levels are sent in the order of the rows of R144's table,
an order that neither R154 nor R188 gives (DESIGN CHOICE, log entry 21). -/
def State.fanWhole (s : State) : List Byte :=
  let f := s.fan
  let x := f.sources
  [byte f.level, byte f.demand, byte x.temperature, byte x.sequencer, byte x.trip, byte x.board, byte x.host,
    byte x.stall, byte f.holdDown, byte f.state.code] ++ byteField f.spinup
    ++ [byte f.stallCount, byte f.recoveryCount] ++ wordField f.pulses ++ wordField f.rpm ++ [byte f.hostFloor]

/-- The FAN part of a cavity (R154). -/
def State.fanPart (s : State) (c : Cavity) : List Byte := boolField (s.fan.convection.get c)

/-- The LIMIT items for the whole part (R169). -/
def State.limitWhole (s : State) : List Byte := tenthsField s.limit.board

/-- The LIMIT part of a cavity (R169). -/
def State.limitPart (s : State) (c : Cavity) : List Byte :=
  let l := s.limit.cavity.get c
  boolField l.active.isSome ++ byteField (l.active.map fun r => r.first.code)
    ++ byteField (l.active.map fun r => r.later.length)
    ++ [byte (decide (l.cutout = .opened)).toNat, byte l.overtempCount, byte l.catalystCount]

/-- The LINK items (R184). -/
def State.linkWhole (s : State) : List Byte :=
  [byte s.link.state.code] ++ wordField s.link.quiet ++ [byte s.link.queue.length] ++ boolField s.link.overflow
    ++ [byte s.link.threshold] ++ boolField s.link.attn

/-- A section's items for the whole part. -/
def State.sectionWhole (s : State) : Section → List Byte
  | .sequencer => []
  | .regulation => []
  | .allocator => s.allocatorWhole
  | .drive => []
  | .lock => []
  | .fan => s.fanWhole
  | .limit => s.limitWhole
  | .link => s.linkWhole

/-- A section's part of a cavity, opened by the cavity number; LINK has none. -/
def State.sectionPart (s : State) (x : Section) (c : Cavity) : List Byte :=
  match x with
  | .sequencer => byte c.num :: s.sequencerPart c
  | .regulation => byte c.num :: s.regulationPart c
  | .allocator => byte c.num :: s.allocatorPart c
  | .drive => byte c.num :: s.drivePart c
  | .lock => byte c.num :: s.lockPart c
  | .fan => byte c.num :: s.fanPart c
  | .limit => byte c.num :: s.limitPart c
  | .link => []

/-- The cavities that a selector covers (R184). -/
def State.covered (s : State) : Selector → List Cavity
  | .one c => [c]
  | .all => Cavity.all.filter s.enabled

/-- Does a selector name an ABSENT cavity (R184)? -/
def State.namesAbsent (s : State) : Selector → Bool
  | .one c => !s.enabled c
  | .all => false

/-- The reply to READ STATUS: the selector is checked, then the section (R184, R188). -/
def State.statusReply (s : State) (selector section_ : Nat) : Reply :=
  match selectorOf selector with
  | none => Reply.range 0
  | some sel =>
    if s.namesAbsent sel then Reply.refuse .absent
    else match sectionOf section_ with
      | none => Reply.range 0
      | some x =>
        if x.oneCavityOnly && decide (sel = .all) then Reply.range 0
        else Reply.done (s.sectionWhole x ++ (s.covered sel).flatMap (s.sectionPart x))

/-- The owner's part of READ STATUS: it changes nothing (R184). -/
def readStatus : Owner := fun p s => (s, s.statusReply (byteAt p 0) (byteAt p 1))

/-- READ_STATUS (R184). -/
def execReadStatus (h : Header) (payload : List Byte) (s : State) : Host.Outcome State Fault Refusal :=
  .next (takeRequest .readStatus h payload readStatus s)

end Sys2Proof.Machine
end

