-- ==== Sys2Proof/Machine/Frames.lean ====
section
/-! DEFINITION. Frames whose kind the command does not fix: a valid frame of any kind code, and the raw characters of the
line (R173, R175, R176), with the meanings of UNKNOWN_KIND, FRAME_WHILE_REPLY_OWED, FRAME_DISCARDED and
FRAME_FOR_OTHER_NODE. -/

namespace Sys2Proof.Machine

/-- The owner's part of each request kind, given the link state before the frame (R175, R183). -/
def ownerOf (before : LinkState) : RequestKind → Owner
  | .identify => identify before
  | .readStatus => readStatus
  | .readEvents => readEvents
  | .setAttention => setAttention
  | .applianceProfile => applianceProfile
  | .cavityProfile => cavityProfile
  | .readProfile => readProfile
  | .writePhase => writePhase
  | .readPhase => readPhase
  | .erasePhase => erasePhase
  | .startCycle => startCycle
  | .startInline => startInline
  | .abortCycle => abortCycle
  | .lockDoor => lockDoor
  | .unlockDoor => unlockDoor
  | .setSupply => setSupply
  | .declareLoad => declareLoad
  | .setFanFloor => setFanFloor
  | .clearTrip => clearTrip
  | .readTrip => readTrip
  | .readSensor => readSensor

/-- A valid frame for this node or a broadcast ends, whatever its kind code (R175). -/
def takeFrame (h : Header) (code : Nat) (payload : List Byte) (s : State) : State :=
  match requestKindOf code with
  | some k => takeRequest k h payload (ownerOf s.link.state k) s
  | none => takeUnknown h code s

/-- UNKNOWN_KIND (R175): a kind code that is a request kind is taken as that request. (DESIGN CHOICE, log entry 31.)
-/
def execUnknownKind (h : Header) (code : BitVec 7) (payload : List Byte) (s : State) :
    Host.Outcome State Fault Refusal :=
  .next (takeFrame h code.toNat payload s)

/-- FRAME_WHILE_REPLY_OWED (R176): with no reply owed the frame is taken as any other. (DESIGN CHOICE, log entry 31.)
-/
def execFrameWhileReplyOwed (h : Header) (code : BitVec 7) (payload : List Byte) (s : State) :
    Host.Outcome State Fault Refusal :=
  .next (takeFrame h code.toNat payload s)

/-- One character reaches the receiver; a frame that it ends with a correct CRC is taken (R173 to R175). -/
def takeChar (s : State) (ch : LineChar) : State :=
  let out := receiveChar s.link.node s.link.receiver ch
  let s₁ := s.setLink { s.link with receiver := out.1 }
  match out.2 with
  | some frame =>
    if frameValid frame then takeFrame (frameHeader frame) (frameCode frame).toNat (framePayload frame) s₁ else s₁
  | none => s₁

/-- Characters reach the receiver in turn. -/
def takeChars (chars : List LineChar) (s : State) : State := chars.foldl takeChar s

/-- FRAME_DISCARDED (R173; DESIGN CHOICE, log entry 19). -/
def execFrameDiscarded (chars : List LineChar) (s : State) : Host.Outcome State Fault Refusal :=
  .next (takeChars chars s)

/-- FRAME_FOR_OTHER_NODE (R173; DESIGN CHOICE, log entry 19). -/
def execFrameForOtherNode (chars : List LineChar) (s : State) : Host.Outcome State Fault Refusal :=
  .next (takeChars chars s)

end Sys2Proof.Machine
end

