-- ==== Sys2Proof/Machine/PowerUp.lean ====
section
/-! DEFINITION. POWER_UP: every block takes its power-up state (R18, R33, R36, R61, R81, R108, R123, R141, R155, R171,
R185, R193). -/

namespace Sys2Proof.Machine

/-- A Sequencer entering RECOVERING at power-up (R61). -/
def Sequencer.recovering : Sequencer :=
  { Sequencer.fresh .recovering with lockOwned := true, outcome := some .recovered }

/-- Every block at its power-up state for given straps and raw inputs; the queue of commands and the model's free
counter are kept. Every cavity is enabled (R141). -/
def State.poweredUp (s : State) (pins : PowerUpPins) : State :=
  { State.reset with
    pending := s.pending
    free := s.free
    pins := pins.cavity
    locks := pins.cavity.map fun _ p => DoorLock.powerUp p
    limit := { State.reset.limit with cavity := pins.cavity.map fun _ p => LimitRecord.powerUp p.cutout }
    link := Link.powerUp (nodeAddress pins.addr1 pins.addr0) }

/-- A cavity whose lock is LOCKED at power-up enters RECOVERING and queues RECOVERY_BEGUN; with its door OPEN the
cause DOOR_BREACH is raised (R61, R141; DEDUCED, log entry 12). -/
def recoverCavity (s : State) (c : Cavity) : State :=
  let l := s.locks.get c
  if l.state = .locked then
    let s₁ := (s.setSeq c Sequencer.recovering).queueEvent .recoveryBegun (some c) 2 none
    s₁.raiseIf (decide (l.door = .opened)) c .doorBreach
  else s

/-- Power-up, taken whole (R185). -/
def powerUp (pins : PowerUpPins) (s : State) : State := Cavity.all.foldl recoverCavity (s.poweredUp pins)

/-- POWER_UP (R185). -/
def execPowerUp (pins : PowerUpPins) (s : State) : Host.Outcome State Fault Refusal := .next (powerUp pins s)

end Sys2Proof.Machine
end

