-- ==== Sys2Proof/Machine/Dispatch.lean ====
section
/-! DEFINITION. The dispatcher: one arm per command, each one direct call of its meaning. -/

namespace Sys2Proof.Machine

/-- The effect of a command on everything but the queue of commands. -/
def exec (i : Instr) (s : State) : Host.Outcome State Fault Refusal :=
  match i with
  | .powerUp pins => Sys2Proof.Machine.execPowerUp pins s
  | .sampleInstant samples => Sys2Proof.Machine.execSampleInstant samples s
  | .wholeSecondReading board => Sys2Proof.Machine.execWholeSecondReading board s
  | .sequencerCavityReading c => Sys2Proof.Machine.execSequencerCavityReading c s
  | .regulateRequest c => Sys2Proof.Machine.execRegulateRequest c s
  | .offRequest c => Sys2Proof.Machine.execOffRequest c s
  | .heatCompleteNotice c => Sys2Proof.Machine.execHeatCompleteNotice c s
  | .lockNotice c => Sys2Proof.Machine.execLockNotice c s
  | .tripNotice c => Sys2Proof.Machine.execTripNotice c s
  | .slotEvent => Sys2Proof.Machine.execSlotEvent s
  | .grantWithdrawNotice c => Sys2Proof.Machine.execGrantWithdrawNotice c s
  | .senseCheck loads => Sys2Proof.Machine.execSenseCheck loads s
  | .doorChange c value => Sys2Proof.Machine.execDoorChange c value s
  | .lockSwitchChange c value => Sys2Proof.Machine.execLockSwitchChange c value s
  | .engageTravelTimeout c => Sys2Proof.Machine.execEngageTravelTimeout c s
  | .releaseTravelTimeout c => Sys2Proof.Machine.execReleaseTravelTimeout c s
  | .reversalTimeReached c => Sys2Proof.Machine.execReversalTimeReached c s
  | .cutoutChange c value => Sys2Proof.Machine.execCutoutChange c value s
  | .supervisorCavityReading c => Sys2Proof.Machine.execSupervisorCavityReading c s
  | .supervisorBoardReading => Sys2Proof.Machine.execSupervisorBoardReading s
  | .supplyRelayClosed c => Sys2Proof.Machine.execSupplyRelayClosed c s
  | .fanCavityReading c => Sys2Proof.Machine.execFanCavityReading c s
  | .fanBoardReading => Sys2Proof.Machine.execFanBoardReading s
  | .fanEvaluation => Sys2Proof.Machine.execFanEvaluation s
  | .identify h payload => Sys2Proof.Machine.execIdentify h payload s
  | .readStatus h payload => Sys2Proof.Machine.execReadStatus h payload s
  | .readEvents h payload => Sys2Proof.Machine.execReadEvents h payload s
  | .setAttention h payload => Sys2Proof.Machine.execSetAttention h payload s
  | .applianceProfile h payload pins => Sys2Proof.Machine.execApplianceProfile h payload pins s
  | .cavityProfile h payload => Sys2Proof.Machine.execCavityProfile h payload s
  | .readProfile h payload => Sys2Proof.Machine.execReadProfile h payload s
  | .writePhase h payload => Sys2Proof.Machine.execWritePhase h payload s
  | .readPhase h payload => Sys2Proof.Machine.execReadPhase h payload s
  | .erasePhase h payload => Sys2Proof.Machine.execErasePhase h payload s
  | .startCycle h payload => Sys2Proof.Machine.execStartCycle h payload s
  | .startInline h payload => Sys2Proof.Machine.execStartInline h payload s
  | .abortCycle h payload => Sys2Proof.Machine.execAbortCycle h payload s
  | .lockDoor h payload => Sys2Proof.Machine.execLockDoor h payload s
  | .unlockDoor h payload => Sys2Proof.Machine.execUnlockDoor h payload s
  | .setSupply h payload => Sys2Proof.Machine.execSetSupply h payload s
  | .declareLoad h payload => Sys2Proof.Machine.execDeclareLoad h payload s
  | .setFanFloor h payload => Sys2Proof.Machine.execSetFanFloor h payload s
  | .clearTrip h payload => Sys2Proof.Machine.execClearTrip h payload s
  | .readTrip h payload => Sys2Proof.Machine.execReadTrip h payload s
  | .readSensor h payload => Sys2Proof.Machine.execReadSensor h payload s
  | .unknownKind h code payload => Sys2Proof.Machine.execUnknownKind h code payload s
  | .frameDiscarded chars => Sys2Proof.Machine.execFrameDiscarded chars s
  | .frameForOtherNode chars => Sys2Proof.Machine.execFrameForOtherNode chars s
  | .characterGapTimeout => Sys2Proof.Machine.execCharacterGapTimeout s
  | .frameWhileReplyOwed h code payload => Sys2Proof.Machine.execFrameWhileReplyOwed h code payload s
  | .replyComplete => Sys2Proof.Machine.execReplyComplete s
  | .quietTimeout => Sys2Proof.Machine.execQuietTimeout s
  | .lineBreak => Sys2Proof.Machine.execLineBreak s
  | .tachPulse => Sys2Proof.Machine.execTachPulse s
  | .lineReturnHigh => Sys2Proof.Machine.execLineReturnHigh s

end Sys2Proof.Machine
end

