-- ==== Sys2Proof/Machine/Ticks.lean ====
section
/-! DEFINITION. The passing of a tenth of a second: the clock, the travel timers and the quiet timer (DESIGN CHOICE, log entry 2). -/

namespace Sys2Proof.Machine

/-- The travel limit in tenths of a second: 8 s (R126). -/
def travelLimit : Nat := 80

/-- A timer after a tenth of a second. It stops one tenth short of its limit: reaching the limit is a command's
event. -/
def advance (limit : Nat) (t : Option Nat) : Option Nat := t.map fun n => if n + 1 < limit then n + 1 else n

/-- The lock with its travel timer advanced (R126, R140). -/
def DoorLock.tick (l : DoorLock) : DoorLock := { l with timer := advance travelLimit l.timer }

/-- The link with its quiet timer advanced; the timer runs only in ACTIVE, where alone it is present (R178). -/
def Link.tick (l : Link) : Link := { l with quiet := advance quietLimit l.quiet }

/-- The clock after a tenth of a second; uptime past its last value is a free value (DESIGN CHOICE, log entry 4). -/
def State.nextClock (s : State) : Moment :=
  if s.clock.tenths + 1 < 10 then { s.clock with tenths := s.clock.tenths + 1 }
  else { uptime := s.nextCount s.clock.uptime, tenths := 0 }

/-- The model's free counter after the clock has moved. -/
def State.nextFree (s : State) : Nat :=
  if s.clock.tenths + 1 < 10 then s.free else (s.spendCount s.clock.uptime).free

/-- A tenth of a second passes. -/
def State.tick (s : State) : State :=
  { s with
    clock := s.nextClock
    free := s.nextFree
    locks := s.locks.map fun _ l => l.tick
    link := s.link.tick }

end Sys2Proof.Machine
end

