-- ==== Sys2Proof/Safety.lean ====
section
/-! DEFINITION. What counts as a safe state of the PX3: the standing properties that the reference says hold at every
moment, each a predicate over all states. -/

namespace Sys2Proof.Machine

/-! ## Power -/

/-- The granted sum does not exceed the available budget (R86). -/
def State.withinBudget (s : State) : Prop := s.alloc.grantedSum ≤ s.alloc.available

/-- The available budget is the one that the supply limit, the declared load and the quiet cap give (R85). -/
def State.budgetStands (s : State) : Prop := s.alloc.available = s.budget

/-- Every driver output is driven exactly while its element stands in the slot grant list, with its cavity enabled
(R111). -/
def State.drivesFollow (s : State) : Prop :=
  ∀ o ∈ s.drive.outputs.toList, o.drive = driven s.enabled s.alloc.grants o

/-- A supply relay is closed only while its Sequencer is RUNNING and its cavity has no active trip record (R112). -/
def State.relaysGuarded (s : State) : Prop :=
  ∀ c, s.relayClosed c = true → (s.seq.get c).state = .running ∧ s.tripped c = false

/-- No element of a tripped cavity is granted (R104, R162), and an element of a cavity that is not heating with its
relay closed is granted only until the notice to the Allocator, in flight, is taken (R94, R103). -/
def State.grantsGuarded (s : State) : Prop :=
  ∀ c e, (c, e) ∈ s.alloc.grants → s.tripped c = false ∧
    ((s.heating c = true ∧ s.relayClosed c = true) ∨ 0 < (s.box c).withdrawNotices)

/-- The bounds of a request record: G ≤ Q ≤ 30 and a deferral count of at most 4 (R89). -/
def RequestRecord.bounded (r : RequestRecord) : Prop := r.g ≤ r.q ∧ r.q ≤ 30 ∧ r.deferral ≤ 4

/-- Every demand, in the demand table and in the regulation contexts, lies within 0 to 1000, every request record
within its bounds, and the slot number within 1 to 30 (R73, R87, R88, R89). -/
def State.requestsBounded (s : State) : Prop :=
  (∀ c, (s.reg.get c).u ≤ 1000 ∧ (s.alloc.demand.get c).u ≤ 1000) ∧ (∀ x r, s.alloc.record x = some r → r.bounded) ∧
    1 ≤ s.alloc.slot ∧ s.alloc.slot ≤ 30

/-- The rings: every enabled cavity stands exactly once in the ring of its tier and in no other, a disabled one in
neither, and the marker exactly once in tier 1 (R92, R106). A cavity is enabled exactly while its Sequencer is not
ABSENT (R62, R63). -/
def State.ringsSound (s : State) : Prop :=
  s.alloc.tier1.count .marker = 1 ∧
  ∀ c, (s.enabled c = true ↔ (s.seq.get c).state ≠ .absent) ∧
    s.alloc.tier1.count (.cavity c) = (if s.enabled c = true ∧ (s.alloc.demand.get c).tier = .one then 1 else 0) ∧
    s.alloc.tier2.count c = (if s.enabled c = true ∧ (s.alloc.demand.get c).tier = .two then 1 else 0)

/-! ## Regulation -/

/-- A request's target is one that a record may carry, so that the setpoint stays within its range (R65). -/
def RegRequest.bounded (r : RegRequest) : Prop := r.targetNat ≤ 5000

/-- The ranges of the regulation contexts: S60 at most 300000, I_acc at most 1000000, u at most 1000 (R65, R71, R73);
the targets of the records and of the requests in flight are at most 5000 (R20). -/
def State.regulationBounded (s : State) : Prop :=
  (∀ c, (∀ n, (s.reg.get c).s60 = some n → n ≤ 300000) ∧ (s.reg.get c).iAcc ≤ 1000000 ∧ (s.reg.get c).u ≤ 1000 ∧
    ∀ r ∈ (s.box c).regulation, r.bounded) ∧
  ∀ n r, s.recordAt n = some r → (r.target.getD 0).toNat ≤ 5000

/-! ## Chains -/

/-- The entries of a fixed chain from one on: each holds a written record that passes the cavity's checks, and its
next is the entry that follows, or END at the last (R25, R26). -/
def chainHolds (table : Nat → Option PhaseRecord) (p : CavityProfile) : List Nat → Prop
  | [] => True
  | n :: rest => (∃ r, table n = some r ∧ recordCheck p r = none ∧ r.next = rest.head?) ∧ chainHolds table p rest

/-- While a cavity is LOCKING or RUNNING, its fixed chain holds: 1 to 16 positions, none twice, each a table record
or the cavity's own inline slot, each still passing the chain check, and the chain position within it (R29, R30). In
RUNNING the current record is the one at the chain position (R42). -/
def State.chainsHeld (s : State) : Prop :=
  (∀ n r, s.recordAt n = some r → ∀ k, r.next = some k → k < 48) ∧
  ∀ c, let q := s.seq.get c
    q.state = .locking ∨ q.state = .running →
      chainHolds s.recordAt (s.profiles.get c) q.chain ∧ q.chain.Nodup ∧ q.chain.length ≤ 16 ∧
      q.position < q.chain.length ∧ (∀ n ∈ q.chain, n < 48 ∨ n = inlineSlot c) ∧
      (q.state = .running → ∃ n r, q.entry = some n ∧ s.recordAt n = some r ∧ q.current = some (n, r.kind))

/-! ## Locks -/

/-- A Door Lock Controller's standing: the travel timer runs exactly in ENGAGING and RELEASING and stays below 8 s, a
reversal time stands only in RELEASING, and the owner is NONE in OPEN (R125, R126). -/
def DoorLock.sound (l : DoorLock) : Prop :=
  (l.timer.isSome = true ↔ l.state = .engaging ∨ l.state = .releasing) ∧
  (∀ n, l.timer = some n → n < 80) ∧
  (∀ n, l.reversal = some n → n < 80 ∧ l.state = .releasing) ∧
  (l.state = .opened → l.owner = .none)

/-- Every lock is sound, and an absent cavity's lock is OPEN (R139); a cavity is enabled exactly while its Sequencer
is not ABSENT (R62, R63). -/
def State.locksSound (s : State) : Prop :=
  ∀ c, (s.locks.get c).sound ∧ (s.enabled c = true ↔ (s.seq.get c).state ≠ .absent) ∧
    (s.enabled c = false → (s.locks.get c).state = .opened)

/-! ## Trips -/

/-- A trip record's later causes are held once each and never contain the first (R156). -/
def TripRecord.sound (r : TripRecord) : Prop := r.later.Nodup ∧ r.first ∉ r.later

/-- The trip records are sound, and the limit counts are at most 3 (R156). -/
def State.tripsSound (s : State) : Prop :=
  ∀ c, let l := s.limit.cavity.get c
    (∀ r, l.active = some r → r.sound) ∧ (∀ x, l.cleared = some x → x.record.sound) ∧ l.overtempCount ≤ 3 ∧
      l.catalystCount ≤ 3

/-- A cavity in FAULTED has an active trip record (R165). With it stand the ways into FAULTED: a trip notice in
flight, a settling or recovering cavity with outcome TRIPPED, and a jammed lock each belong to a cavity with an
active trip record (R57, R58, R128, R133). A cavity is enabled exactly while its Sequencer is not ABSENT, and an
absent cavity's lock is OPEN. -/
def State.faultsTripped (s : State) : Prop :=
  ∀ c, let q := s.seq.get c
    (s.enabled c = true ↔ q.state ≠ .absent) ∧ (s.enabled c = false → (s.locks.get c).state = .opened) ∧
    (q.state = .faulted → s.tripped c = true) ∧
    (0 < (s.box c).tripNotices → s.tripped c = true) ∧
    ((q.state = .settling ∨ q.state = .recovering) ∧ q.outcome = some .tripped → s.tripped c = true) ∧
    ((s.locks.get c).state = .jammed → s.tripped c = true)

/-! ## Fan -/

/-- The Fan Controller's ranges: levels and demand at most 3, the duty that of the level, the hold-down count below
60, spin-up remaining present exactly in SPINUP and within 1 to 5, the stall and recovery counts below 10, OFF exactly
at level 0 (R142, R145, R147), and STALLED only at level 3 with no fall begun, since the stall source then holds the
demand at 3 (R144, R147). -/
def Fan.sound (f : Fan) : Prop :=
  f.level ≤ 3 ∧ f.demand ≤ 3 ∧ f.hostFloor ≤ 3 ∧ f.duty = dutyOf f.level ∧ f.holdDown < 60 ∧
  (∀ n, f.spinup = some n → 1 ≤ n ∧ n ≤ 5) ∧ (f.spinup.isSome = true ↔ f.state = .spinup) ∧
  f.stallCount < 10 ∧ f.recoveryCount < 10 ∧ f.tachCount ≤ 1000 ∧ (f.state = .off ↔ f.level = 0) ∧
  (f.state = .stalled → f.level = 3 ∧ f.holdDown = 0)

/-- The fan is sound, and so are the fan floors of the records (R19, R142). -/
def State.fanSound (s : State) : Prop := s.fan.sound ∧ ∀ n r, s.recordAt n = some r → r.fanFloor ≤ 3

/-! ## Link -/

/-- ATTN is driven exactly while a record at or above the threshold stands in the queue, which holds at most 24; the
quiet timer runs exactly in ACTIVE and stays below 5 s (R178, R180, R182). -/
def Link.sound (l : Link) : Prop :=
  l.attn = l.attention ∧ l.queue.length ≤ queueLimit ∧ (l.quiet.isSome = true ↔ l.state = .active) ∧
  (∀ n, l.quiet = some n → n < 50) ∧ l.threshold ≤ 4

/-! ## Sensing -/

/-- A temperature within the range that the conversion gives (R8). -/
def inProbeRange (t : Int) : Prop := -515 ≤ t ∧ t ≤ 6502

/-- A probe channel is sound: its counts are in range, F16 lies within 16 times the probe range, the temperatures it
delivers are present exactly in VALID and SUSPECT, and T lies in the probe range (R8, R9, R11, R12). -/
def Channel.sound (ch : Channel) : Prop :=
  ch.invalidRun ≤ 3 ∧ ch.validRun ≤ 10 ∧ ch.samples.length ≤ 4 ∧ -8240 ≤ ch.f16 ∧ ch.f16 ≤ 104032 ∧
  (ch.t.isSome = true ↔ ch.state = .valid ∨ ch.state = .suspect) ∧ (ch.tf.isSome = true ↔ ch.t.isSome = true) ∧
  ∀ t, ch.t = some t → inProbeRange t

/-- Every probe channel is sound. -/
def State.channelsSound (s : State) : Prop :=
  ∀ c, (s.scanner.probes.get c).cavity.sound ∧ (s.scanner.probes.get c).catalyst.sound

/-! ## Terms of the statements -/

/-- The event record that a happening of these items makes at this moment (R180). -/
def State.event (s : State) (kind : EventKind) (cavity : Option Cavity) (severity : Nat) (detail : Option Nat)
    (additional : Bool) : EventRecord :=
  { kind := kind, cavity := cavity, severity := severity, uptime := s.clock.uptime, detail := detail,
    additional := additional }

/-- What a step about one cavity leaves alone: the other cavities' Sequencers, contexts, locks, trips, mail, relays
and demands, and the clock, pins, profiles, scanner, Phase Table, board readings, fan apart from the cavity's
convection output, and the supply figures. -/
def KeepsOthers (s t : State) (c : Cavity) : Prop :=
  (∀ d, d ≠ c → t.seq.get d = s.seq.get d ∧ t.reg.get d = s.reg.get d ∧ t.locks.get d = s.locks.get d ∧
    t.limit.cavity.get d = s.limit.cavity.get d ∧ t.box d = s.box d ∧ t.drive.relays.get d = s.drive.relays.get d ∧
    t.alloc.demand.get d = s.alloc.demand.get d ∧ t.alloc.requests.get d = s.alloc.requests.get d) ∧
  t.pending = s.pending ∧ t.clock = s.clock ∧ t.pins = s.pins ∧ t.appliance = s.appliance ∧
  t.profiles = s.profiles ∧ t.scanner = s.scanner ∧ t.limit.board = s.limit.board ∧
  t.mail.supervisorBoard = s.mail.supervisorBoard ∧ t.mail.fanBoard = s.mail.fanBoard ∧
  { t.fan with convection := s.fan.convection } = s.fan ∧
  (∀ d, d ≠ c → t.fan.convection.get d = s.fan.convection.get d) ∧
  t.alloc.supply = s.alloc.supply ∧ t.alloc.declared = s.alloc.declared ∧ t.alloc.available = s.alloc.available ∧
  t.alloc.window = s.alloc.window ∧ t.alloc.slot = s.alloc.slot ∧ t.alloc.powerLimited = s.alloc.powerLimited

/-- What raising causes for one cavity leaves alone (R104, R157, R162, R163): everything but the Supervisor, the
Drive, the Allocator, the link's queue and the mail; the other cavities' records, relays, requests, demands and mail;
and every demand, ring and supply figure. -/
def RaisesOnly (s t : State) (c : Cavity) : Prop :=
  { t with limit := s.limit, drive := s.drive, alloc := s.alloc, link := s.link, mail := s.mail } = s ∧
  (∀ d, d ≠ c → t.limit.cavity.get d = s.limit.cavity.get d ∧ t.drive.relays.get d = s.drive.relays.get d ∧
    t.alloc.requests.get d = s.alloc.requests.get d ∧ t.box d = s.box d) ∧
  { t.alloc with grants := s.alloc.grants, requests := s.alloc.requests } = s.alloc ∧
  { t.link with queue := s.link.queue, overflow := s.link.overflow, owed := s.link.owed, attn := s.link.attn } =
    s.link ∧
  t.limit.board = s.limit.board ∧ t.mail.supervisorBoard = s.mail.supervisorBoard ∧ t.mail.fanBoard = s.mail.fanBoard ∧
  t.drive.handed = s.drive.handed

/-- The cavity's active trip record holds the cause, as its first or among its later causes (R156). -/
def State.holdsCause (s : State) (c : Cavity) (k : Cause) : Prop :=
  ∃ r, (s.limit.cavity.get c).active = some r ∧ (r.first = k ∨ k ∈ r.later)

/-- A cause that applies has been raised for a cavity in a step from `s` to `t`, no other before it: without a trip before,
it is the first cause of a new record and the supply relay is OPEN (R162); with one, the record keeps its first cause
and holds this one (R163). -/
def CauseRaised (s t : State) (c : Cavity) (k : Cause) : Prop :=
  t.holdsCause c k ∧
  (s.tripped c = false → t.relayClosed c = false ∧
    ∃ r, (t.limit.cavity.get c).active = some r ∧ r.first = k) ∧
  (∀ r, (s.limit.cavity.get c).active = some r → ∃ r', (t.limit.cavity.get c).active = some r' ∧ r'.first = r.first)

/-- The Allocator after a phase begin with a record (R43 step 3, R93): the record's element set is written, and for HEAT
or SOAK its tier; a cavity whose tier changes goes from its ring to the end of the other. -/
def Allocator.begun (a : Allocator) (c : Cavity) (r : PhaseRecord) : Allocator :=
  let d := a.demand.get c
  let tier := if r.kind.heats = true then r.tier else d.tier
  { a with
    demand := a.demand.set c { d with elements := r.elements, tier := tier }
    tier1 := if tier = d.tier then a.tier1 else
      (a.tier1.filter fun x => decide (x ≠ .cavity c)) ++ (if tier = .one then [.cavity c] else [])
    tier2 := if tier = d.tier then a.tier2 else
      (a.tier2.filter fun x => decide (x ≠ c)) ++ (if tier = .two then [c] else []) }

/-- The events and switchings of a phase begin at a position that holds a record (R43, steps 2, 3 and 5, R93, and the
notice of R103): PHASE_BEGUN joins the queue, the demand table entry is written and the rings follow its tier, and the
convection fan is switched; no grant and no request record changes. -/
def PhaseBegun (s t : State) (c : Cavity) (position : Nat) (r : PhaseRecord) : Prop :=
  t.link = s.link.enqueue (s.event .phaseBegun (some c) 0 (some position) false) ∧
  t.alloc = s.alloc.begun c r ∧
  (t.box c).withdrawNotices = (s.box c).withdrawNotices + (if r.kind.heats = true then 0 else 1) ∧
  t.fan.convection.get c = r.convection

/-- A phase begin that enters RUNNING and whose order to close the supply relay the Drive refuses (R112). With an active
trip record the phase begins as any other and the relay stays OPEN with no event; without one, an output of the cavity
being STUCK, RELAY_STUCK is raised behind PHASE_BEGUN and trips the cavity (R157, R162). -/
def BegunUnfed (s t : State) (c : Cavity) (position : Nat) (r : PhaseRecord) : Prop :=
  (t.box c).relayClosings = (s.box c).relayClosings ∧
  (s.tripped c = true → PhaseBegun s t c position r ∧ t.drive = s.drive ∧ t.limit = s.limit ∧
    (t.box c).tripNotices = (s.box c).tripNotices) ∧
  (s.tripped c = false → s.hasStuck c = true →
    t.link = (s.link.enqueue (s.event .phaseBegun (some c) 0 (some position) false)).enqueue
      (s.event .trip (some c) 3 (some 5) false) ∧
    CauseRaised s t c .relayStuck ∧ (∀ d, d ≠ c → t.limit.cavity.get d = s.limit.cavity.get d) ∧
    { t.alloc with grants := s.alloc.grants, requests := s.alloc.requests } = s.alloc.begun c r ∧
    t.alloc.grants = (s.alloc.grants.filter fun x => decide (x.1 ≠ c)) ∧
    (t.box c).tripNotices = (s.box c).tripNotices + 1 ∧
    (t.box c).withdrawNotices = (s.box c).withdrawNotices + (if r.kind.heats = true then 0 else 1) ∧
    t.fan.convection.get c = r.convection)

/-- The state that the settling test leaves for a Sequencer in SETTLING or RECOVERING (the table of R54, and R57). -/
def settledState (lock : LockState) (owned : Bool) (waiting : SeqState) (outcome : CycleOutcome) : SeqState :=
  match lock, owned with
  | .engaging, _ => waiting
  | .releasing, _ => waiting
  | .locked, true => waiting
  | .jammed, true => .faulted
  | _, _ => if outcome = .tripped then .faulted else .idle

/-- What the settling test makes of a Sequencer in SETTLING or RECOVERING (the table of R54, and R57): it waits on a
lock that travels or that it still holds LOCKED, gives up a jammed lock that it owns, and otherwise leaves. That the abort
reason becomes absent with the outcome TRIPPED of R57 is log entry 33. -/
def State.settledFrom (s : State) (c : Cavity) : State :=
  let q := s.seq.get c
  let l := s.locks.get c
  if l.state = .engaging ∨ l.state = .releasing ∨ (l.state = .locked ∧ q.lockOwned = true) then s
  else if l.state = .jammed ∧ q.lockOwned = true then
    { s with
      seq := s.seq.set c { q with outcome := some .tripped, abortReason := none, lockOwned := false, state := .faulted }
      locks := s.locks.set c { l with owner := .none } }
  else
    { s with
      seq := s.seq.set c { q with
        lockOwned := false, state := if q.outcome = some .tripped then .faulted else .idle } }

/-- The first entry of a list of checks that fails, each check given with what its failing leads to and whether it
fails. -/
def firstFailing {α : Type} (checks : List (α × Bool)) : Option α := (checks.find? Prod.snd).map Prod.fst

/-- A cycle of a cavity has ended with an outcome and an abort reason, its lock being where it stands (R52, R54,
R59): the relay is OPEN, the convection fan off, an OFF request posted, which clears the new-phase mark (R44), and the
outcome recorded; the Sequencer stands where the settling test leaves it, which keeps lock-owned while it waits and clears
it otherwise (R54). A jammed lock that the cycle owned is given up with outcome TRIPPED (R57). The counts and the chain stay
as the end found them. -/
def CycleEnded (s t : State) (c : Cavity) (outcome : CycleOutcome) (reason : Option AbortReason) : Prop :=
  let q := s.seq.get c
  let l := s.locks.get c
  t.relayClosed c = false ∧ t.fan.convection.get c = false ∧
  (∃ r, r.mode = .off ∧ r.position = q.position ∧ r.newPhase = q.newPhase ∧
    (t.box c).regulation = (s.box c).regulation ++ [r]) ∧
  (t.seq.get c).state = settledState l.state q.lockOwned .settling outcome ∧
  (t.seq.get c).lockOwned = (q.lockOwned && decide (l.state = .engaging ∨ l.state = .releasing ∨ l.state = .locked)) ∧
  (t.seq.get c).newPhase = false ∧ (t.seq.get c).soakProgress = q.soakProgress ∧
  (t.seq.get c).blindCool = q.blindCool ∧
  (l.state ≠ .jammed ∨ q.lockOwned = false → (t.seq.get c).outcome = some outcome ∧
    (t.seq.get c).abortReason = reason ∧ t.locks.get c = l) ∧
  (l.state = .jammed ∧ q.lockOwned = true → (t.seq.get c).outcome = some .tripped ∧
    (t.seq.get c).abortReason = none ∧ t.locks.get c = { l with owner := .none }) ∧
  (t.seq.get c).chain = q.chain ∧ (t.seq.get c).position = q.position ∧ (t.seq.get c).current = q.current ∧
  (t.seq.get c).completed = q.completed ∧ (t.seq.get c).phaseElapsed = q.phaseElapsed ∧
  (t.seq.get c).cycleElapsed = q.cycleElapsed ∧ (t.seq.get c).bound = q.bound ∧
  (t.box c).withdrawNotices = (s.box c).withdrawNotices + (if q.state = .running then 1 else 0) ∧
  t.alloc = s.alloc ∧ t.table = s.table

end Sys2Proof.Machine
end

