-- ==== Sys2Proof/WellFormed.lean ====
section
/-! DEFINITION. Which commands are well formed: the checks on operands that the reference lets a command's name imply. -/

namespace Sys2Proof

/-- The most payload bytes of a request frame: LENGTH is at most 64 and counts KIND (R173). -/
def payloadLimit : Nat := 63

/-- Does a payload fit in a frame? -/
def payloadFits (p : List Byte) : Bool := decide (p.length ≤ payloadLimit)

/-- The kind codes of the request kinds (the table of R175). -/
def requestCodes : List Nat :=
  [0x01, 0x02, 0x03, 0x04, 0x10, 0x11, 0x12, 0x20, 0x21, 0x22, 0x30, 0x31, 0x32, 0x40, 0x41, 0x50, 0x51, 0x52, 0x60,
    0x61, 0x70]

/-- Do the characters open a frame for another node or a reply: an address character that is no broadcast (R172)? -/
def opensForeignFrame : List LineChar → Bool
  | [] => false
  | ch :: _ => ch.marker && !ch.framingError && decide (ch.byte ≠ 0x0F#8)

/-- Is the command well formed? A request's payload fits in a frame, UNKNOWN_KIND carries no request kind, a discarded
frame has a character, and a frame for another node opens as one. -/
def Instr.wellFormed : Instr → Bool
  | .powerUp _ => true
  | .sampleInstant _ => true
  | .wholeSecondReading _ => true
  | .sequencerCavityReading _ => true
  | .regulateRequest _ => true
  | .offRequest _ => true
  | .heatCompleteNotice _ => true
  | .lockNotice _ => true
  | .tripNotice _ => true
  | .slotEvent => true
  | .grantWithdrawNotice _ => true
  | .senseCheck _ => true
  | .doorChange _ _ => true
  | .lockSwitchChange _ _ => true
  | .engageTravelTimeout _ => true
  | .releaseTravelTimeout _ => true
  | .reversalTimeReached _ => true
  | .cutoutChange _ _ => true
  | .supervisorCavityReading _ => true
  | .supervisorBoardReading => true
  | .supplyRelayClosed _ => true
  | .fanCavityReading _ => true
  | .fanBoardReading => true
  | .fanEvaluation => true
  | .identify _ p => payloadFits p
  | .readStatus _ p => payloadFits p
  | .readEvents _ p => payloadFits p
  | .setAttention _ p => payloadFits p
  | .applianceProfile _ p _ => payloadFits p
  | .cavityProfile _ p => payloadFits p
  | .readProfile _ p => payloadFits p
  | .writePhase _ p => payloadFits p
  | .readPhase _ p => payloadFits p
  | .erasePhase _ p => payloadFits p
  | .startCycle _ p => payloadFits p
  | .startInline _ p => payloadFits p
  | .abortCycle _ p => payloadFits p
  | .lockDoor _ p => payloadFits p
  | .unlockDoor _ p => payloadFits p
  | .setSupply _ p => payloadFits p
  | .declareLoad _ p => payloadFits p
  | .setFanFloor _ p => payloadFits p
  | .clearTrip _ p => payloadFits p
  | .readTrip _ p => payloadFits p
  | .readSensor _ p => payloadFits p
  | .unknownKind _ code p => payloadFits p && !requestCodes.contains code.toNat
  | .frameDiscarded chars => !chars.isEmpty
  | .frameForOtherNode chars => opensForeignFrame chars
  | .characterGapTimeout => true
  | .frameWhileReplyOwed _ _ p => payloadFits p
  | .replyComplete => true
  | .quietTimeout => true
  | .lineBreak => true
  | .tachPulse => true
  | .lineReturnHigh => true

end Sys2Proof
end

