-- ==== Sys2Proof/Certificates/Slice0/Obligations.lean ====
section
/-! DEFINITION. The statements for the provers. Each says which rules of spec/ it rests on; where a clause is the model's
own choice, its docstring names the log entry. -/

open Sys2Proof Sys2Proof.Machine

/-! ## The machine -/

/-- A step takes the command at the front of the queue and runs it on the state with the queue's rest; every command has
a next state, and the queue's rest is then what waits. -/
def Obligations.StepTakesFront : Prop :=
  ∀ (s : State) (i : Instr) (rest : List Instr), s.pending = i :: rest →
    step s = exec i { s with pending := rest } ∧ ∃ t : State, step s = .next t ∧ t.pending = rest

/-- The model's choice (log entry 2): with no command waiting a step is the passing of a tenth of a second, in which the
clock, the travel timers (R126, R140) and the quiet timer (R178, R184) move and nothing else does. -/
def Obligations.EmptyQueuePassesTenth : Prop :=
  ∀ s : State, s.pending = [] → ∃ t : State, step s = .next t ∧
    (s.clock.tenths < 9 → t.clock = ⟨s.clock.uptime, s.clock.tenths + 1⟩) ∧
    (s.clock.tenths = 9 → s.clock.uptime + 1 < 2 ^ 32 → t.clock = ⟨s.clock.uptime + 1, 0⟩) ∧
    (∀ c, t.locks.get c = { s.locks.get c with
      timer := (s.locks.get c).timer.map fun n => if n < 79 then n + 1 else n }) ∧
    t.link = { s.link with quiet := s.link.quiet.map fun n => if n < 49 then n + 1 else n } ∧
    { t with clock := s.clock, locks := s.locks, link := s.link, free := s.free } = s

/-- Power-up gives every block its power-up state, whatever stood before; the straps give the node address, and a cavity
whose lock switch reads LOCKED enters RECOVERING with its lock LOCKED, tripped when its door is OPEN (R18, R33, R37, R61,
R81, R108, R123, R141, R155, R171, R185, R193). What the slot number reads before the first slot event is log entry 17,
and the order of the cavities' events behind POWER_UP log entry 12. -/
def Obligations.PowerUpTakesStrapsAndSwitches : Prop :=
  ∀ (pins : PowerUpPins) (s : State), ∃ t : State, exec (.powerUp pins) s = .next t ∧
    let locked (c : Cavity) : Bool := decide ((pins.cavity.get c).lock = .locked)
    let breached (c : Cavity) : Bool := locked c && decide ((pins.cavity.get c).door = .opened)
    let record (kind : EventKind) (c : Cavity) (severity : Nat) (detail : Option Nat) : EventRecord :=
      { kind := kind, cavity := some c, severity := severity, uptime := 0, detail := detail, additional := false }
    let events (c : Cavity) : List EventRecord :=
      (if locked c then [record .recoveryBegun c 2 none] else []) ++
        (if breached c then [record .trip c 3 (some 8)] else [])
    t.pending = s.pending ∧ t.free = s.free ∧ t.clock = ⟨0, 0⟩ ∧ t.pins = pins.cavity ∧
    t.appliance = ApplianceProfile.default ∧ t.profiles = .all CavityProfile.default ∧
    t.scanner = Scanner.powerUp ∧ (∀ n, t.recordAt n = none) ∧ t.reg = .all Regulation.powerUp ∧
    t.alloc = Allocator.powerUp ∧ t.drive = Drive.powerUp ∧ t.fan = Fan.powerUp ∧ t.limit.board = none ∧
    t.mail.supervisorBoard = [] ∧ t.mail.fanBoard = [] ∧
    t.link = { node := 2 * pins.addr1.toNat + pins.addr0.toNat, receiver := .hunt, owed := none, state := .listen,
               quiet := none, queue := EventRecord.powerUp :: (events .c0 ++ events .c1 ++ events .c2),
               overflow := false, threshold := 1, attn := true } ∧
    ∀ c, let p := pins.cavity.get c
      t.locks.get c =
        { door := p.door, switch := p.lock, state := if locked c then .locked else .opened,
          owner := if locked c then .recovery else .none, timer := none, reversal := none } ∧
      t.seq.get c =
        (if locked c then { Sequencer.fresh .recovering with lockOwned := true, outcome := some .recovered }
         else Sequencer.fresh .idle) ∧
      t.limit.cavity.get c =
        { reading := none, overtempCount := 0, catalystCount := 0, cutout := p.cutout, cleared := none,
          active := if breached c then
            some { first := .doorBreach, uptime := 0, tf := none, position := none, later := [] } else none } ∧
      t.box c = { Mailbox.empty with tripNotices := if breached c then 1 else 0 }

/-- Every standing property of Safety.lean holds of the machine right after reset. -/
def Obligations.ResetIsSound : Prop :=
  State.reset.withinBudget ∧ State.reset.budgetStands ∧ State.reset.drivesFollow ∧ State.reset.relaysGuarded ∧
  State.reset.grantsGuarded ∧ State.reset.requestsBounded ∧ State.reset.ringsSound ∧ State.reset.regulationBounded ∧
  State.reset.chainsHeld ∧ State.reset.locksSound ∧ State.reset.tripsSound ∧ State.reset.faultsTripped ∧
  State.reset.fanSound ∧ State.reset.link.sound ∧ State.reset.channelsSound

/-! ## Invariants that every step keeps -/

/-- The available budget always stands at the figure of R85, and the granted sum never exceeds it (R86): every step keeps
it. -/
def Obligations.BudgetNeverExceeded : Prop :=
  ∀ s t : State, s.withinBudget → s.budgetStands → step s = .next t → t.withinBudget ∧ t.budgetStands

/-- Every driver output always follows the slot grant list (R111): every step keeps it. -/
def Obligations.DrivesFollowGrants : Prop :=
  ∀ s t : State, s.drivesFollow → step s = .next t → t.drivesFollow

/-- A supply relay is closed only in RUNNING without an active trip (R112): every step keeps it. -/
def Obligations.RelaysOnlyWhileRunning : Prop :=
  ∀ s t : State, s.relaysGuarded → step s = .next t → t.relaysGuarded

/-- No tripped cavity is granted, and a cavity that is not heating keeps a grant only until its notice is taken (R94,
R103, R104): every step keeps it. -/
def Obligations.GrantsOnlyWhileHeating : Prop :=
  ∀ s t : State, s.grantsGuarded → step s = .next t → t.grantsGuarded

/-- G ≤ Q ≤ 30 for every request record, with demands within 0 to 1000 (R73, R87, R89), and the regulation contexts in
their ranges (R65, R71, R73): every step keeps it. -/
def Obligations.RequestsStayBounded : Prop :=
  ∀ s t : State, s.requestsBounded → s.regulationBounded → step s = .next t →
    t.requestsBounded ∧ t.regulationBounded

/-- Every enabled cavity stands exactly once in the ring of its tier, and the marker once in tier 1 (R92): every step
keeps it. -/
def Obligations.RingsStaySound : Prop :=
  ∀ s t : State, s.ringsSound → step s = .next t → t.ringsSound

/-- The fixed chain of a cavity in LOCKING or RUNNING goes on passing the chain check (R29, R30): every step keeps it. -/
def Obligations.ChainsStayHeld : Prop :=
  ∀ s t : State, s.chainsHeld → step s = .next t → t.chainsHeld

/-- The travel timer, the reversal time and the owner of every lock suit its state (R125, R126, R139): every step keeps
it. -/
def Obligations.LocksStaySound : Prop :=
  ∀ s t : State, s.locksSound → step s = .next t → t.locksSound

/-- A later-cause set never holds its first cause or a cause twice, the limit counts stay at most 3 (R156), and a cavity in
FAULTED always has an active trip record (R165): every step keeps it. That a cleared trip's notices in flight are dropped
is the model's choice (log entry 10). -/
def Obligations.TripsStaySound : Prop :=
  ∀ s t : State, s.tripsSound → s.faultsTripped → step s = .next t → t.tripsSound ∧ t.faultsTripped

/-- The Fan Controller's fields stay in their ranges (R142, R145, R147), and a stalled fan stands at level 3 with no fall
begun (R144, R147): every step keeps it. -/
def Obligations.FanStaysSound : Prop :=
  ∀ s t : State, s.fanSound → step s = .next t → t.fanSound

/-- ATTN is driven exactly while the queue holds a record at or above the threshold, the queue holds at most 24 records,
and the quiet timer runs exactly in ACTIVE (R178, R180, R182): every step keeps it. -/
def Obligations.AttentionStaysRight : Prop :=
  ∀ s t : State, s.link.sound → step s = .next t → t.link.sound

/-- The probe channels' counts, accumulators and temperatures stay in their ranges (R8, R9, R11, R12): every step
keeps it. -/
def Obligations.ChannelsStaySound : Prop :=
  ∀ s t : State, s.channelsSound → step s = .next t → t.channelsSound

/-! ## Temperature Sensing -/

/-- The conversion of a raw reading in its segment: the quotient is rounded to nearest, a half away from zero, and the
temperature lies within -515 to 6502 (R7, R8). -/
def Obligations.ConversionRoundsToNearest : Prop :=
  breakpoints = [10000, 11940, 13851, 15733, 17586, 19410, 21205, 22972, 24709, 26418, 28098, 29749, 31371] ∧
  ∀ r k : Nat, 8000 ≤ r → r ≤ 33000 → k ≤ 11 → (r < 10000 → k = 0) → (29749 ≤ r → k = 11) →
    (10000 ≤ r → r < 29749 → breakpoint k ≤ r ∧ (r : Int) < breakpoint (k + 1)) →
    let n : Int := ((r : Int) - breakpoint k) * 500
    let d : Int := breakpoint (k + 1) - breakpoint k
    let q : Int := temperatureOf r - 500 * k
    2 * (q * d - n).natAbs ≤ d.natAbs ∧ (2 * (q * d - n).natAbs = d.natAbs → n.natAbs < (q * d).natAbs) ∧
      -515 ≤ temperatureOf r ∧ temperatureOf r ≤ 6502

/-- A sample instant adds one sample to REF and to both channels of every enabled cavity, and to no other channel; nothing
else changes (R1, R16). -/
def Obligations.SampleInstantTaken : Prop :=
  ∀ (x : Samples) (s : State), ∃ t : State, exec (.sampleInstant x) s = .next t ∧
    { t with scanner := s.scanner } = s ∧
    t.scanner.board = s.scanner.board ∧ t.scanner.boardAt = s.scanner.boardAt ∧ t.scanner.latest = s.scanner.latest ∧
    (s.scanner.ref.samples.length < 4 →
      t.scanner.ref = { s.scanner.ref with samples := s.scanner.ref.samples ++ [x.reference] }) ∧
    ∀ c, (s.enabled c = false → t.scanner.probes.get c = s.scanner.probes.get c) ∧
      (s.enabled c = true →
        let p := s.scanner.probes.get c
        p.cavity.samples.length < 4 → p.catalyst.samples.length < 4 →
          t.scanner.probes.get c =
            { cavity := { p.cavity with samples := p.cavity.samples ++ [(x.probes.get c).cavity] },
              catalyst := { p.catalyst with samples := p.catalyst.samples ++ [(x.probes.get c).catalyst] } })

/-- A whole second forms the reading of every enabled cavity that took all its samples, under the reference state as this
second leaves it, and delivers the cavity reading and the clamped board reading to the blocks that take them (R3 to R6,
R14, R16). A channel of an enabled cavity that did not take all four samples is not graded and only its store is emptied, and
where either channel of a cavity is so, no cavity reading is formed or delivered (R16). That a reading takes all four
samples, also at a cavity long enabled, is log entry 25. -/
def Obligations.WholeSecondDelivers : Prop :=
  ∀ (b : Int) (s : State), ∃ t : State, exec (.wholeSecondReading b) s = .next t ∧
    t.scanner.board = some (max (-400) (min 1500 b)) ∧ t.scanner.boardAt = some s.clock.uptime ∧
    t.mail.supervisorBoard = s.mail.supervisorBoard ++ [max (-400) (min 1500 b)] ∧
    t.mail.fanBoard = s.mail.fanBoard ++ [max (-400) (min 1500 b)] ∧
    t.scanner.ref = s.scanner.ref.second s.clock.uptime ∧
    { t with scanner := s.scanner, mail := s.mail, link := s.link } = s ∧
    ∀ c, (s.enabled c = false → t.scanner.probes.get c = s.scanner.probes.get c ∧ t.box c = s.box c ∧
        t.scanner.latest.get c = s.scanner.latest.get c) ∧
      (s.enabled c = true → (s.scanner.probes.get c).cavity.samples.length = 4 →
        (s.scanner.probes.get c).catalyst.samples.length = 4 →
        let fault : Bool := decide (t.scanner.ref.state = .fault)
        let shift := (s.profiles.get c).filterShift
        let ch := (s.scanner.probes.get c).cavity.grade shift fault s.clock.uptime
        let k := (s.scanner.probes.get c).catalyst.grade shift fault s.clock.uptime
        let r : CavityReading := { uptime := s.clock.uptime, probe := ch.state, probeT := ch.t, probeTf := ch.tf,
                                   catalyst := k.state, catalystT := k.t, catalystTf := k.tf }
        t.scanner.probes.get c = ⟨ch, k⟩ ∧ t.scanner.latest.get c = some r ∧
        t.box c = { s.box c with
          sequencerReadings := (s.box c).sequencerReadings ++ [r],
          supervisorReadings := (s.box c).supervisorReadings ++ [r],
          fanReadings := (s.box c).fanReadings ++ [r] }) ∧
      (s.enabled c = true →
        let x := (s.scanner.probes.get c).cavity
        let y := (s.scanner.probes.get c).catalyst
        (x.samples.length ≠ 4 → (t.scanner.probes.get c).cavity = { x with samples := [] }) ∧
        (y.samples.length ≠ 4 → (t.scanner.probes.get c).catalyst = { y with samples := [] }) ∧
        (x.samples.length ≠ 4 ∨ y.samples.length ≠ 4 →
          t.box c = s.box c ∧ t.scanner.latest.get c = s.scanner.latest.get c))

/-- The grades of a probe channel: three invalid readings in a row take a VALID channel through SUSPECT, its values held,
to FAULT; nine valid readings leave a channel that has just entered FAULT in it, and the tenth returns it to VALID with
F16 set afresh (R10, R11, R12). Three invalid readings in a row take a channel that has never been valid from UNKNOWN to
FAULT without SUSPECT; a valid reading takes SUSPECT back to VALID with the invalid-run count at 0; and in FAULT an invalid
reading sets the valid-run count to 0 (R11, R12). A reading is valid when three of its samples are and the reference is not
in fault. -/
def Obligations.ChannelFaultAndReturn : Prop :=
  (∀ (ch : Channel) (shift n₁ n₂ n₃ : Nat) (f₁ f₂ f₃ : Bool) (a b c : List Nat),
    ch.state = .valid → ch.t.isSome = true → ch.tf.isSome = true →
    (measuredValid a = false ∨ f₁ = true) → (measuredValid b = false ∨ f₂ = true) →
    (measuredValid c = false ∨ f₃ = true) →
    let ch₁ := { ch with samples := a }.grade shift f₁ n₁
    let ch₂ := { ch₁ with samples := b }.grade shift f₂ n₂
    let ch₃ := { ch₂ with samples := c }.grade shift f₃ n₃
    (ch₁.state = .suspect ∧ ch₁.t = ch.t ∧ ch₁.tf = ch.tf ∧ ch₁.invalidRun = 1) ∧
    (ch₂.state = .suspect ∧ ch₂.t = ch.t ∧ ch₂.tf = ch.tf ∧ ch₂.invalidRun = 2) ∧
    (ch₃.state = .fault ∧ ch₃.t = none ∧ ch₃.tf = none ∧ ch₃.validRun = 0 ∧ ch₃.held = none)) ∧
  (∀ (ch : Channel) (shift now : Nat) (stores : List (List Nat)) (last : List Nat) (r : Nat),
    ch.state = .fault → ch.validRun = 0 → stores.length = 9 → (∀ st ∈ stores, measuredValid st = true) →
    measuredValid last = true → rawReading last = some r →
    let nine := stores.foldl (fun (x : Channel) st => { x with samples := st }.grade shift false now) ch
    let ten := { nine with samples := last }.grade shift false now
    nine.state = .fault ∧ nine.t = ch.t ∧ ten.state = .valid ∧ ten.f16 = 16 * temperatureOf r ∧
      ten.t = some (temperatureOf r) ∧ ten.tf = some (temperatureOf r) ∧ ten.invalidRun = 0) ∧
  (∀ (ch : Channel) (shift n₁ n₂ n₃ : Nat) (f₁ f₂ f₃ : Bool) (a b c : List Nat),
    ch.state = .unknown → ch.invalidRun = 0 → (measuredValid a = false ∨ f₁ = true) →
    (measuredValid b = false ∨ f₂ = true) → (measuredValid c = false ∨ f₃ = true) →
    let ch₁ := { ch with samples := a }.grade shift f₁ n₁
    let ch₂ := { ch₁ with samples := b }.grade shift f₂ n₂
    let ch₃ := { ch₂ with samples := c }.grade shift f₃ n₃
    (ch₁.state = .unknown ∧ ch₁.t = ch.t ∧ ch₁.tf = ch.tf ∧ ch₁.invalidRun = 1) ∧
    (ch₂.state = .unknown ∧ ch₂.t = ch.t ∧ ch₂.tf = ch.tf ∧ ch₂.invalidRun = 2) ∧
    (ch₃.state = .fault ∧ ch₃.t = none ∧ ch₃.tf = none ∧ ch₃.validRun = 0 ∧ ch₃.held = none)) ∧
  (∀ (ch : Channel) (shift now : Nat) (refFault : Bool),
    let ch' := ch.grade shift refFault now
    let valid : Prop := measuredValid ch.samples = true ∧ refFault = false
    (ch.state = .suspect → valid → ch'.state = .valid ∧ ch'.invalidRun = 0 ∧ ch'.held = none) ∧
    (ch.state = .unknown → valid → ch'.state = .valid ∧ ch'.invalidRun = 0) ∧
    (ch.state = .valid → valid → ch'.state = .valid ∧ ch'.invalidRun = ch.invalidRun) ∧
    (ch.state = .fault → ¬ valid → ch'.state = .fault ∧ ch'.validRun = 0 ∧ ch'.t = ch.t ∧ ch'.tf = ch.tf) ∧
    (ch.state = .fault → valid → ch.validRun < 9 →
      ch'.state = .fault ∧ ch'.validRun = ch.validRun + 1 ∧ ch'.t = ch.t ∧ ch'.tf = ch.tf))

/-- The reference check, the filter and the sensor events. A second is good for the reference when three of its REF samples
are valid and their mean lies within 14850 to 15150; the third bad second in a row enters REF_FAULT and the tenth good one
leaves it. A valid reading in VALID or SUSPECT moves F16 by the truncated quotient of the difference and 2^s, a first one
in UNKNOWN sets F16 afresh, and an invalid one leaves F16 alone. The whole second queues the reference event first, then
one event for each probe channel that entered or left FAULT, in rising channel number, and nothing else (R4, R9, R10, R13).
That a reading is graded only when all four of its samples were taken is log entry 25. -/
def Obligations.ReferenceFilterAndSensorEvents : Prop :=
  (∀ (b : Int) (s : State), ∃ t : State, exec (.wholeSecondReading b) s = .next t ∧
    let r := s.scanner.ref
    let r' := t.scanner.ref
    let v := r.samples.filter fun x => decide (8000 ≤ x ∧ x ≤ 33000)
    let good : Prop := 3 ≤ v.length ∧ 14850 ≤ v.sum / v.length ∧ v.sum / v.length ≤ 15150
    (r.state = .ok → r'.goodCount = (if r'.state = .fault then 0 else r.goodCount) ∧
      (good → r'.state = .ok ∧ r'.badCount = 0) ∧
      (¬ good → r.badCount < 2 → r'.state = .ok ∧ r'.badCount = r.badCount + 1) ∧
      (¬ good → r.badCount = 2 → r'.state = .fault ∧ r'.badCount = 3)) ∧
    (r.state = .fault → r'.badCount = (if r'.state = .ok then 0 else r.badCount) ∧
      (¬ good → r'.state = .fault ∧ r'.goodCount = 0) ∧
      (good → r.goodCount < 9 → r'.state = .fault ∧ r'.goodCount = r.goodCount + 1) ∧
      (good → r.goodCount = 9 → r'.state = .ok ∧ r'.goodCount = 10)) ∧
    let event (c : Option Cavity) (number : Nat) (entered : Bool) : EventRecord :=
      if entered then s.event .sensorFault c 2 (some number) false
      else s.event .sensorRecovered c 0 (some number) false
    let afterRef : Link := match r.state, r'.state with
      | .ok, .fault => s.link.enqueue (event none 6 true)
      | .fault, .ok => s.link.enqueue (event none 6 false)
      | _, _ => s.link
    let cavityChannel (c : Cavity) : Cavity × Nat × ChannelState × ChannelState :=
      (c, c.num, (s.scanner.probes.get c).cavity.state, (t.scanner.probes.get c).cavity.state)
    let catalystChannel (c : Cavity) : Cavity × Nat × ChannelState × ChannelState :=
      (c, 3 + c.num, (s.scanner.probes.get c).catalyst.state, (t.scanner.probes.get c).catalyst.state)
    t.link = ([cavityChannel .c0, cavityChannel .c1, cavityChannel .c2, catalystChannel .c0, catalystChannel .c1,
      catalystChannel .c2]).foldl (fun l x =>
        if x.2.2.1 ≠ .fault ∧ x.2.2.2 = .fault then l.enqueue (event (some x.1) x.2.1 true)
        else if x.2.2.1 = .fault ∧ x.2.2.2 ≠ .fault then l.enqueue (event (some x.1) x.2.1 false)
        else l) afterRef) ∧
  (∀ (ch : Channel) (shift now raw : Nat) (refFault : Bool),
    let ch' := ch.grade shift refFault now
    let t := temperatureOf raw
    let d := 16 * t - ch.f16
    (measuredValid ch.samples = true → refFault = false → rawReading ch.samples = some raw →
      (ch.state = .valid ∨ ch.state = .suspect → ch'.state = .valid ∧ ch'.t = some t ∧
        ch'.f16 = ch.f16 + Int.tdiv d (2 ^ shift) ∧ ch'.tf = some (Int.fdiv (ch'.f16 + 8) 16) ∧
        (d.natAbs < 2 ^ shift → ch'.f16 = ch.f16)) ∧
      (ch.state = .unknown → ch'.state = .valid ∧ ch'.t = some t ∧ ch'.f16 = 16 * t ∧ ch'.tf = some t)) ∧
    (measuredValid ch.samples = false ∨ refFault = true → ch'.f16 = ch.f16))

/-! ## The Phase Table and chains -/

/-- An accepted WRITE PHASE puts the record at its position and an accepted ERASE PHASE empties it; every other position
and every other block is as the frame's end left it (R21, R23). Both are refused IN_USE at a position of a fixed chain
(R22, R23), and RANGE at an index from 48, field code 0. A record that is not well-formed is refused RANGE with the first
failing field of the field table, in the order of the codes (R20, R21). The record is written out again as the sixteen bytes
that spelled it, its unnamed bits being 0 (R24, R187). -/
def Obligations.WriteAndErasePhase : Prop :=
  (∀ (s : State) (h : Header) (p : List Byte) (r : PhaseRecord),
    s.link.owed = none → p.length = 17 → byteAt p 0 < 48 → (rawRecordAt p 1).check = .ok r →
    (∀ c, (s.seq.get c).state = .locking ∨ (s.seq.get c).state = .running → byteAt p 0 ∉ (s.seq.get c).chain) →
    ∃ t : State, exec (.writePhase h p) s = .next (t.answer h 0x20 none (Reply.done [])) ∧
      { t with table := s.table } = s.heard ∧ t.recordAt (byteAt p 0) = some r ∧
      ∀ n, n ≠ byteAt p 0 → t.recordAt n = s.recordAt n) ∧
  (∀ (s : State) (h : Header) (n : Nat), s.link.owed = none → n < 48 →
    (∀ c, (s.seq.get c).state = .locking ∨ (s.seq.get c).state = .running → n ∉ (s.seq.get c).chain) →
    ∃ t : State, exec (.erasePhase h [byte n]) s = .next (t.answer h 0x22 none (Reply.done [])) ∧
      { t with table := s.table } = s.heard ∧ t.recordAt n = none ∧
      ∀ m, m ≠ n → t.recordAt m = s.recordAt m) ∧
  (∀ (s : State) (h : Header) (p : List Byte) (r : PhaseRecord) (c : Cavity),
    s.link.owed = none → p.length = 17 → byteAt p 0 < 48 → (rawRecordAt p 1).check = .ok r →
    (s.seq.get c).state = .locking ∨ (s.seq.get c).state = .running → byteAt p 0 ∈ (s.seq.get c).chain →
    exec (.writePhase h p) s = .next (s.heard.answer h 0x20 none (Reply.refuse .inUse)) ∧
    exec (.erasePhase h [byte (byteAt p 0)]) s = .next (s.heard.answer h 0x22 none (Reply.refuse .inUse))) ∧
  (∀ (p : List Byte) (r : PhaseRecord), p.length = 16 → (rawRecordAt p 0).check = .ok r → byteAt p 1 < 8 →
    byteAt p 10 < 16 → recordBytes (some r) = p) ∧
  (∀ (s : State) (h : Header) (p : List Byte), s.link.owed = none → p.length = 17 →
    (48 ≤ byteAt p 0 → exec (.writePhase h p) s = .next (s.heard.answer h 0x20 none (Reply.range 0))) ∧
    (∀ f, byteAt p 0 < 48 → (rawRecordAt p 1).check = .error f →
      exec (.writePhase h p) s = .next (s.heard.answer h 0x20 none (Reply.range f)))) ∧
  (∀ (s : State) (h : Header) (n : Nat), s.link.owed = none → 48 ≤ n → n < 256 →
    exec (.erasePhase h [byte n]) s = .next (s.heard.answer h 0x22 none (Reply.range 0))) ∧
  (∀ (x : RawRecord) (f : Nat),
    let heats : Bool := decide (x.kind = 1 ∨ x.kind = 2)
    let outside (lo hi n : Nat) : Bool := decide (n < lo ∨ hi < n)
    x.check = .error f ↔ firstFailing [
      (1, outside 1 4 x.kind),
      (2, if heats then !(x.target.any fun t => decide (300 ≤ t ∧ t ≤ 5000))
        else if x.kind = 3 then !(x.target.any fun t => decide (0 ≤ t ∧ t ≤ 5000)) else x.target.isSome),
      (3, if x.kind = 1 then x.ramp.any (outside 1 300) else x.ramp.isSome),
      (4, if x.kind = 2 ∨ x.kind = 4 then !(x.duration.any fun n => !outside 1 65535 n) else x.duration.isSome),
      (5, x.limit.any (outside 1 1023)),
      (6, x.abort && x.limit.isNone),
      (7, if heats then decide (x.elements = ElementSet.empty) else !decide (x.elements = ElementSet.empty)),
      (9, decide (3 < x.fanFloor)),
      (11, outside 1 2 x.tier),
      (12, if heats then x.gate.any (outside 1000 4000) else x.gate.isSome),
      (13, decide (48 ≤ x.next ∧ x.next ≠ 255))] = some f)

/-- The chain check accepts exactly the lists that begin at the first position, hold no position twice and at most
sixteen, and at which every record is written, passes the cavity's checks and names its successor, the last naming
END (R25, R26, R29). -/
def Obligations.ChainCheckIsExact : Prop :=
  ∀ (table : Nat → Option PhaseRecord) (p : CavityProfile) (first : Nat) (w : List Nat),
    chainCheck table p first = .ok w ↔
      w.head? = some first ∧ w.Nodup ∧ w.length ≤ 16 ∧ chainHolds table p w

/-! ## The Service Link -/

/-- What a frame's end makes of a request: each request command is the end of a valid frame with its kind code. While a
reply is owed, the frame is discarded but counts for the link state; otherwise an unknown kind, a wrong length and a
posted read are turned away in this order, and the owner's outcome is answered (R175, R176, R178). An unposted request
leaves its reply owed, a posted one that is not DONE queues REQUEST_REFUSED (R176, R177, R187). A START CYCLE whose chain
fails the check is answered CHAIN with the offending position and the check code, the checks of a record being UNMAPPED,
MARGIN and CEILING, for HEAT and SOAK alone (R26, R27, R28, R39). The model's choices in it: the cavity of REQUEST_REFUSED
(log entry 14), and a FRAME_WHILE_REPLY_OWED, an UNKNOWN_KIND or a request command taken as the frame that it is (log
entries 22 and 31), the raw inputs of APPLIANCE PROFILE being those that the command carries (log entry 32). -/
def Obligations.RequestsCheckedAndAnswered : Prop :=
  (∀ (h : Header) (p : List Byte) (pins : PerCavity SwitchPins) (s : State),
    exec (.identify h p) s = .next (takeFrame h 0x01 p s) ∧
    exec (.readStatus h p) s = .next (takeFrame h 0x02 p s) ∧
    exec (.readEvents h p) s = .next (takeFrame h 0x03 p s) ∧
    exec (.setAttention h p) s = .next (takeFrame h 0x04 p s) ∧
    exec (.applianceProfile h p pins) s = .next (takeFrame h 0x10 p { s with pins := pins }) ∧
    exec (.cavityProfile h p) s = .next (takeFrame h 0x11 p s) ∧
    exec (.readProfile h p) s = .next (takeFrame h 0x12 p s) ∧
    exec (.writePhase h p) s = .next (takeFrame h 0x20 p s) ∧
    exec (.readPhase h p) s = .next (takeFrame h 0x21 p s) ∧
    exec (.erasePhase h p) s = .next (takeFrame h 0x22 p s) ∧
    exec (.startCycle h p) s = .next (takeFrame h 0x30 p s) ∧
    exec (.startInline h p) s = .next (takeFrame h 0x31 p s) ∧
    exec (.abortCycle h p) s = .next (takeFrame h 0x32 p s) ∧
    exec (.lockDoor h p) s = .next (takeFrame h 0x40 p s) ∧
    exec (.unlockDoor h p) s = .next (takeFrame h 0x41 p s) ∧
    exec (.setSupply h p) s = .next (takeFrame h 0x50 p s) ∧
    exec (.declareLoad h p) s = .next (takeFrame h 0x51 p s) ∧
    exec (.setFanFloor h p) s = .next (takeFrame h 0x52 p s) ∧
    exec (.clearTrip h p) s = .next (takeFrame h 0x60 p s) ∧
    exec (.readTrip h p) s = .next (takeFrame h 0x61 p s) ∧
    exec (.readSensor h p) s = .next (takeFrame h 0x70 p s)) ∧
  (∀ (h : Header) (code : BitVec 7) (p : List Byte) (s : State), s.link.owed.isSome = true →
    exec (.frameWhileReplyOwed h code p) s = .next s.heard ∧ exec (.unknownKind h code p) s = .next s.heard) ∧
  (∀ (k : RequestKind) (h : Header) (p : List Byte) (s : State), s.link.owed.isSome = true →
    takeFrame h k.code p s = s.heard) ∧
  (∀ (h : Header) (code : BitVec 7) (p : List Byte) (s : State), s.link.owed = none →
    requestCodes.contains code.toNat = false →
    exec (.unknownKind h code p) s = .next (s.heard.answer h code.toNat none Reply.unknown) ∧
    exec (.frameWhileReplyOwed h code p) s = .next (s.heard.answer h code.toNat none Reply.unknown)) ∧
  (∀ (k : RequestKind) (h : Header) (p : List Byte) (s : State), s.link.owed = none →
    (p.length ≠ k.length → takeFrame h k.code p s = s.heard.answer h k.code none (Reply.refuse .format)) ∧
    (p.length = k.length → k.isRead = true → h.posted = true ∨ h.broadcast = true →
      takeFrame h k.code p s = s.heard.answer h k.code (k.cavityIn p) (Reply.refuse .postedRead)) ∧
    (p.length = k.length → k.isRead = false ∨ (h.posted = false ∧ h.broadcast = false) →
      takeFrame h k.code p s = (ownerOf s.link.state k p s.heard).1.answer h k.code (k.cavityIn p)
        (ownerOf s.link.state k p s.heard).2)) ∧
  (∀ (s : State) (h : Header) (code : Nat) (c : Option Cavity) (r : Reply),
    (h.posted = false → h.broadcast = false →
      s.answer h code c r = { s with link := { s.link with owed := some ⟨r, false⟩ } }) ∧
    (h.posted = true ∨ h.broadcast = true → r.outcome = .done → s.answer h code c r = s) ∧
    (h.posted = true ∨ h.broadcast = true → r.outcome ≠ .done →
      let e := s.event .requestRefused c 2 (some (256 * code + 16 * r.outcome.code + r.reason.code)) false
      s.answer h code c r = { s with link := s.link.enqueue e })) ∧
  (∀ (s : State) (h : Header) (c : Cavity) (first n : Nat) (k : ChainCheck),
    s.link.owed = none → (s.seq.get c).state = .idle → (s.seq.get c).bound = true → s.probeValid c = true →
    first < 48 → chainCheck s.recordAt (s.profiles.get c) first = .error (n, k) →
    exec (.startCycle h [byte c.num, byte first]) s = .next (s.heard.answer h 0x30 (some c)
      { outcome := .refused, reason := .chain, reads := none, payload := [byte n, byte (match k with
          | .empty => 1 | .loop => 2 | .length => 3 | .unmapped => 4 | .margin => 5 | .ceiling => 6)] })) ∧
  (∀ (p : CavityProfile) (r : PhaseRecord),
    let heats : Prop := r.kind = .heat ∨ r.kind = .soak
    let unmapped : Prop := ∃ e, r.elements.has e = true ∧ p.outputs.get e = none
    let above (bound : Int) : Prop := ∃ t, r.target = some t ∧ bound < t
    (recordCheck p r = some .unmapped ↔ heats ∧ unmapped) ∧
    (recordCheck p r = some .margin ↔ heats ∧ ¬ unmapped ∧ above ((p.hardLimit : Int) - 200)) ∧
    (recordCheck p r = some .ceiling ↔
      heats ∧ ¬ unmapped ∧ ¬ above ((p.hardLimit : Int) - 200) ∧ r.locked = false ∧ above p.ceiling) ∧
    (recordCheck p r = none ↔ ¬ heats ∨
      (¬ unmapped ∧ ¬ above ((p.hardLimit : Int) - 200) ∧ (r.locked = true ∨ ¬ above p.ceiling))))

/-- A request that is not answered DONE changes nothing in its owner's block or any other (R21, R39, R137, R165, R189,
R191), and a read changes nothing whatever its outcome (R24, R168, R184, R193). Which check refuses: a cavity number from 3
and an ABSENT cavity in the requests that name a cavity (R38), and the first failing check of START CYCLE and START INLINE
(R26, R39), of CAVITY PROFILE (R191) and of APPLIANCE PROFILE (R189), the reply being DONE where none fails. A value out of its
range is refused RANGE in SET SUPPLY and DECLARE LOAD (R83, R84), SET FAN FLOOR (R151), READ EVENTS (R181), SET ATTENTION
(R182), READ PHASE (R24), READ SENSOR (R17) and READ STATUS (R184), which refuses an ABSENT cavity as READ SENSOR does. The
latest cavity reading that a start's SENSOR check reads is the one that the Scanner last formed (log entry 7). -/
def Obligations.RefusedRequestChangesNothing : Prop :=
  ∀ (before : LinkState) (k : RequestKind) (p : List Byte) (s : State),
    ((ownerOf before k p s).2.outcome ≠ .done → (ownerOf before k p s).1 = s) ∧
    (k.isRead = true → (ownerOf before k p s).1 = s) ∧
    -- the cavity number (R38)
    (k = .cavityProfile ∨ k = .startCycle ∨ k = .startInline ∨ k = .abortCycle ∨ k = .lockDoor ∨ k = .unlockDoor ∨
        k = .clearTrip ∨ k = .readTrip ∨ (k = .readProfile ∧ byteAt p 0 ≠ 3) →
      (2 < byteAt p 0 → (ownerOf before k p s).2 = Reply.range 0) ∧
      (∀ c : Cavity, byteAt p 0 = c.num → (s.seq.get c).state = .absent →
        (ownerOf before k p s).2 = Reply.refuse .absent)) ∧
    -- a value out of its range
    (let refused (r : Reply) : Prop := (ownerOf before k p s).2 = r;
      (k = .setSupply ∨ k = .declareLoad → 11000 < wordAt p 0 → refused (Reply.range 0)) ∧
      (k = .setFanFloor → 3 < byteAt p 0 → refused (Reply.range 0)) ∧
      (k = .setAttention → 4 < byteAt p 0 → refused (Reply.range 0)) ∧
      (k = .readEvents → byteAt p 0 = 0 ∨ 6 < byteAt p 0 → refused (Reply.range 0)) ∧
      (k = .readPhase → 50 < byteAt p 0 → refused (Reply.range 0)) ∧
      (k = .readSensor → 7 < byteAt p 0 → refused (Reply.range 0)) ∧
      (k = .readStatus → 2 < byteAt p 0 → byteAt p 0 ≠ 15 → refused (Reply.range 0)) ∧
      (k = .readStatus → byteAt p 0 = 15 ∨ (∃ c : Cavity, byteAt p 0 = c.num ∧ s.enabled c = true) →
        byteAt p 1 = 0 ∨ 8 < byteAt p 1 → refused (Reply.range 0)) ∧
      (∀ c : Cavity, s.enabled c = false →
        (k = .readSensor → byteAt p 0 = c.num ∨ byteAt p 0 = 3 + c.num → refused (Reply.refuse .absent)) ∧
        (k = .readStatus → byteAt p 0 = c.num → refused (Reply.refuse .absent)))) ∧
    -- a start, and a cavity profile
    (∀ c : Cavity, byteAt p 0 = c.num → (s.seq.get c).state ≠ .absent →
      let q := s.seq.get c
      let l := s.locks.get c
      let standing : List (Reply × Bool) := [
        (Reply.refuse .state, !decide (q.state = .idle)),
        (Reply.refuse .unbound, !q.bound),
        (Reply.refuse .sensor, !((s.scanner.latest.get c).any fun r => decide (r.probe = .valid)))]
      let chained (table : Nat → Option PhaseRecord) (first : Nat) : Reply :=
        match chainCheck table (s.profiles.get c) first with
        | .error (n, x) => Reply.chain n x.code
        | .ok w => (firstFailing [
            (Reply.busy, decide (l.state = .engaging ∨ l.state = .releasing)),
            (Reply.refuse .lock, decide (l.state = .jammed)),
            (Reply.refuse .door, holdsLocked table w && decide (l.door = .opened))]).getD (Reply.done [])
      (ownerOf before .startCycle p s).2 = (firstFailing (standing ++ [
        (Reply.range 0, decide (48 ≤ byteAt p 1))])).getD (chained s.recordAt (byteAt p 1)) ∧
      (ownerOf before .startInline p s).2 = (firstFailing standing).getD (match (rawRecordAt p 1).check with
        | .error f => Reply.range f
        | .ok r => chained (s.tableWith (inlineSlot c) r) (inlineSlot c)) ∧
      let x := cavityProfileOf p
      let outside (lo hi n : Nat) : Bool := decide (n < lo ∨ hi < n)
      let some₄ (f : Element → Bool) : Bool := f .upper || f .lower || f .ring || f .grill
      (ownerOf before .cavityProfile p s).2 = (firstFailing [
        (Reply.refuse .state, !decide (q.state = .idle) || s.tripped c),
        (Reply.range 1, some₄ fun e => (x.outputs.get e).any fun o => decide (11 < o)),
        (Reply.range 2, some₄ fun e => (x.outputs.get e).isSome && outside 1 3600 (x.ratings.get e)),
        (Reply.range 3, decide (4 < x.filterShift)),
        (Reply.range 4, decide (255 < x.kp)),
        (Reply.range 5, decide (1000 < x.ki)),
        (Reply.range 6, outside 10 200 x.approachBand),
        (Reply.range 7, outside 10 300 x.soakBand),
        (Reply.range 8, decide (1000 < x.catalystCap)),
        (Reply.range 9, outside 2000 3200 x.ceiling),
        (Reply.range 10, outside 1500 3000 x.releaseThreshold || decide (x.ceiling < x.releaseThreshold + 100)),
        (Reply.range 11, outside 4000 5600 x.hardLimit || decide (x.hardLimit < x.ceiling + 1000)),
        (Reply.range 12, outside 4000 6500 x.catalystLimit),
        (Reply.refuse .map, !decide x.named.Nodup || (List.finRange 12).any fun i =>
          x.named.contains i.val && (s.output i).owner.any fun y => decide (y.1 ≠ c))]).getD (Reply.done [])) ∧
    -- an appliance profile
    (let a := applianceProfileOf p
      let outside (lo hi n : Nat) : Bool := decide (n < lo ∨ hi < n)
      let tests (c : Cavity) : List (Reply × Bool) :=
        let changes : Bool := decide (a.enabled.get c ≠ s.enabled c)
        [(Reply.refuse .state, changes &&
            (!decide ((s.seq.get c).state = .idle ∨ (s.seq.get c).state = .absent) || s.tripped c)),
          (Reply.refuse .lock, changes && !decide ((s.locks.get c).state = .opened))]
      (ownerOf before .applianceProfile p s).2 = (firstFailing ([
        (Reply.range 1, decide (a.enabled = ⟨false, false, false⟩)),
        (Reply.range 2, decide (11000 < a.quietBudget)),
        (Reply.range 3, outside 500 5000 a.tLow),
        (Reply.range 4, outside 500 5000 a.tMid || decide (a.tMid ≤ a.tLow)),
        (Reply.range 5, outside 500 5000 a.tHigh || decide (a.tHigh ≤ a.tMid)),
        (Reply.range 6, outside 300 6000 a.rpmLow),
        (Reply.range 7, outside 300 6000 a.rpmMid),
        (Reply.range 8, outside 300 6000 a.rpmHigh),
        (Reply.range 9, outside 1 4 a.pulsesPerRev)] ++ tests .c0 ++ tests .c1 ++ tests .c2)).getD (Reply.done []))

/-- The read requests are answered DONE with the layouts of R186 to R188, item by item, and change nothing but what every
valid frame does (R85, R178) and the reply owed: IDENTIFY gives the link state before the frame (R183), READ EVENTS the oldest
records, to be removed when the reply is complete (R181), READ PHASE a record and its in-use set (R24), READ PROFILE the
profile in force (R193), READ TRIP the active or the last cleared record (R168), READ SENSOR a channel's record (R17), and READ
STATUS each section of one cavity and of ALL, with ALL refused RANGE for SEQUENCER, ALLOCATOR and DRIVE (R184, R188). The
model's choices in the layouts: log entries 7 (the release permission), 13 (unnamed bits of an element set), 15 (READ SENSOR:
BRD carries the uptime of its reading, and the filter shift is that of the last reading, absent before the first), 18 (the
ratings of unmapped elements), 21 (the order of the fan's six source levels), 35 (the byte of the supply relay), 37 (the
detail of an event that has none), 40 (the order of the request records), 41 (the order of the outputs) and 42 (the byte of a
yes or no). -/
def Obligations.ReadRequestsAreAnswered : Prop :=
  ∀ (h : Header) (s : State), h.posted = false → h.broadcast = false → s.link.owed = none →
    let reply (x : State) (r : Reply) : State := { x with link := { x.link with owed := some ⟨r, false⟩ } }
    let covered : List Cavity := Cavity.all.filter s.enabled
    let bit (b : Bool) : Byte := byte b.toNat
    -- the layouts of R186 and R187
    let eventRecord (e : EventRecord) : List Byte :=
      [byte e.kind.code] ++ byteField (e.cavity.map Cavity.num) ++
        [byte (e.severity % 4 + 64 * e.additional.toNat + 128 * e.detail.isSome.toNat)] ++ long e.uptime ++
        wordField e.detail
    let elementSet (x : ElementSet) : Nat :=
      x.upper.toNat + 2 * x.lower.toNat + 4 * x.ring.toNat + 8 * x.grill.toNat
    let phaseRecord (x : Option PhaseRecord) : List Byte := match x with
      | some r => [byte r.kind.code,
            byte (r.convection.toNat + 2 * r.locked.toNat + 4 * (decide (r.onLimit = .abort)).toNat)] ++
          tenthsField r.target ++ word (r.ramp.getD 0) ++ word (r.duration.getD 0) ++ word (r.limit.getD 0) ++
          [byte (elementSet r.elements), byte r.fanFloor, byte (match r.tier with | .one => 1 | .two => 2)] ++
          word ((r.gate.getD 0).toNat) ++ byteField r.next
      | none => [0x00#8, 0x00#8, 0x80#8, 0x00#8, 0x00#8, 0x00#8, 0x00#8, 0x00#8, 0x00#8, 0x00#8, 0x00#8, 0xFF#8, 0xFF#8,
          0x00#8, 0x00#8, 0xFF#8]
    let applianceProfile : List Byte :=
      let a := s.appliance
      [byte (a.enabled.c0.toNat + 2 * a.enabled.c1.toNat + 4 * a.enabled.c2.toNat)] ++ word a.quietBudget ++
        word a.tLow ++ word a.tMid ++ word a.tHigh ++ word a.rpmLow ++ word a.rpmMid ++ word a.rpmHigh ++
        [byte a.pulsesPerRev]
    let cavityProfile (c : Cavity) : List Byte :=
      let x := s.profiles.get c
      [byte c.num] ++ byteField x.outputs.upper ++ byteField x.outputs.lower ++ byteField x.outputs.ring ++
        byteField x.outputs.grill ++ word x.ratings.upper ++ word x.ratings.lower ++ word x.ratings.ring ++
        word x.ratings.grill ++ [byte x.filterShift] ++ word x.kp ++ word x.ki ++ word x.approachBand ++
        word x.soakBand ++ word x.catalystCap ++ word x.ceiling ++ word x.releaseThreshold ++ word x.hardLimit ++
        word x.catalystLimit ++ [bit (s.seq.get c).bound]
    let tripRecord (r : TripRecord) : List Byte :=
      [byte r.first.code] ++ long r.uptime ++ tenthsField r.tf ++ byteField r.position ++
        word ((r.later.map fun k => 2 ^ k.code).sum)
    let trip (c : Cavity) : List Byte :=
      match (s.limit.cavity.get c).active, (s.limit.cavity.get c).cleared with
      | some r, _ => [0x01#8] ++ tripRecord r ++ uptimeField none
      | none, some x => [0x02#8] ++ tripRecord x.record ++ long x.clearedAt
      | none, none => [0x00#8] ++ byteField none ++ uptimeField none ++ tenthsField none ++ byteField none ++
          wordField none ++ uptimeField none
    let channel (ch : Channel) (number : Nat) : List Byte :=
      [byte number, byte ch.state.code, byte (ch.count.getD 0)] ++ byteField (ch.valid.map Bool.toNat) ++
        wordField ch.raw ++ tenthsField ch.t ++ tenthsField ch.tf ++ [byte ch.invalidRun, byte ch.validRun] ++
        byteField ch.shift ++ uptimeField ch.formedAt
    let reference : List Byte :=
      let r := s.scanner.ref
      [0x06#8, byte r.state.code, byte (r.count.getD 0)] ++ byteField (r.good.map Bool.toNat) ++ wordField r.raw ++
        tenthsField none ++ tenthsField none ++ [byte r.badCount, byte r.goodCount] ++ byteField none ++
        uptimeField r.formedAt
    let board : List Byte :=
      [0x07#8, 0xFF#8, 0xFF#8, 0xFF#8, 0xFF#8, 0xFF#8] ++ tenthsField s.scanner.board ++
        [0x80#8, 0x00#8, 0xFF#8, 0xFF#8, 0xFF#8] ++ uptimeField s.scanner.boardAt
    -- the sections of R188
    let sequencer (c : Cavity) : List Byte :=
      let q := s.seq.get c
      let heats : Bool := decide (q.state = .running) &&
        q.current.any fun x => decide (x.2 = .heat) || decide (x.2 = .soak)
      [byte c.num, byte q.state.code, byte (q.bound.toNat + 2 * q.lockOwned.toNat), byte q.chain.length] ++
        (q.chain.map byte ++ List.replicate 16 0xFF#8).take 16 ++ [byte q.position] ++
        byteField (q.current.map Prod.fst) ++ byteField (q.current.map fun x => x.2.code) ++ word q.phaseElapsed ++
        word q.soakProgress ++ word q.blindCool ++ long q.cycleElapsed ++ [byte q.completed,
          byte (match q.outcome with
            | none => 0 | some .done => 1 | some .aborted => 2 | some .tripped => 3 | some .recovered => 4)] ++
        byteField (q.abortReason.map AbortReason.code) ++
        tenthsField (if heats then (q.entry.bind s.recordAt).bind PhaseRecord.target else none)
    let regulation (c : Cavity) : List Byte :=
      let x := s.reg.get c
      [byte c.num] ++ tenthsField (x.s60.map fun n => ((n / 60 : Nat) : Int)) ++ long x.iAcc ++ word x.u ++
        [byte (x.heatSent.toNat + 2 * x.capInForce.toNat)]
    let allocator (c : Cavity) : List Byte :=
      let a := s.heard.alloc
      let d := a.demand.get c
      let order : List Cavity := a.tier1.flatMap fun x => match x with
        | .cavity e => [e]
        | .marker => a.tier2
      let elements : List Element := [Element.upper, .lower, .ring, .grill].filter fun e => (a.record (c, e)).isSome
      word a.supply ++ word a.declared ++ [0x00#8] ++ word a.available ++ word a.grantedSum ++ long a.window ++
        [byte a.slot] ++ [byte c.num] ++ word d.u ++ [byte (elementSet d.elements),
          byte (match d.tier with | .one => 1 | .two => 2),
          byte (d.withdraw.toNat + 2 * (a.powerLimited.get c).toNat),
          byte ((order.findIdx fun x => decide (x = c)) + 1), byte elements.length] ++
        elements.flatMap fun e => match a.record (c, e) with
          | some r => [byte e.rank, byte r.output] ++ word r.watts ++ [byte r.q, byte r.g, byte r.deferral,
              byte (r.overdue.toNat + 2 * r.held.toNat + 4 * (decide ((c, e) ∈ a.grants)).toNat)]
          | none => []
    let drive (c : Cavity) : List Byte :=
      let owned : List (Fin 12 × Element) := (List.finRange 12).filterMap fun i =>
        match (s.output i).owner with
        | some x => if x.1 = c then some (i, x.2) else none
        | none => none
      [byte c.num, bit (s.relayClosed c), bit (owned.any fun x => (s.output x.1).stuck), byte owned.length] ++
        owned.flatMap fun x =>
          let o := s.heard.output x.1
          [byte x.1.val, byte x.2.rank] ++ wordField o.rating ++
            [byte (o.drive.toNat + 2 * (decide (o.sense = some .current)).toNat + 4 * o.sense.isNone.toNat +
              8 * o.dead.toNat + 16 * o.stuck.toNat), byte o.missCount, byte o.stuckCount]
    let lock (c : Cavity) : List Byte :=
      let l := s.locks.get c
      let motor : Nat := match l.state with
        | .engaging => 1
        | .releasing => 2
        | _ => 0
      [byte c.num, byte l.state.code, byte l.owner.code,
          byte ((decide (l.door = .opened)).toNat + 2 * (decide (l.switch = .locked)).toNat + 4 * motor)] ++
        byteField l.timer ++ byteField l.reversal ++ [bit (s.permission c)]
    let fan : List Byte :=
      let f := s.fan
      let x := f.sources
      [byte f.level, byte f.demand, byte x.temperature, byte x.sequencer, byte x.trip, byte x.board, byte x.host,
          byte x.stall, byte f.holdDown, byte f.state.code] ++ byteField f.spinup ++
        [byte f.stallCount, byte f.recoveryCount] ++ wordField f.pulses ++ wordField f.rpm ++ [byte f.hostFloor]
    let convection (c : Cavity) : List Byte := [byte c.num, bit (s.fan.convection.get c)]
    let limits (c : Cavity) : List Byte :=
      let l := s.limit.cavity.get c
      [byte c.num, bit l.active.isSome] ++ byteField (l.active.map fun r => r.first.code) ++
        byteField (l.active.map fun r => r.later.length) ++
        [byte (match l.cutout with | .closed => 0 | .opened => 1), byte l.overtempCount, byte l.catalystCount]
    let link : List Byte :=
      [0x01#8, 0x00#8, 0x00#8, byte s.link.queue.length, bit s.link.overflow, byte s.link.threshold, bit s.link.attn]
    let status (selector section_ : Nat) (r : Reply) : Prop :=
      exec (.readStatus h [byte selector, byte section_]) s = .next (reply s.heard r)
    exec (.identify h []) s = .next (reply s.heard (Reply.done
      ([0x0B#8, 0x1A#8, 0x00#8, 0x33#8, 0x02#8, byte s.link.node,
        byte (s.appliance.enabled.c0.toNat + 2 * s.appliance.enabled.c1.toNat + 4 * s.appliance.enabled.c2.toNat),
        byte s.link.state.code] ++ long s.clock.uptime))) ∧
    (∀ n, 1 ≤ n → n ≤ 6 → exec (.readEvents h [byte n]) s = .next (reply s.heard
      { outcome := .done, reason := .none, reads := some (min n s.link.queue.length),
        payload := [byte (min n s.link.queue.length), bit s.link.overflow,
            byte (s.link.queue.length - min n s.link.queue.length)]
          ++ (s.link.queue.take n).flatMap eventRecord })) ∧
    (∀ n, n ≤ 50 → exec (.readPhase h [byte n]) s = .next (reply s.heard (Reply.done
      (phaseRecord (s.recordAt n) ++ [byte (cavitySetByte (s.inUseSet n))])))) ∧
    exec (.readProfile h [byte 3]) s = .next (reply s.heard (Reply.done applianceProfile)) ∧
    (∀ c : Cavity, (s.seq.get c).state ≠ .absent →
      exec (.readProfile h [byte c.num]) s = .next (reply s.heard (Reply.done (cavityProfile c))) ∧
      exec (.readTrip h [byte c.num]) s = .next (reply s.heard (Reply.done (trip c)))) ∧
    (∀ c : Cavity, s.enabled c = true →
      exec (.readSensor h [byte c.num]) s = .next (reply s.heard (Reply.done
        (channel (s.scanner.probes.get c).cavity c.num))) ∧
      exec (.readSensor h [byte (3 + c.num)]) s = .next (reply s.heard (Reply.done
        (channel (s.scanner.probes.get c).catalyst (3 + c.num)))) ∧
      status c.num 1 (Reply.done (sequencer c)) ∧ status c.num 2 (Reply.done (regulation c)) ∧
      status c.num 3 (Reply.done (allocator c)) ∧ status c.num 4 (Reply.done (drive c)) ∧
      status c.num 5 (Reply.done (lock c)) ∧ status c.num 6 (Reply.done (fan ++ convection c)) ∧
      status c.num 7 (Reply.done (tenthsField s.limit.board ++ limits c)) ∧ status c.num 8 (Reply.done link)) ∧
    (∀ k, k = 1 ∨ k = 3 ∨ k = 4 → status 15 k (Reply.range 0)) ∧
    status 15 2 (Reply.done (covered.flatMap regulation)) ∧ status 15 5 (Reply.done (covered.flatMap lock)) ∧
    status 15 6 (Reply.done (fan ++ covered.flatMap convection)) ∧
    status 15 7 (Reply.done (tenthsField s.limit.board ++ covered.flatMap limits)) ∧
    status 15 8 (Reply.done link) ∧
    exec (.readSensor h [byte 6]) s = .next (reply s.heard (Reply.done reference)) ∧
    exec (.readSensor h [byte 7]) s = .next (reply s.heard (Reply.done board)) ∧
    -- the codes of R187, R52 and R157
    [PhaseKind.heat, .soak, .cool, .dwell].map PhaseKind.code = [1, 2, 3, 4] ∧
    [SeqState.absent, .idle, .locking, .running, .settling, .faulted, .recovering].map SeqState.code =
      [0, 1, 2, 3, 4, 5, 6] ∧
    [AbortReason.request, .phaseTimeout, .doorOpened].map AbortReason.code = [1, 2, 3] ∧
    [ChannelState.unknown, .valid, .suspect, .fault].map ChannelState.code = [0, 1, 2, 3] ∧
    [RefState.ok, .fault].map RefState.code = [0, 1] ∧
    [LockState.opened, .engaging, .locked, .releasing, .jammed].map LockState.code = [0, 1, 2, 3, 4] ∧
    [LockOwner.none, .request, .cycle, .recovery].map LockOwner.code = [0, 1, 2, 3] ∧
    [FanState.off, .spinup, .on, .stalled].map FanState.code = [0, 1, 2, 3] ∧
    [LinkState.listen, .active, .quiet].map LinkState.code = [0, 1, 2] ∧
    [Cause.overtemp, .catalystOvertemp, .probeFault, .cutout, .relayStuck, .noHeat, .fanStall, .doorBreach, .lockJam,
      .lockLost, .boardOvertemp].map Cause.code = [1, 2, 3, 4, 5, 6, 7, 8, 9, 10, 11] ∧
    [EventKind.powerUp, .sensorFault, .sensorRecovered, .phaseBegun, .phaseTimeout, .cycleDone, .cycleAborted,
      .recoveryBegun, .powerLimited, .powerRestored, .elementDead, .lockEngaged, .lockReleased, .lockJam, .fanStall,
      .fanRecovered, .trip, .tripCleared, .requestRefused].map EventKind.code =
      [1, 2, 3, 4, 5, 6, 7, 8, 9, 10, 11, 12, 13, 14, 15, 16, 17, 18, 19]

/-- The end of a valid frame puts the receiver in HUNT, makes the link ACTIVE with the quiet timer at 0, and brings the
whole supply limit less the declared load into force, without shedding a grant; nothing else changes (R85, R173, R178). -/
def Obligations.ValidFrameMakesActive : Prop :=
  ∀ s : State, s.withinBudget → s.budgetStands →
    s.heard = { s with
      link := { s.link with receiver := .hunt, state := .active, quiet := some 0 },
      alloc := { s.alloc with available := s.alloc.supply - s.alloc.declared } }

/-- An event joins the end of the queue, which holds at most 24 records; an event that finds the queue full is discarded,
and only the overflow flag, and the owed reply's note of it, show that it came (R180, R181, R182). -/
def Obligations.EventJoinsQueue : Prop :=
  ∀ (l : Link) (e : EventRecord),
    (l.queue.length < 24 → l.enqueue e =
      { l with queue := l.queue ++ [e],
               attn := (l.queue ++ [e]).any fun x => decide (l.threshold ≤ x.severity) }) ∧
    (24 ≤ l.queue.length → l.enqueue e =
      { l with overflow := true, owed := l.owed.map fun o => { o with discarded := true } })

/-- The receiver reads back every request frame that its sender writes: from any state, the characters of a frame for this
node or a broadcast leave it in HUNT with that frame ended and valid, and the header, kind code and payload are those
written (R172 to R175). Taking the characters is taking the frame (log entry 19), and a character met after a break shows
that the line is high again (log entry 20). -/
def Obligations.ReceiverReadsBackFrames : Prop :=
  (∀ (node : Nat) (r : Receiver) (h : Header) (code : BitVec 7) (p : List Byte), node ≤ 3 → p.length ≤ 63 →
    let frame := frameBytes node h code p
    receiveAll node r (lineChars frame) = (.hunt, [frame]) ∧ frameValid frame = true ∧ frameHeader frame = h ∧
      frameCode frame = code ∧ framePayload frame = p) ∧
  (∀ (s : State) (h : Header) (code : BitVec 7) (p : List Byte), s.link.node ≤ 3 → p.length ≤ 63 →
    exec (.frameDiscarded (lineChars (frameBytes s.link.node h code p))) s = .next (takeFrame h code.toNat p s) ∧
    exec (.frameForOtherNode (lineChars (frameBytes s.link.node h code p))) s = .next (takeFrame h code.toNat p s))

/-- A frame with a wrong CRC is discarded silently, and so is a frame for another address or a reply: the receiver alone
moves, to HUNT or to SKIP (R173, R174). The table of R173, one character at a time and from every receiver state: an address
character begins a frame or skips one, also in mid-frame; a framing error drops the frame gathered; a data character is
ignored outside a frame, and in one it is gathered, but for a LENGTH of 0 or above 64, which drops the frame. Characters in
a row act one after the other. Taking a command's characters through the receiver is log entry 19, a character met after a
break log entry 20, and an address character with a framing error log entry 36. -/
def Obligations.OtherFramesPassedOver : Prop :=
  (∀ (s : State) (h : Header) (code : BitVec 7) (p : List Byte) (x : Byte), s.link.node ≤ 3 → p.length ≤ 63 →
    x ≠ crc8 (frameBytes s.link.node h code p).dropLast →
    exec (.frameDiscarded (lineChars ((frameBytes s.link.node h code p).dropLast ++ [x]))) s =
      .next { s with link := { s.link with receiver := .hunt } }) ∧
  (∀ (s : State) (a : Byte) (bytes : List Byte), a.toNat ≠ s.link.node → a ≠ 0x0F#8 →
    exec (.frameForOtherNode (lineChars (a :: bytes))) s = .next { s with link := { s.link with receiver := .skip } }) ∧
  (∀ (s : State) (b : Byte),
    let moves (marker framingError : Bool) (r : Receiver) : Prop :=
      let t : State := { s with link := { s.link with receiver := r } }
      exec (.frameDiscarded [⟨b, marker, framingError⟩]) s = .next t ∧
        exec (.frameForOtherNode [⟨b, marker, framingError⟩]) s = .next t
    (b.toNat = s.link.node ∨ b = 0x0F#8 → moves true false (.take [b])) ∧
    (b.toNat ≠ s.link.node → b ≠ 0x0F#8 → moves true false .skip) ∧
    (s.link.receiver = .skip → moves false false .skip ∧ moves false true .skip ∧ moves true true .skip) ∧
    (s.link.receiver = .hunt ∨ s.link.receiver = .waitHigh →
      moves false false .hunt ∧ moves false true .hunt ∧ moves true true .hunt) ∧
    (∀ g : List Byte, s.link.receiver = .take g →
      moves false true .hunt ∧ moves true true .hunt ∧
      (g.length = 1 → b.toNat = 0 ∨ 64 < b.toNat → moves false false .hunt) ∧
      (g.length = 1 → 1 ≤ b.toNat → b.toNat ≤ 64 → moves false false (.take (g ++ [b]))) ∧
      (2 ≤ g.length → g.length + 1 ≠ byteAt g 1 + 3 → moves false false (.take (g ++ [b]))) ∧
      (2 ≤ g.length → g.length + 1 = byteAt g 1 + 3 → b ≠ crc8 g → moves false false .hunt))) ∧
  (∀ (s : State) (xs ys : List LineChar),
    (∃ t : State, exec (.frameDiscarded xs) s = .next t ∧
      exec (.frameDiscarded (xs ++ ys)) s = exec (.frameDiscarded ys) t) ∧
    (∃ t : State, exec (.frameForOtherNode xs) s = .next t ∧
      exec (.frameForOtherNode (xs ++ ys)) s = exec (.frameForOtherNode ys) t))

/-- The link's own events: the quiet time, which ends ACTIVE only where the timer has run to it, so that an expiry taken
behind a valid frame leaves the link ACTIVE with the timer at 0; a break, the line's return, a gap between characters, and the
completion of a READ EVENTS reply, which alone removes records; SET ATTENTION replaces the threshold (R173, R176, R178, R179,
R181, R182). That the timer stands at 49 tenths when the quiet time is reached is log entry 2, that an expiry met before
changes nothing log entry 5, that the timer is absent in QUIET and in LISTEN log entry 16, and that the byte ATTN driven in the
reply of SET ATTENTION is 1 for yes and 0 for no log entry 42. -/
def Obligations.LinkEventsTaken : Prop :=
  (∀ s : State, s.link.state = .active → s.link.quiet = some 49 →
    exec .quietTimeout s = .next { s with link := { s.link with state := .quiet, quiet := none } }.rebudget) ∧
  (∀ s : State, (s.link.state ≠ .active ∨ s.link.quiet ≠ some 49 → exec .quietTimeout s = .next s) ∧
    exec .quietTimeout s.heard = .next s.heard ∧ s.heard.link.state = .active ∧ s.heard.link.quiet = some 0) ∧
  (∀ s : State, s.link.state = .active →
    exec .lineBreak s = .next
      { s with link := { s.link with receiver := .waitHigh, owed := none, state := .listen, quiet := none } }.rebudget) ∧
  (∀ s : State, s.link.state ≠ .active →
    exec .lineBreak s = .next
      { s with link := { s.link with receiver := .waitHigh, owed := none, state := .listen, quiet := none } }) ∧
  (∀ s : State, s.link.receiver = .waitHigh →
    exec .lineReturnHigh s = .next { s with link := { s.link with receiver := .hunt } }) ∧
  (∀ (s : State) (g : List Byte), s.link.receiver = .take g →
    exec .characterGapTimeout s = .next { s with link := { s.link with receiver := .hunt } }) ∧
  (∀ (s : State) (o : OwedReply), s.link.owed = some o → ∃ t : State, exec .replyComplete s = .next t ∧
    { t with link := s.link } = s ∧ t.link.owed = none ∧ t.link.state = s.link.state ∧
    t.link.quiet = s.link.quiet ∧ t.link.threshold = s.link.threshold ∧ t.link.node = s.link.node ∧
    (o.reply.reads = none → t.link.queue = s.link.queue ∧ t.link.overflow = s.link.overflow ∧
      t.link.attn = s.link.attn) ∧
    (∀ n, o.reply.reads = some n → t.link.queue = s.link.queue.drop n ∧ t.link.overflow = o.discarded ∧
      t.link.attn = (s.link.queue.drop n).any fun x => decide (s.link.threshold ≤ x.severity))) ∧
  (∀ (s : State) (h : Header) (n : Nat), s.link.owed = none → n ≤ 4 →
    let on := s.heard.link.queue.any fun x => decide (n ≤ x.severity)
    exec (.setAttention h [byte n]) s = .next
      ({ s.heard with link := { s.heard.link with threshold := n, attn := on } }.answer h 0x04 none
        (Reply.done [byte n, byte on.toNat])))

/-! ## Profiles -/

/-- An accepted cavity profile binds the cavity to it, resets its regulation context, gives every output that it names a
fresh record and frees the cavity's others, and gives every element it maps a fresh request record; the outputs of other
cavities stay as they stand (R89, R105, R121, R191, R192). That a grant of the cavity leaves the slot grant list is log
entry 11. -/
def Obligations.CavityProfileBinds : Prop :=
  ∀ (s : State) (h : Header) (c : Cavity) (p : List Byte),
    s.link.owed = none → p.length = 32 → byteAt p 0 = c.num → (s.seq.get c).state = .idle → s.tripped c = false →
    (cavityProfileOf p).badField = none → (cavityProfileOf p).named.Nodup →
    (∀ i ∈ (cavityProfileOf p).named, s.ownedElsewhere c i = false) →
    let x := cavityProfileOf p
    ∃ t : State, exec (.cavityProfile h p) s = .next (t.answer h 0x11 (some c) (Reply.done [])) ∧
      t.profiles = s.profiles.set c x ∧ t.seq = s.seq.set c { s.seq.get c with bound := true } ∧
      t.reg = s.reg.set c Regulation.powerUp ∧
      (∀ (i : Fin 12) (e : Element), x.outputs.get e = some i.val →
        t.output i = { OutputRecord.unmapped with owner := some (c, e), rating := some (x.ratings.get e) }) ∧
      (∀ i : Fin 12, i.val ∉ x.named → (s.output i).owner.map Prod.fst = some c →
        t.output i = OutputRecord.unmapped) ∧
      (∀ (e : Element) (i : Nat), x.outputs.get e = some i → t.alloc.record (c, e) = some
        { output := i, watts := x.ratings.get e, q := 0, g := 0, deferral := 0, overdue := false, held := false }) ∧
      (∀ e : Element, x.outputs.get e = none → t.alloc.record (c, e) = none) ∧
      (∀ d, d ≠ c → t.alloc.requests.get d = s.heard.alloc.requests.get d) ∧
      (∀ i : Fin 12, i.val ∉ x.named → (s.output i).owner.map Prod.fst ≠ some c →
        { t.output i with drive := (s.heard.output i).drive } = s.heard.output i ∧
        (s.drivesFollow → (t.output i).drive = (s.heard.output i).drive)) ∧
      t.alloc.grants = (s.heard.alloc.grants.filter fun y => decide (y.1 ≠ c)) ∧
      { t.alloc with requests := s.heard.alloc.requests, grants := s.heard.alloc.grants } = s.heard.alloc ∧
      t.drive.relays = s.drive.relays ∧ t.drive.handed = s.drive.handed ∧
      t.alloc.demand = s.alloc.demand ∧ t.alloc.tier1 = s.alloc.tier1 ∧ t.alloc.tier2 = s.alloc.tier2 ∧
      t.alloc.powerLimited = s.alloc.powerLimited ∧ t.link = s.heard.link ∧ t.locks = s.locks ∧ t.table = s.table ∧
      t.limit = s.limit ∧ t.scanner = s.scanner ∧ t.fan = s.fan ∧ t.mail = s.mail

/-- An accepted appliance profile replaces the one in force. A cavity it disables becomes ABSENT, unbound and empty in
every block; a cavity it enables becomes IDLE at the end of the tier-1 ring, with request records for the elements mapped
for it, and a lock switch that reads LOCKED then jams its lock and trips it; a cavity whose enable it keeps is not touched
in any block (R15, R34, R62, R63, R81, R106, R113, R139, R143, R152, R170, R190). The model's choices in it: a disabled
cavity's events in flight are dropped (log entry 9), a grant of a disabled or enabled cavity leaves the list (log entry
11), the raw inputs are those that the command carries (log entry 32), and several cavities are handled in rising number
(log entry 38). -/
def Obligations.ApplianceProfileActs : Prop :=
  ∀ (s : State) (h : Header) (p : List Byte) (pins : PerCavity SwitchPins),
    let a := applianceProfileOf p
    s.link.owed = none → p.length = 16 → a.badField = none →
    (∀ c, (s.enabled c = true ↔ (s.seq.get c).state ≠ .absent)) →
    (∀ c, a.enabled.get c ≠ s.enabled c → ((s.seq.get c).state = .idle ∨ (s.seq.get c).state = .absent) ∧
      s.tripped c = false ∧ (s.locks.get c).state = .opened) →
    s.withinBudget → s.budgetStands → s.drivesFollow →
    let kept (c : Cavity) : Bool := decide (a.enabled.get c = s.enabled c)
    let disabled (c : Cavity) : Bool := s.enabled c && !a.enabled.get c
    let enabled (c : Cavity) : Bool := !s.enabled c && a.enabled.get c
    let latched (c : Cavity) : Bool := enabled c && decide ((pins.get c).lock = .locked)
    ∃ t : State, exec (.applianceProfile h p pins) s = .next (t.answer h 0x10 none (Reply.done [])) ∧
      t.appliance = a ∧ t.profiles = s.profiles ∧ t.pins = pins ∧ t.clock = s.clock ∧ t.pending = s.pending ∧
      t.alloc.supply = s.alloc.supply ∧ t.alloc.declared = s.alloc.declared ∧ t.budgetStands ∧
      t.alloc.window = s.alloc.window ∧ t.alloc.slot = s.alloc.slot ∧ t.alloc.started = s.alloc.started ∧
      t.alloc.tier1 = (s.alloc.tier1.filter fun x => match x with
        | .cavity c => kept c
        | .marker => true) ++ ((Cavity.all.filter enabled).map RingEntry.cavity) ∧
      t.alloc.tier2 = s.alloc.tier2.filter kept ∧
      t.alloc.grants = (s.alloc.grants.filter fun x => kept x.1) ∧
      { t.fan with stored := s.fan.stored, convection := s.fan.convection } = s.fan ∧
      t.scanner.ref = s.scanner.ref ∧ t.scanner.board = s.scanner.board ∧ t.limit.board = s.limit.board ∧
      t.mail.supervisorBoard = s.mail.supervisorBoard ∧ t.mail.fanBoard = s.mail.fanBoard ∧
      (∀ n, n < 48 → t.recordAt n = s.recordAt n) ∧ t.drive.handed = s.drive.handed ∧
      (∀ i : Fin 12, t.output i = { s.output i with
        drive := (s.output i).drive && (s.output i).owner.any fun x => kept x.1 }) ∧
      t.link = (Cavity.all.filter latched).foldl
        (fun l c => l.enqueue (s.event .trip (some c) 3 (some 10) false)) s.heard.link ∧
      ∀ c, (kept c = true → t.seq.get c = s.seq.get c ∧ t.reg.get c = s.reg.get c ∧
          t.locks.get c = s.locks.get c ∧ t.limit.cavity.get c = s.limit.cavity.get c ∧ t.box c = s.box c ∧
          t.scanner.probes.get c = s.scanner.probes.get c ∧ t.scanner.latest.get c = s.scanner.latest.get c ∧
          t.alloc.demand.get c = s.alloc.demand.get c ∧ t.alloc.requests.get c = s.alloc.requests.get c ∧
          t.alloc.powerLimited.get c = s.alloc.powerLimited.get c ∧
          t.drive.relays.get c = s.drive.relays.get c ∧ t.fan.stored.get c = s.fan.stored.get c ∧
          t.fan.convection.get c = s.fan.convection.get c ∧ t.recordAt (inlineSlot c) = s.recordAt (inlineSlot c)) ∧
        (disabled c = true →
          t.seq.get c = Sequencer.fresh .absent ∧ t.reg.get c = Regulation.powerUp ∧
          t.recordAt (inlineSlot c) = none ∧ t.relayClosed c = false ∧ t.alloc.demand.get c = DemandEntry.powerUp ∧
          t.alloc.requests.get c = noRecords ∧ t.alloc.powerLimited.get c = false ∧
          t.fan.stored.get c = none ∧ t.fan.convection.get c = false ∧
          t.locks.get c = { s.locks.get c with state := .opened, owner := .none, timer := none, reversal := none } ∧
          t.limit.cavity.get c =
            { reading := none, overtempCount := 0, catalystCount := 0, active := none, cleared := none,
              cutout := (s.limit.cavity.get c).cutout } ∧
          t.scanner.probes.get c = ⟨Channel.powerUp, Channel.powerUp⟩ ∧ t.scanner.latest.get c = none ∧
          t.box c = Mailbox.empty) ∧
        (enabled c = true →
          t.seq.get c = Sequencer.fresh .idle ∧ t.reg.get c = s.reg.get c ∧
          t.alloc.demand.get c = DemandEntry.powerUp ∧ t.alloc.powerLimited.get c = false ∧
          (∀ e, (∃ i, (s.output i).owner = some (c, e)) ↔ (t.alloc.record (c, e)).isSome = true) ∧
          (∀ e r, t.alloc.record (c, e) = some r → ∃ i : Fin 12, (s.output i).owner = some (c, e) ∧
            r = { output := i, watts := (s.output i).rating.getD 0, q := 0, g := 0, deferral := 0, overdue := false,
                  held := false }) ∧
          t.scanner.probes.get c = ⟨Channel.powerUp, Channel.powerUp⟩ ∧ t.scanner.latest.get c = none ∧
          t.fan.stored.get c = none ∧
          t.locks.get c =
            { door := (pins.get c).door, switch := (pins.get c).lock, owner := .none, timer := none, reversal := none,
              state := if latched c then .jammed else .opened } ∧
          (t.limit.cavity.get c).reading = none ∧ (t.limit.cavity.get c).overtempCount = 0 ∧
          (t.limit.cavity.get c).catalystCount = 0 ∧ (t.limit.cavity.get c).cutout = (pins.get c).cutout ∧
          (latched c = false → (t.limit.cavity.get c).active = none ∧ t.box c = s.box c) ∧
          (latched c = true →
            (t.limit.cavity.get c).active = some
              { first := .lockLost, uptime := s.clock.uptime, tf := none, position := none, later := [] } ∧
            t.relayClosed c = false ∧ t.box c = { s.box c with tripNotices := (s.box c).tripNotices + 1 }))

/-! ## The Cavity Sequencer -/

/-- A start of a chain that holds a locked record, its lock OPEN and its door CLOSED, is answered DONE: the walked list is
fixed, the context reset, the lock ordered to engage with owner CYCLE, and LOCKING entered; nothing else changes (R39, R40,
R127). For START INLINE the carried record then stands in the inline slot (R31). -/
def Obligations.LockedStartEntersLocking : Prop :=
  (∀ (s : State) (h : Header) (c : Cavity) (first : Nat) (w : List Nat),
    s.link.owed = none → (s.seq.get c).state = .idle → (s.seq.get c).bound = true → s.probeValid c = true →
    first < 48 → chainCheck s.recordAt (s.profiles.get c) first = .ok w → holdsLocked s.recordAt w = true →
    (s.locks.get c).state = .opened → (s.locks.get c).door = .closed →
    exec (.startCycle h [byte c.num, byte first]) s = .next ({ s.heard with
      seq := s.seq.set c { Sequencer.fresh .locking with chain := w, lockOwned := true, bound := true },
      locks := s.locks.set c { s.locks.get c with
        state := .engaging, owner := .cycle, timer := some 0, reversal := none } }.answer h 0x30 (some c)
          (Reply.done []))) ∧
  (∀ (s : State) (h : Header) (c : Cavity) (p : List Byte) (r : PhaseRecord) (w : List Nat),
    s.link.owed = none → (s.seq.get c).state = .idle → (s.seq.get c).bound = true → s.probeValid c = true →
    p.length = 17 → byteAt p 0 = c.num → (rawRecordAt p 1).check = .ok r →
    chainCheck (s.tableWith (inlineSlot c) r) (s.profiles.get c) (inlineSlot c) = .ok w →
    holdsLocked (s.tableWith (inlineSlot c) r) w = true →
    (s.locks.get c).state = .opened → (s.locks.get c).door = .closed →
    exec (.startInline h p) s = .next ({ s.heard.setRecord (inlineSlot c) (some r) with
      seq := s.seq.set c { Sequencer.fresh .locking with chain := w, lockOwned := true, bound := true },
      locks := s.locks.set c { s.locks.get c with
        state := .engaging, owner := .cycle, timer := some 0, reversal := none } }.answer h 0x31 (some c)
          (Reply.done [])))

/-- A start that needs no engagement is answered DONE: RUNNING is entered with the walked list fixed, the first phase
begins, the supply relay closes, and the lock is left as it stands (R39, R40, R43, R93, R112). Where the Drive refuses the
closing order, on an active trip or a STUCK output, the phase begins with the relay OPEN, and the STUCK output raises
RELAY_STUCK (R112). -/
def Obligations.StartEntersRunning : Prop :=
  (∀ (s : State) (h : Header) (c : Cavity) (first : Nat) (w : List Nat) (r : PhaseRecord),
    s.link.owed = none → (s.seq.get c).state = .idle → (s.seq.get c).bound = true → s.probeValid c = true →
    first < 48 → chainCheck s.recordAt (s.profiles.get c) first = .ok w → s.recordAt first = some r →
    (s.locks.get c).state = .locked ∨ ((s.locks.get c).state = .opened ∧ holdsLocked s.recordAt w = false) →
    (holdsLocked s.recordAt w = true → (s.locks.get c).door = .closed) →
    ∃ t : State, exec (.startCycle h [byte c.num, byte first]) s = .next (t.answer h 0x30 (some c) (Reply.done [])) ∧
      t.seq = s.seq.set c { Sequencer.fresh .running with
        chain := w, current := some (first, r.kind), newPhase := true, bound := true } ∧
      KeepsOthers s.heard t c ∧ t.table = s.table ∧ t.locks = s.locks ∧ t.reg = s.reg ∧
      (s.tripped c = false → s.hasStuck c = false → s.relayClosed c = false →
        PhaseBegun s.heard t c first r ∧ (t.drive.relays.get c).closedAt = some s.clock ∧
        (t.box c).relayClosings = (s.box c).relayClosings + 1 ∧ t.limit = s.limit) ∧
      (s.tripped c = true ∨ s.hasStuck c = true → BegunUnfed s.heard t c first r)) ∧
  (∀ (s : State) (h : Header) (c : Cavity) (p : List Byte) (r : PhaseRecord) (w : List Nat),
    s.link.owed = none → (s.seq.get c).state = .idle → (s.seq.get c).bound = true → s.probeValid c = true →
    p.length = 17 → byteAt p 0 = c.num → (rawRecordAt p 1).check = .ok r →
    chainCheck (s.tableWith (inlineSlot c) r) (s.profiles.get c) (inlineSlot c) = .ok w →
    (s.locks.get c).state = .locked ∨
      ((s.locks.get c).state = .opened ∧ holdsLocked (s.tableWith (inlineSlot c) r) w = false) →
    (holdsLocked (s.tableWith (inlineSlot c) r) w = true → (s.locks.get c).door = .closed) →
    ∃ t : State, exec (.startInline h p) s = .next (t.answer h 0x31 (some c) (Reply.done [])) ∧
      t.seq = s.seq.set c { Sequencer.fresh .running with
        chain := w, current := some (inlineSlot c, r.kind), newPhase := true, bound := true } ∧
      KeepsOthers s.heard t c ∧ t.recordAt (inlineSlot c) = some r ∧
      (∀ n, n ≠ inlineSlot c → t.recordAt n = s.recordAt n) ∧ t.locks = s.locks ∧ t.reg = s.reg ∧
      (s.tripped c = false → s.hasStuck c = false → s.relayClosed c = false →
        PhaseBegun s.heard t c (inlineSlot c) r ∧ (t.drive.relays.get c).closedAt = some s.clock ∧
        (t.box c).relayClosings = (s.box c).relayClosings + 1 ∧ t.limit = s.limit) ∧
      (s.tripped c = true ∨ s.hasStuck c = true → BegunUnfed s.heard t c (inlineSlot c) r))

/-- ABORT CYCLE ends a cycle in LOCKING or RUNNING with outcome ABORTED, reason REQUEST, and CYCLE_ABORTED queued; in IDLE,
SETTLING, FAULTED and RECOVERING it is refused STATE and nothing changes (R52, R53, R54). The abort reason where a jammed lock
is given up is log entry 33, and the chain position in the OFF request of a cycle ended from LOCKING is log entry 39. -/
def Obligations.AbortEndsCycle : Prop :=
  ∀ (s : State) (h : Header) (c : Cavity), s.link.owed = none →
    ((s.seq.get c).state = .locking ∨ (s.seq.get c).state = .running →
      ∃ t : State, exec (.abortCycle h [byte c.num]) s = .next (t.answer h 0x32 (some c) (Reply.done [])) ∧
        CycleEnded s.heard t c .aborted (some .request) ∧ KeepsOthers s.heard t c ∧
        t.link = s.heard.link.enqueue (s.event .cycleAborted (some c) 2 (some 1) false)) ∧
    ((s.seq.get c).state = .idle ∨ (s.seq.get c).state = .settling ∨ (s.seq.get c).state = .faulted ∨
        (s.seq.get c).state = .recovering →
      exec (.abortCycle h [byte c.num]) s = .next (s.heard.answer h 0x32 (some c) (Reply.refuse .state)))

/-- A cavity reading in a SOAK phase that neither fills the soak nor reaches the limit: both elapsed counts add 1, progress
adds 1 exactly when the usable Tf is within the soak band of the target, and a REGULATE request with the reading's values
is posted; nothing else changes (R44, R45, R47, R50). -/
def Obligations.SoakReadingCounts : Prop :=
  ∀ (s : State) (c : Cavity) (x : CavityReading) (rest : List CavityReading) (n d : Nat) (r : PhaseRecord)
    (target : Int),
    (s.box c).sequencerReadings = x :: rest → (s.seq.get c).state = .running → (s.seq.get c).entry = some n →
    s.recordAt n = some r → (s.seq.get c).current = some (n, .soak) → r.kind = .soak → r.target = some target →
    r.duration = some d → (s.seq.get c).phaseElapsed < 65535 →
    (s.seq.get c).cycleElapsed + 1 < 2 ^ 32 → (∀ m, r.limit = some m → (s.seq.get c).phaseElapsed + 1 ≠ 60 * m) →
    let q := s.seq.get c
    let usable : Bool := decide (x.probe = .valid ∨ x.probe = .suspect)
    let near : Bool := usable && x.probeTf.any fun tf => decide (target - (s.profiles.get c).soakBand ≤ tf)
    let catalystUsable : Bool := decide (x.catalyst = .valid ∨ x.catalyst = .suspect)
    let progress : Nat := if near then q.soakProgress + 1 else q.soakProgress
    progress ≠ d → exec (.sequencerCavityReading c) s = .next { s with
      seq := s.seq.set c { q with
        phaseElapsed := q.phaseElapsed + 1, cycleElapsed := q.cycleElapsed + 1,
        soakProgress := progress, newPhase := false },
      mail := { s.mail with cavity := s.mail.cavity.set c { s.box c with
        sequencerReadings := rest,
        regulation := (s.box c).regulation ++ [{
          mode := .regulate, kind := some .soak, position := q.position, newPhase := q.newPhase,
          target := some target, ramp := none, tf := if usable then x.probeTf else none, probe := x.probe,
          catalyst := x.catalyst, catalystTf := if catalystUsable then x.catalystTf else none,
          gate := r.gate }] } } }

/-- What a cavity reading does to the phase in progress. One that meets the phase's test (a COOL phase whose usable Tf is
at or below its target, a DWELL phase at its duration, a SOAK phase whose progress fills its duration) ends it: phases
completed and the chain position add 1 and the next phase begins, or with END next the cycle ends with outcome DONE and
CYCLE_DONE carries the phases completed. One that does not, on which phase elapsed reaches the limit, queues PHASE_TIMEOUT
and then ends the phase in the same way (ADVANCE) or the cycle ABORTED (ABORT). In a HEAT phase no reading meets a test.
A reading in HEAT, COOL or DWELL that neither meets a test nor reaches the limit counts the time and posts the request of
its kind, REGULATE for HEAT and OFF for COOL and DWELL (R44 to R52; a reading in SOAK: SoakReadingCounts). The abort reason
where a jammed lock is given up at the cycle's end is log entry 33. -/
def Obligations.ReadingEndsPhase : Prop :=
  ∀ (s : State) (c : Cavity) (x : CavityReading) (rest : List CavityReading) (n : Nat) (r : PhaseRecord),
    (s.box c).sequencerReadings = x :: rest → (s.seq.get c).state = .running → (s.seq.get c).entry = some n →
    s.recordAt n = some r → (s.seq.get c).current = some (n, r.kind) → (s.seq.get c).phaseElapsed < 65535 →
    (s.seq.get c).cycleElapsed + 1 < 2 ^ 32 →
    let q := s.seq.get c
    let usable : Bool := decide (x.probe = .valid ∨ x.probe = .suspect)
    let catalystUsable : Bool := decide (x.catalyst = .valid ∨ x.catalyst = .suspect)
    let cooledTo (target : Int) : Bool := usable && x.probeTf.any fun tf => decide (tf ≤ target)
    let near (target : Int) : Bool :=
      usable && x.probeTf.any fun tf => decide (target - (s.profiles.get c).soakBand ≤ tf)
    let soaked (target : Int) : Nat := if near target then q.soakProgress + 1 else q.soakProgress
    let met : Prop := (r.kind = .cool ∧ ∃ target, r.target = some target ∧ cooledTo target = true) ∨
      (r.kind = .dwell ∧ r.duration = some (q.phaseElapsed + 1)) ∨
      (r.kind = .soak ∧ ∃ target, r.target = some target ∧ r.duration = some (soaked target))
    let unmet : Prop := r.kind = .heat ∨ (r.kind = .cool ∧ ∃ target, r.target = some target ∧ cooledTo target = false) ∨
      (r.kind = .dwell ∧ r.duration ≠ some (q.phaseElapsed + 1)) ∨
      (r.kind = .soak ∧ ∃ target, r.target = some target ∧ r.duration ≠ some (soaked target))
    let runsOut : Prop := ∃ m, r.limit = some m ∧ q.phaseElapsed + 1 = 60 * m
    let progress : Nat := match r.kind, r.target with
      | .soak, some target => soaked target
      | _, _ => q.soakProgress
    let counted : Sequencer :=
      { q with phaseElapsed := q.phaseElapsed + 1, cycleElapsed := q.cycleElapsed + 1, soakProgress := progress }
    let ended : State := { s with seq := s.seq.set c { counted with completed := q.completed + 1 } }
    -- the phase end of R51, with the queue as `l` holds it
    let phaseEnds (l : Link) : Prop :=
      (∀ (k m : Nat) (r' : PhaseRecord), r.next = some k → q.chain[q.position + 1]? = some m →
        s.recordAt m = some r' →
        ∃ t : State, exec (.sequencerCavityReading c) s = .next t ∧
          t.seq = s.seq.set c { q with
            position := q.position + 1, current := some (m, r'.kind), phaseElapsed := 0, soakProgress := 0,
            cycleElapsed := q.cycleElapsed + 1, completed := q.completed + 1, newPhase := false } ∧
          PhaseBegun { s with link := l } t c m r' ∧ KeepsOthers s t c ∧ (t.box c).sequencerReadings = rest ∧
          (∃ g, (t.box c).regulation = (s.box c).regulation ++ [g] ∧ g.newPhase = true ∧
            g.position = q.position + 1 ∧ g.mode = (if r'.kind.heats = true then .regulate else .off)) ∧
          t.drive = s.drive ∧ t.locks = s.locks ∧ t.reg = s.reg ∧ t.limit = s.limit ∧ t.table = s.table) ∧
      (r.next = none → ∃ t : State, exec (.sequencerCavityReading c) s = .next t ∧
        CycleEnded ended t c .done none ∧ KeepsOthers s t c ∧ (t.box c).sequencerReadings = rest ∧
        t.link = l.enqueue (s.event .cycleDone (some c) 1 (some (q.completed + 1)) false) ∧ t.reg = s.reg)
    (met → phaseEnds s.link) ∧
    (unmet → runsOut → r.onLimit = .advance →
      phaseEnds (s.link.enqueue (s.event .phaseTimeout (some c) 1 (some n) false))) ∧
    (unmet → runsOut → r.onLimit = .abort → ∃ t : State, exec (.sequencerCavityReading c) s = .next t ∧
      CycleEnded { s with seq := s.seq.set c counted } t c .aborted (some .phaseTimeout) ∧ KeepsOthers s t c ∧
      (t.box c).sequencerReadings = rest ∧ t.reg = s.reg ∧
      t.link = (s.link.enqueue (s.event .phaseTimeout (some c) 2 (some n) false)).enqueue
        (s.event .cycleAborted (some c) 2 (some 2) false)) ∧
    (r.kind ≠ .soak → unmet → ¬ runsOut → exec (.sequencerCavityReading c) s = .next { s with
      seq := s.seq.set c { counted with newPhase := false },
      mail := { s.mail with cavity := s.mail.cavity.set c { s.box c with
        sequencerReadings := rest,
        regulation := (s.box c).regulation ++ [{
          mode := if r.kind = .heat then .regulate else .off, kind := some r.kind, position := q.position,
          newPhase := q.newPhase, target := if r.kind = .heat then r.target else none,
          ramp := if r.kind = .heat then r.ramp else none, tf := if usable then x.probeTf else none,
          probe := x.probe, catalyst := x.catalyst, catalystTf := if catalystUsable then x.catalystTf else none,
          gate := r.gate }] } } })

/-- A cavity reading outside RUNNING. In SETTLING or RECOVERING an unusable probe adds to the blind-cool count; a LOCKED lock
that the Sequencer owns is ordered to release exactly when the reading is VALID at or below the release threshold or the
count stands at 5400, and otherwise it waits; with any other lock, or one it does not own, the settling test follows (R54,
R55, R56, R57, R61, R131, R132). In FAULTED the reading changes the count alone, and in LOCKING, IDLE and ABSENT nothing
(R41, R56, R60). What the settling test sets the abort reason to is log entry 33. -/
def Obligations.ReleaseOnlyWhenCool : Prop :=
  ∀ (s : State) (c : Cavity) (x : CavityReading) (rest : List CavityReading),
    (s.box c).sequencerReadings = x :: rest → (s.seq.get c).blindCool ≤ 65535 →
    let q := s.seq.get c
    let count := min 65535 (q.blindCool + (if x.probe = .unknown ∨ x.probe = .fault then 1 else 0))
    let cool := (x.probe = .valid ∧ ∃ tf, x.probeTf = some tf ∧ tf ≤ (s.profiles.get c).releaseThreshold) ∨
      5400 ≤ count
    let taken : State :=
      { s with mail := { s.mail with cavity := s.mail.cavity.set c { s.box c with sequencerReadings := rest } } }
    let s' : State := { taken with seq := s.seq.set c { q with blindCool := count } }
    let settles : Prop := q.state = .settling ∨ q.state = .recovering
    let holds : Prop := q.lockOwned = true ∧ (s.locks.get c).state = .locked
    (settles → holds → cool → exec (.sequencerCavityReading c) s = .next { s' with
      locks := s.locks.set c { s.locks.get c with state := .releasing, timer := some 0, reversal := none } }) ∧
    (settles → holds → ¬ cool → exec (.sequencerCavityReading c) s = .next s') ∧
    (settles → ¬ holds → exec (.sequencerCavityReading c) s = .next (s'.settledFrom c)) ∧
    (q.state = .faulted → exec (.sequencerCavityReading c) s = .next s') ∧
    (q.state = .locking ∨ q.state = .idle ∨ q.state = .absent → exec (.sequencerCavityReading c) s = .next taken)

/-- A heat-complete notice ends the HEAT phase of the chain position that it names, and the next phase begins, or with END
next the cycle ends with outcome DONE; a notice that finds another phase, position or state is discarded (R46, R51, R52).
The abort reason where a jammed lock is given up at the cycle's end is log entry 33. -/
def Obligations.HeatCompleteEndsPhase : Prop :=
  ∀ (s : State) (c : Cavity) (k : Nat) (rest : List Nat), (s.box c).heatComplete = k :: rest →
    let q := s.seq.get c
    (∀ (n m j : Nat) (r r' : PhaseRecord), q.state = .running → q.current = some (n, .heat) → q.position = k →
      q.entry = some n → s.recordAt n = some r → r.next = some j → q.chain[k + 1]? = some m →
      s.recordAt m = some r' →
      ∃ t : State, exec (.heatCompleteNotice c) s = .next t ∧
        t.seq = s.seq.set c { q with
          position := k + 1, current := some (m, r'.kind), phaseElapsed := 0, soakProgress := 0,
          completed := q.completed + 1, newPhase := true } ∧
        PhaseBegun s t c m r' ∧ KeepsOthers s t c ∧ (t.box c).heatComplete = rest ∧
        (t.box c).regulation = (s.box c).regulation ∧ t.drive = s.drive ∧ t.locks = s.locks ∧ t.reg = s.reg ∧
        t.limit = s.limit ∧ t.table = s.table) ∧
    (∀ (n : Nat) (r : PhaseRecord), q.state = .running → q.current = some (n, .heat) → q.position = k →
      q.entry = some n → s.recordAt n = some r → r.next = none →
      ∃ t : State, exec (.heatCompleteNotice c) s = .next t ∧
        CycleEnded { s with seq := s.seq.set c { q with completed := q.completed + 1 } } t c .done none ∧
        KeepsOthers s t c ∧ (t.box c).heatComplete = rest ∧ t.reg = s.reg ∧
        t.link = s.link.enqueue (s.event .cycleDone (some c) 1 (some (q.completed + 1)) false)) ∧
    (q.state ≠ .running ∨ q.current.map Prod.snd ≠ some .heat ∨ q.position ≠ k →
      exec (.heatCompleteNotice c) s = .next
        { s with mail := { s.mail with cavity := s.mail.cavity.set c { s.box c with heatComplete := rest } } })

/-- The Sequencer's handling of a lock notice. In LOCKING the lock's rest in LOCKED begins the first phase and closes the
supply relay, unless the Drive refuses the order; a door opened ends the cycle ABORTED, reason DOOR_OPENED; and a jam changes
nothing. In SETTLING and RECOVERING every notice makes the settling test, in which a jammed lock that the Sequencer owns is
given up. In IDLE, RUNNING, FAULTED and ABSENT a notice changes nothing (R41, R43, R52, R54, R57, R61, R93, R112, R135). The
model's choices: the abort reason after a jam (log entry 33), a notice of rest in OPEN taken in LOCKING (log entry 34), and
the chain position in the OFF request of a cycle ended from LOCKING (log entry 39). -/
def Obligations.LockNoticeMoves : Prop :=
  ∀ (s : State) (c : Cavity) (k : LockNotice) (rest : List LockNotice), (s.box c).lockNotices = k :: rest →
    let q := s.seq.get c
    let s' : State :=
      { s with mail := { s.mail with cavity := s.mail.cavity.set c { s.box c with lockNotices := rest } } }
    (∀ (n : Nat) (r : PhaseRecord), q.state = .locking → k = .atRestLocked → q.entry = some n →
      s.recordAt n = some r →
      ∃ t : State, exec (.lockNotice c) s = .next t ∧
        t.seq = s.seq.set c { q with
          state := .running, current := some (n, r.kind), phaseElapsed := 0, soakProgress := 0, newPhase := true } ∧
        KeepsOthers s t c ∧ (t.box c).lockNotices = rest ∧ t.locks = s.locks ∧ t.reg = s.reg ∧ t.table = s.table ∧
        (s.tripped c = false → s.hasStuck c = false → s.relayClosed c = false →
          PhaseBegun s t c n r ∧ (t.drive.relays.get c).closedAt = some s.clock ∧
          (t.box c).relayClosings = (s.box c).relayClosings + 1 ∧ t.limit = s.limit) ∧
        (s.tripped c = true ∨ s.hasStuck c = true → BegunUnfed s t c n r)) ∧
    (q.state = .locking → k = .doorOpenedEngaging → ∃ t : State, exec (.lockNotice c) s = .next t ∧
      CycleEnded s' t c .aborted (some .doorOpened) ∧ KeepsOthers s t c ∧ (t.box c).lockNotices = rest ∧
      t.link = s.link.enqueue (s.event .cycleAborted (some c) 2 (some 3) false)) ∧
    (q.state = .locking → k = .atRestJammed ∨ k = .atRestOpen → exec (.lockNotice c) s = .next s') ∧
    (q.state = .settling ∨ q.state = .recovering → exec (.lockNotice c) s = .next (s'.settledFrom c)) ∧
    (q.state = .idle ∨ q.state = .running ∨ q.state = .faulted ∨ q.state = .absent →
      exec (.lockNotice c) s = .next s')

/-- The table of R58: a trip notice ends a cycle TRIPPED from LOCKING or RUNNING, marks a RECOVERING outcome TRIPPED, takes
an IDLE Sequencer to FAULTED with its context unchanged, and changes nothing in FAULTED; in SETTLING the outcome becomes
TRIPPED and the settling test is made at once (R54, R58, R59). The abort reason where a jammed lock is given up is log
entry 33, and the chain position in the OFF request of a cycle ended from LOCKING is log entry 39. -/
def Obligations.TripNoticeMoves : Prop :=
  ∀ (s : State) (c : Cavity), 0 < (s.box c).tripNotices →
    let q := s.seq.get c
    let s' : State := { s with mail := { s.mail with
      cavity := s.mail.cavity.set c { s.box c with tripNotices := (s.box c).tripNotices - 1 } } }
    (q.state = .locking ∨ q.state = .running → ∃ t : State, exec (.tripNotice c) s = .next t ∧
      CycleEnded s' t c .tripped none ∧ KeepsOthers s t c ∧ t.link = s.link) ∧
    (q.state = .settling → exec (.tripNotice c) s = .next
      ({ s' with seq := s.seq.set c { q with outcome := some .tripped, abortReason := none } }.settledFrom c)) ∧
    (q.state = .recovering → exec (.tripNotice c) s =
      .next { s' with seq := s.seq.set c { q with outcome := some .tripped } }) ∧
    (q.state = .idle → exec (.tripNotice c) s = .next { s' with seq := s.seq.set c { q with state := .faulted } }) ∧
    (q.state = .faulted → exec (.tripNotice c) s = .next s')

/-! ## The Regulation Unit -/

/-- A request with mode OFF leaves the context at exactly its power-up values and writes demand 0, with the withdraw mark,
into the demand table; the request's other items are not used, and nothing else changes (R66, R76, R87). -/
def Obligations.OffRequestResets : Prop :=
  ∀ (s : State) (c : Cavity) (r : RegRequest) (rest : List RegRequest),
    (s.box c).regulation = r :: rest → r.mode = .off →
    exec (.offRequest c) s = .next { s with
      reg := s.reg.set c { s60 := none, iAcc := 0, u := 0, heatSent := false, capInForce := false },
      alloc := { s.alloc with
        demand := s.alloc.demand.set c { s.alloc.demand.get c with u := 0, withdraw := true } },
      mail := { s.mail with cavity := s.mail.cavity.set c { s.box c with regulation := rest } } }

/-- A REGULATE request runs the law: the setpoint of its kind, the error, the freeze test, the integral, the demand clamped
to 0 to 1000 and cut to the catalyst cap; it posts the demand and sends heat-complete once, when a HEAT setpoint stands at
the target with Tf within the approach band. Without a Tf the demand is held (R67 to R77). -/
def Obligations.RegulateRunsTheLaw : Prop :=
  ∀ (s : State) (c : Cavity) (r : RegRequest) (rest : List RegRequest) (kind : PhaseKind) (target : Nat),
    (s.box c).regulation = r :: rest → r.mode = .regulate → r.kind = some kind → kind = .heat ∨ kind = .soak →
    r.target = some (target : Int) →
    let x := s.reg.get c
    let p := s.profiles.get c
    let begins : Bool := r.newPhase || x.s60.isNone
    let start : Nat := if begins then 60 * min target (r.tf.getD 0).toNat else x.s60.getD 0
    let s60 : Nat := match kind, r.ramp with
      | .heat, some ramp => min (start + ramp) (60 * target)
      | _, _ => 60 * target
    let sp : Nat := s60 / 60
    let bound : Nat := if x.capInForce then p.catalystCap else 1000
    let frozen (e : Int) : Prop :=
      (0 < e ∧ (s.alloc.powerLimited.get c = true ∨ x.u = bound)) ∨ (e < 0 ∧ x.u = 0)
    let capped : Prop := ∃ gate, r.gate = some gate ∧ ¬ ((r.catalyst = .valid ∨ r.catalyst = .suspect) ∧
      ∃ tf, r.catalystTf = some tf ∧ gate ≤ tf)
    let sent : Bool := x.heatSent && !begins
    ∃ t : State, exec (.regulateRequest c) s = .next t ∧
      (t.reg.get c).s60 = some s60 ∧
      (∀ tf, r.tf = some tf → frozen ((sp : Int) - tf) → (t.reg.get c).iAcc = x.iAcc) ∧
      (∀ tf, r.tf = some tf → ¬ frozen ((sp : Int) - tf) →
        ((t.reg.get c).iAcc : Int) = max 0 (min 1000000 ((x.iAcc : Int) + p.ki * ((sp : Int) - tf)))) ∧
      (r.tf = none → (t.reg.get c).iAcc = x.iAcc) ∧
      ((t.reg.get c).capInForce = true ↔ capped) ∧
      (∀ tf, r.tf = some tf →
        let u : Int := max 0 (min 1000 (Int.tdiv (p.kp * ((sp : Int) - tf)) 10 + ((t.reg.get c).iAcc / 1000 : Nat)))
        (capped → ((t.reg.get c).u : Int) = min u p.catalystCap) ∧ (¬ capped → ((t.reg.get c).u : Int) = u)) ∧
      (r.tf = none → (capped → (t.reg.get c).u = min x.u p.catalystCap) ∧ (¬ capped → (t.reg.get c).u = x.u)) ∧
      t.alloc = { s.alloc with demand := s.alloc.demand.set c { s.alloc.demand.get c with
        u := (t.reg.get c).u,
        withdraw := (s.alloc.demand.get c).withdraw || decide ((t.reg.get c).u = 0) } } ∧
      (kind = .heat ∧ sent = false ∧ sp = target ∧
          (∃ tf, r.tf = some tf ∧ (target : Int) - p.approachBand ≤ tf) →
        (t.reg.get c).heatSent = true ∧ t.box c = { s.box c with
          regulation := rest, heatComplete := (s.box c).heatComplete ++ [r.position] }) ∧
      (¬ (kind = .heat ∧ sent = false ∧ sp = target ∧
          (∃ tf, r.tf = some tf ∧ (target : Int) - p.approachBand ≤ tf)) →
        (t.reg.get c).heatSent = sent ∧ t.box c = { s.box c with regulation := rest }) ∧
      KeepsOthers s t c ∧ t.seq = s.seq ∧ t.locks = s.locks ∧ t.drive = s.drive ∧ t.limit = s.limit ∧
      t.link = s.link ∧ t.fan = s.fan ∧ t.table = s.table

/-! ## The Power Allocator -/

/-- A slot event grants only elements of cavities that are heating with a closed relay, no trip and no DEAD element, none
twice and never more than the available budget; the numbers advance, the held flags follow the slot just ended, the
withdraw marks are cleared, and the Drive follows the new list (R88, R94, R95, R96, R99, R100, R114). At a window end each
enabled cavity's power-limited flag is set exactly when a record that was not withdrawn ended with G below Q, with
POWER_LIMITED or POWER_RESTORED at a change and at no other slot event (R90), the slot number standing at 1 to 30 as
RequestsStayBounded says; and the rings turn by the first grant of pass 1, or else of pass 3 (R98). Every request record
goes through the slot event as the rules say: withdrawn (R101), asked afresh at a window start (R91), then counted as granted
or as eligible and not granted (R97). The numbers at the first slot event rest on log entry 17, and the bit that notes which
relays stood closed at the slot event on log entry 28. -/
def Obligations.SlotEventGrants : Prop :=
  (∀ s : State, ∃ t : State, exec .slotEvent s = .next t ∧
      t.alloc.grants.Nodup ∧ t.alloc.grantedSum ≤ s.alloc.available ∧
      (∀ c e, (c, e) ∈ t.alloc.grants → s.heating c = true ∧ s.relayClosed c = true ∧ s.tripped c = false ∧
        s.dead (c, e) = false ∧ (s.alloc.record (c, e)).isSome = true) ∧
      (s.alloc.started = false → t.alloc.slot = s.alloc.slot ∧ t.alloc.window = s.alloc.window) ∧
      (s.alloc.started = true → s.alloc.slot < 30 →
        t.alloc.slot = s.alloc.slot + 1 ∧ t.alloc.window = s.alloc.window) ∧
      (s.alloc.started = true → s.alloc.slot = 30 → s.alloc.window + 1 < 2 ^ 32 →
        t.alloc.slot = 1 ∧ t.alloc.window = s.alloc.window + 1) ∧
      (∀ x r, s.alloc.record x = some r → ∃ r', t.alloc.record x = some r' ∧ r'.output = r.output ∧
        r'.watts = r.watts ∧ r'.held = s.alloc.grants.contains x) ∧
      (∀ c, (t.alloc.demand.get c) = { s.alloc.demand.get c with withdraw := false }) ∧
      t.drive.handed = t.alloc.grants ∧
      (∀ i : Fin 12, t.output i = { s.output i with drive := driven s.enabled t.alloc.grants (s.output i) }) ∧
      (∀ c, (t.drive.relays.get c).closedAt = (s.drive.relays.get c).closedAt ∧
        (t.drive.relays.get c).sinceSlot = s.relayClosed c) ∧
      t.alloc.supply = s.alloc.supply ∧ t.alloc.declared = s.alloc.declared ∧ t.alloc.available = s.alloc.available ∧
      { t with alloc := s.alloc, drive := s.drive, link := s.link, free := s.free } = s) ∧
  -- the window end (R90); `met` is what the withdrawals of this slot event leave no shortfall in (R101)
  (∀ s : State, ∃ t : State, exec .slotEvent s = .next t ∧
    let atEnd : Bool := s.alloc.started && decide (s.alloc.slot = 30)
    let short (c : Cavity) (e : Element) : Nat := match s.alloc.record (c, e) with
      | some r => if (s.alloc.demand.get c).withdraw || !(s.alloc.demand.get c).elements.has e || s.dead (c, e) then 0
        else r.q - r.g
      | none => 0
    let shortfall (c : Cavity) : Nat := short c .upper + short c .lower + short c .ring + short c .grill
    let limited (c : Cavity) : Bool := if s.enabled c then decide (0 < shortfall c) else s.alloc.powerLimited.get c
    (s.alloc.started = false ∨ (1 ≤ s.alloc.slot ∧ s.alloc.slot < 30) →
      t.alloc.powerLimited = s.alloc.powerLimited ∧ t.link = s.link) ∧
    (atEnd = true → (∀ c, t.alloc.powerLimited.get c = limited c) ∧
      t.link = [Cavity.c0, .c1, .c2].foldl (fun l c =>
        if s.alloc.powerLimited.get c = false ∧ limited c = true then
          l.enqueue (s.event .powerLimited (some c) 2 (some (shortfall c)) false)
        else if s.alloc.powerLimited.get c = true ∧ limited c = false then
          l.enqueue (s.event .powerRestored (some c) 0 none false)
        else l) s.link)) ∧
  -- the rings (R98): the passes are those of the state that the earlier part of the slot event leaves
  (∀ s : State, ∃ t : State, exec .slotEvent s = .next t ∧
    let m := s.closeSlot.advanceSlot.slotWithdrawals.windowWork (!s.alloc.started)
    let turned (c : Cavity) : Prop := match (s.alloc.demand.get c).tier with
      | .one => t.alloc.tier1 = (s.alloc.tier1.filter fun x => decide (x ≠ .cavity c)) ++ [.cavity c] ∧
        t.alloc.tier2 = s.alloc.tier2
      | .two => t.alloc.tier2 = (s.alloc.tier2.filter fun x => decide (x ≠ c)) ++ [c] ∧
        t.alloc.tier1 = (s.alloc.tier1.filter fun x => decide (x ≠ .marker)) ++ [.marker]
    t.alloc.grants = m.passThree.granted ∧
    (∀ x rest, m.passOne.granted = x :: rest → turned x.1) ∧
    (m.passOne.granted = [] → ∀ x rest, m.passThree.granted = m.passTwo.granted ++ x :: rest → turned x.1) ∧
    (m.passOne.granted = [] → m.passThree.granted = m.passTwo.granted →
      t.alloc.tier1 = s.alloc.tier1 ∧ t.alloc.tier2 = s.alloc.tier2)) ∧
  -- the request records (R91, R95, R97, R101)
  (∀ (s : State) (c : Cavity) (e : Element) (r : RequestRecord), s.alloc.record (c, e) = some r →
    1 ≤ s.alloc.slot → s.alloc.slot ≤ 30 → ∃ t : State, exec .slotEvent s = .next t ∧
    let d := s.alloc.demand.get c
    let closed : RequestRecord := { r with held := s.alloc.grants.contains (c, e) }
    let kept : RequestRecord :=
      if d.withdraw = true ∨ d.elements.has e = false ∨ s.dead (c, e) = true then
        { closed with q := r.g, deferral := 0, overdue := false }
      else closed
    let starts : Bool := if s.alloc.started then decide (s.alloc.slot = 30) else decide (s.alloc.slot = 1)
    let asked : RequestRecord :=
      if starts = true ∧ s.enabled c = true then
        { kept with q := if d.elements.has e = true ∧ s.dead (c, e) = false then (d.u * 30 + 500) / 1000 else 0, g := 0 }
      else kept
    let eligible : Prop := asked.g < asked.q ∧ s.heating c = true ∧ s.relayClosed c = true ∧ s.tripped c = false ∧
      s.dead (c, e) = false
    ((c, e) ∈ t.alloc.grants → eligible ∧
      t.alloc.record (c, e) = some { asked with g := asked.g + 1, deferral := 0, overdue := false }) ∧
    ((c, e) ∉ t.alloc.grants → eligible → t.alloc.record (c, e) = some { asked with
      deferral := min 4 (asked.deferral + 1), overdue := asked.overdue || decide (4 ≤ asked.deferral + 1) }) ∧
    (¬ eligible → t.alloc.record (c, e) = some asked))

/-- First-fit leaves nothing behind that fits, and an overdue element comes first: after the three passes an eligible
element of a cavity in the rings that was not granted is larger than what remains of the budget, and an overdue one that
was passed over is larger than what the overdue grants before the others left (R96). -/
def Obligations.PassesAreFirstFit : Prop :=
  ∀ (s : State) (x : CavityElement), s.eligible x = true → x.1 ∈ s.alloc.priority →
    x ∉ s.grantSlot.alloc.grants →
    s.alloc.available < s.alloc.sumOf s.grantSlot.alloc.grants + s.alloc.watts x ∧
    (s.alloc.isOverdue x = true → s.alloc.available < s.alloc.sumOf s.passOne.granted + s.alloc.watts x ∧
      ∀ y ∈ s.passOne.granted, s.alloc.isOverdue y = true)

/-- At a window start every request record of an enabled cavity asks for (u × 30 + 500) / 1000 slots when its element is
in the set and not DEAD, and for none otherwise, and at most the slot just granted is counted (R91, R97). -/
def Obligations.WindowStartSetsRequests : Prop :=
  ∀ (s : State) (c : Cavity) (e : Element) (r : RequestRecord), s.alloc.started = true → s.alloc.slot = 30 →
    s.enabled c = true → s.alloc.record (c, e) = some r →
    ∃ (t : State) (r' : RequestRecord), exec .slotEvent s = .next t ∧ t.alloc.record (c, e) = some r' ∧
      r'.q = (if (s.alloc.demand.get c).elements.has e = true ∧ s.dead (c, e) = false
        then ((s.alloc.demand.get c).u * 30 + 500) / 1000 else 0) ∧
      r'.g = (if (c, e) ∈ t.alloc.grants then 1 else 0)

/-- The notice of a cavity that left RUNNING or began a COOL or DWELL phase takes its grants out of the list at once and
switches their outputs off; every request record, and every other cavity's grants, are kept (R99, R103). -/
def Obligations.WithdrawNoticeDropsGrants : Prop :=
  ∀ (s : State) (c : Cavity), 0 < (s.box c).withdrawNotices → ∃ t : State, exec (.grantWithdrawNotice c) s = .next t ∧
    t.alloc = { s.alloc with grants := s.alloc.grants.filter fun x => decide (x.1 ≠ c) } ∧
    (s.drivesFollow → ∀ i : Fin 12,
      t.output i = { s.output i with drive := driven s.enabled t.alloc.grants (s.output i) }) ∧
    t.drive.relays = s.drive.relays ∧ t.drive.handed = s.drive.handed ∧
    { t with alloc := s.alloc, drive := s.drive } = { s with mail := { s.mail with
      cavity := s.mail.cavity.set c { s.box c with withdrawNotices := (s.box c).withdrawNotices - 1 } } }

/-- SET SUPPLY and DECLARE LOAD replace their figure, and the reply gives the new available budget. A fall below the
granted sum sheds grants from the end of the list, no more than needed, each giving its slot back; otherwise the grants
stand (R83 to R86). -/
def Obligations.SupplyAndLoadSetBudget : Prop :=
  ∀ (s : State) (h : Header) (w : Nat), s.link.owed = none → w ≤ 11000 → s.alloc.grants.Nodup →
    let after (a : Allocator) (t : State) : Prop :=
      t.alloc.available = a.supply - a.declared ∧ t.alloc.supply = a.supply ∧ t.alloc.declared = a.declared ∧
      t.alloc.grants <+: s.heard.alloc.grants ∧ t.alloc.grantedSum ≤ t.alloc.available ∧
      (∀ x rest, s.heard.alloc.grants = t.alloc.grants ++ x :: rest →
        t.alloc.available < s.heard.alloc.sumOf (t.alloc.grants ++ [x])) ∧
      (∀ x r, s.heard.alloc.record x = some r → t.alloc.record x = some
        (if x ∈ s.heard.alloc.grants ∧ x ∉ t.alloc.grants
          then { r with g := r.g - 1, deferral := 1, overdue := false } else r)) ∧
      t.alloc.demand = s.alloc.demand ∧ t.alloc.tier1 = s.alloc.tier1 ∧ t.alloc.tier2 = s.alloc.tier2 ∧
      (s.drivesFollow → t.drivesFollow) ∧
      { t with alloc := s.heard.alloc, drive := s.heard.drive } = s.heard
    (∃ t : State, exec (.setSupply h (word w)) s =
        .next (t.answer h 0x50 none (Reply.done (word (w - s.alloc.declared)))) ∧
      after { s.alloc with supply := w } t) ∧
    (∃ t : State, exec (.declareLoad h (word w)) s =
        .next (t.answer h 0x51 none (Reply.done (word (s.alloc.supply - w)))) ∧
      after { s.alloc with declared := w } t)

/-! ## The Element Drive -/

/-- The sense check's counts and findings, output by output. A granted check without current adds to the miss count, the
third in a row makes the element DEAD, queues ELEMENT_DEAD and takes its grant away; a granted check with current sets the
count to 0. An ungranted check with current adds to the stuck count, the second in a row makes the output STUCK, and its
cavity is then tripped with the supply relay open; an ungranted check without current sets the count to 0. An output already
STUCK is sampled and not counted (R114 to R118). An output that does not qualify, its cavity disabled or its relay not closed
since the slot event, or that is skipped, its element having left or joined the list since the handover, keeps its whole
record but for its drive, which follows the list (R114, R115). That the relay stood closed at the slot event is held in the
relay's bit of log entry 28. -/
def Obligations.SenseCheckFindsFailures : Prop :=
  (∀ (s : State) (loads : BitVec 12) (i : Fin 12) (c : Cavity) (e : Element),
    (s.output i).owner = some (c, e) → s.enabled c = true → s.relayClosed c = true →
    (s.drive.relays.get c).sinceSlot = true →
    let o := s.output i
    let current : Bool := loads.getLsbD i
    let granted : Prop := (c, e) ∈ s.drive.handed ∧ (c, e) ∈ s.alloc.grants
    let ungranted : Prop := (c, e) ∉ s.drive.handed ∧ (c, e) ∉ s.alloc.grants
    let sampled : OutputRecord := { o with sense := some (if current then .current else .none) }
    let becomes (t : State) (x : OutputRecord) : Prop := t.output i = { x with drive := (t.output i).drive }
    ∃ t : State, exec (.senseCheck loads) s = .next t ∧
      { t with limit := s.limit, drive := s.drive, alloc := s.alloc, link := s.link, mail := s.mail } = s ∧
      (o.stuck = true → granted ∨ ungranted → becomes t sampled) ∧
      (o.stuck = false → granted → current = true → becomes t { sampled with missCount := 0 }) ∧
      (o.stuck = false → granted → current = false → o.missCount < 2 →
        becomes t { sampled with missCount := o.missCount + 1 }) ∧
      (o.stuck = false → granted → current = false → o.missCount = 2 → o.dead = false →
        becomes t { sampled with missCount := 3, dead := true } ∧ (c, e) ∉ t.alloc.grants ∧
        (s.link.queue.length + i.val < 24 →
          s.event .elementDead (some c) 2 (some i.val) false ∈ t.link.queue)) ∧
      (o.stuck = false → ungranted → current = false → becomes t { sampled with stuckCount := 0 }) ∧
      (o.stuck = false → ungranted → current = true → o.stuckCount = 0 → becomes t { sampled with stuckCount := 1 }) ∧
      (o.stuck = false → ungranted → current = true → o.stuckCount = 1 → (s.seq.get c).state ≠ .absent →
        becomes t { sampled with stuckCount := 2, stuck := true } ∧ t.holdsCause c .relayStuck ∧
        (s.tripped c = false → t.relayClosed c = false ∧ ∀ e', (c, e') ∉ t.alloc.grants))) ∧
  (∀ (s : State) (loads : BitVec 12) (i : Fin 12), ∃ t : State, exec (.senseCheck loads) s = .next t ∧
    ((∀ c e, (s.output i).owner = some (c, e) → s.enabled c = false ∨ s.relayClosed c = false ∨
        (s.drive.relays.get c).sinceSlot = false ∨ ¬ ((c, e) ∈ s.drive.handed ↔ (c, e) ∈ s.alloc.grants)) →
      t.output i = { s.output i with drive := (t.output i).drive }))

/-! ## The Door Lock Controllers -/

/-- Switch changes and the lock, every state of it: the lock switch ends an engagement LOCKED and a release OPEN and turns
a reversed release into an ordinary one, a LOCKED lock whose switch goes UNLOCKED and an OPEN one whose switch goes LOCKED
jam and raise LOCK_LOST, a door opened while ENGAGING reverses the travel, a door opened on a LOCKED lock raises
DOOR_BREACH, and every other change is recorded and nothing more (R124, R128, R129, R130, R133, R134, R135). That a value
already held is no change, and that an absent cavity's input is recorded as a pin only (R139), is log entry 5. -/
def Obligations.SwitchChangesMoveLock : Prop :=
  ∀ (s : State) (c : Cavity),
    let l := s.locks.get c
    let p := s.pins.get c
    let doorAt (v : DoorSwitch) : State := { s with pins := s.pins.set c { p with door := v } }
    let switchAt (v : LockSwitch) : State := { s with pins := s.pins.set c { p with lock := v } }
    let recorded (u : State) (x : DoorLock) : State := { u with locks := s.locks.set c x }
    let noticed (u : State) (n : LockNotice) : State := { u with
      mail := { s.mail with cavity := s.mail.cavity.set c { s.box c with lockNotices := (s.box c).lockNotices ++ [n] } } }
    let queued (u : State) (k : EventKind) : State :=
      { u with link := s.link.enqueue (s.event k (some c) 1 none false) }
    -- a watched lock switch that changes
    (s.enabled c = true → l.switch = .unlocked →
      (l.state = .engaging → exec (.lockSwitchChange c .locked) s = .next (noticed (queued (recorded (switchAt .locked)
        { l with switch := .locked, state := .locked, timer := none, reversal := none }) .lockEngaged) .atRestLocked)) ∧
      (l.state = .releasing → exec (.lockSwitchChange c .locked) s = .next (recorded (switchAt .locked)
        { l with switch := .locked, reversal := none })) ∧
      (l.state = .opened → (s.seq.get c).state ≠ .absent → ∃ t : State, exec (.lockSwitchChange c .locked) s = .next t ∧
        RaisesOnly (recorded (switchAt .locked)
          { l with switch := .locked, state := .jammed, owner := .none, timer := none, reversal := none }) t c ∧
        CauseRaised s t c .lockLost ∧ (t.box c).lockNotices = (s.box c).lockNotices ++ [.atRestJammed]) ∧
      (l.state = .locked ∨ l.state = .jammed → exec (.lockSwitchChange c .locked) s = .next
        (recorded (switchAt .locked) { l with switch := .locked }))) ∧
    (s.enabled c = true → l.switch = .locked →
      (l.state = .releasing → exec (.lockSwitchChange c .unlocked) s = .next (noticed (queued (recorded
        (switchAt .unlocked) { l with
          switch := .unlocked, state := .opened, owner := .none, timer := none, reversal := none }) .lockReleased)
        .atRestOpen)) ∧
      (l.state = .locked → (s.seq.get c).state ≠ .absent → ∃ t : State,
        exec (.lockSwitchChange c .unlocked) s = .next t ∧
        RaisesOnly (recorded (switchAt .unlocked)
          { l with switch := .unlocked, state := .jammed, timer := none, reversal := none }) t c ∧
        CauseRaised s t c .lockLost ∧ (t.box c).lockNotices = (s.box c).lockNotices ++ [.atRestJammed]) ∧
      (l.state = .opened ∨ l.state = .engaging ∨ l.state = .jammed → exec (.lockSwitchChange c .unlocked) s = .next
        (recorded (switchAt .unlocked) { l with switch := .unlocked }))) ∧
    -- a watched door switch that changes
    (s.enabled c = true → l.door = .closed →
      (l.state = .engaging → exec (.doorChange c .opened) s = .next (noticed (recorded (doorAt .opened)
        { l with door := .opened, state := .releasing, reversal := some (l.timer.getD 0), timer := some 0 })
        .doorOpenedEngaging)) ∧
      (l.state = .locked → (s.seq.get c).state ≠ .absent → ∃ t : State, exec (.doorChange c .opened) s = .next t ∧
        RaisesOnly (recorded (doorAt .opened) { l with door := .opened }) t c ∧ CauseRaised s t c .doorBreach ∧
        (t.box c).lockNotices = (s.box c).lockNotices) ∧
      (l.state = .opened ∨ l.state = .releasing ∨ l.state = .jammed → exec (.doorChange c .opened) s = .next
        (recorded (doorAt .opened) { l with door := .opened }))) ∧
    (s.enabled c = true → l.door = .opened → exec (.doorChange c .closed) s = .next
      (recorded (doorAt .closed) { l with door := .closed })) ∧
    -- no change, or no watch
    (s.enabled c = false ∨ l.switch = .locked → exec (.lockSwitchChange c .locked) s = .next (switchAt .locked)) ∧
    (s.enabled c = false ∨ l.switch = .unlocked → exec (.lockSwitchChange c .unlocked) s = .next (switchAt .unlocked)) ∧
    (s.enabled c = false ∨ l.door = .closed → exec (.doorChange c .closed) s = .next (doorAt .closed)) ∧
    (s.enabled c = false ∨ l.door = .opened → exec (.doorChange c .opened) s = .next (doorAt .opened))

/-- The ends of a travel by time: an engagement or a release that runs out jams the lock with its owner kept, LOCK_JAM
queued ahead of the TRIP of the cause LOCK_JAM, which is raised; a reversed release that has run back for its time ends OPEN
(R128, R130, R162, R163). That these commands act whatever the timer stands at is log entry 6. -/
def Obligations.TravelsRunOut : Prop :=
  ∀ (s : State) (c : Cavity),
    let l := s.locks.get c
    let jams (t : State) (detail : Nat) : Prop :=
      let queued := s.link.enqueue (s.event .lockJam (some c) 3 (some detail) false)
      RaisesOnly { s with locks := s.locks.set c { l with state := .jammed, timer := none, reversal := none } } t c ∧
      CauseRaised s t c .lockJam ∧ (t.box c).lockNotices = (s.box c).lockNotices ++ [.atRestJammed] ∧
      t.link = (match (s.limit.cavity.get c).active with
        | none => queued.enqueue (s.event .trip (some c) 3 (some 9) false)
        | some r => if r.first = .lockJam ∨ .lockJam ∈ r.later then queued
          else queued.enqueue (s.event .trip (some c) 3 (some 9) true))
    (l.state = .engaging → (s.seq.get c).state ≠ .absent →
      ∃ t : State, exec (.engageTravelTimeout c) s = .next t ∧ jams t 1) ∧
    (l.state = .releasing → (s.seq.get c).state ≠ .absent →
      ∃ t : State, exec (.releaseTravelTimeout c) s = .next t ∧ jams t 2) ∧
    (l.state = .releasing → l.reversal.isSome = true → l.switch = .unlocked →
      exec (.reversalTimeReached c) s = .next { s with
        locks := s.locks.set c { l with state := .opened, owner := .none, timer := none, reversal := none },
        link := s.link.enqueue (s.event .lockReleased (some c) 1 none false),
        mail := { s.mail with cavity := s.mail.cavity.set c { s.box c with
          lockNotices := (s.box c).lockNotices ++ [.atRestOpen] } } })

/-- LOCK DOOR and UNLOCK DOOR on an enabled cavity, by the tables of R136 and R137. LOCK DOOR needs an IDLE Sequencer and
begins an engagement with owner REQUEST on an OPEN lock with the door CLOSED; a LOCKED lock is DONE with no change. UNLOCK
DOOR is refused STATE to a lock that a cycle or the recovery owns, is BUSY during a travel, is DONE with no change on an OPEN
lock, and on a LOCKED or a jammed lock begins a release, or frees a jammed lock whose switch reads UNLOCKED, only under the
release permission, and is refused HOT without it (R131, R136, R137). The latest cavity reading of the permission is the one
that the Scanner last formed (log entry 7). -/
def Obligations.LockAndUnlockDoor : Prop :=
  ∀ (s : State) (h : Header) (c : Cavity), s.link.owed = none → (s.seq.get c).state ≠ .absent →
    let q := s.seq.get c
    let l := s.locks.get c
    let lockSays (r : Reply) : Prop := exec (.lockDoor h [byte c.num]) s = .next (s.heard.answer h 0x40 (some c) r)
    let unlockSays (r : Reply) : Prop :=
      exec (.unlockDoor h [byte c.num]) s = .next (s.heard.answer h 0x41 (some c) r)
    let travels : Prop := l.state = .engaging ∨ l.state = .releasing
    let free : Prop := l.owner ≠ .cycle ∧ l.owner ≠ .recovery
    let permitted : Prop := q.state ≠ .locking ∧ q.state ≠ .running ∧
      ((∃ r tf, s.scanner.latest.get c = some r ∧ r.probe = .valid ∧ r.probeTf = some tf ∧
        tf ≤ ((s.profiles.get c).releaseThreshold : Int)) ∨ 5400 ≤ q.blindCool)
    (q.state ≠ .idle → lockSays (Reply.refuse .state)) ∧
    (q.state = .idle → travels → lockSays Reply.busy) ∧
    (q.state = .idle → l.state = .jammed → lockSays (Reply.refuse .lock)) ∧
    (q.state = .idle → l.state = .locked → lockSays (Reply.done [])) ∧
    (q.state = .idle → l.state = .opened → l.door = .opened → lockSays (Reply.refuse .door)) ∧
    (q.state = .idle → l.state = .opened → l.door = .closed →
      exec (.lockDoor h [byte c.num]) s = .next ({ s.heard with locks := s.locks.set c { l with
        state := .engaging, owner := .request, timer := some 0, reversal := none } }.answer h 0x40 (some c)
          (Reply.done []))) ∧
    (¬ free → unlockSays (Reply.refuse .state)) ∧
    (free → travels → unlockSays Reply.busy) ∧
    (free → l.state = .opened → unlockSays (Reply.done [])) ∧
    (free → l.state = .locked ∨ l.state = .jammed → ¬ permitted → unlockSays (Reply.refuse .hot)) ∧
    (free → l.state = .locked ∨ (l.state = .jammed ∧ l.switch = .locked) → permitted →
      exec (.unlockDoor h [byte c.num]) s = .next ({ s.heard with locks := s.locks.set c { l with
        state := .releasing, timer := some 0, reversal := none } }.answer h 0x41 (some c) (Reply.done []))) ∧
    (free → l.state = .jammed → l.switch = .unlocked → permitted →
      let notices := (s.box c).lockNotices ++ [LockNotice.atRestOpen]
      exec (.unlockDoor h [byte c.num]) s = .next ({ s.heard with
        locks := s.locks.set c { l with state := .opened, owner := .none, timer := none, reversal := none },
        link := s.heard.link.enqueue (s.event .lockReleased (some c) 1 none false),
        mail := { s.mail with cavity := s.mail.cavity.set c { s.box c with lockNotices := notices } } }.answer h 0x41
          (some c) (Reply.done []))) ∧
    (s.permission c = true ↔ permitted)

/-! ## The Fan Controller -/

/-- The commanded level against the demand formed at an evaluation: a rise is made at once, a fall only at the sixtieth
evaluation in a row below the level, and the duty is that of the level (R145). The tach count is closed and the rpm worked
out from it (R146). -/
def Obligations.FanLevelFollowsDemand : Prop :=
  ∀ s : State, s.fan.holdDown < 60 → s.fan.duty = dutyOf s.fan.level → ∃ t : State, exec .fanEvaluation s = .next t ∧
    let d := t.fan.demand
    d = max t.fan.sources.temperature (max t.fan.sources.sequencer (max t.fan.sources.trip
      (max t.fan.sources.board (max t.fan.sources.host t.fan.sources.stall)))) ∧
    (s.fan.level < d → t.fan.holdDown = 0 ∧ t.fan.level = d) ∧
    (d = s.fan.level → t.fan.holdDown = 0 ∧ t.fan.level = s.fan.level) ∧
    (d < s.fan.level → s.fan.holdDown < 59 →
      t.fan.holdDown = s.fan.holdDown + 1 ∧ t.fan.level = s.fan.level) ∧
    (d < s.fan.level → s.fan.holdDown = 59 → t.fan.holdDown = 0 ∧ t.fan.level = d) ∧
    t.fan.duty = (match t.fan.level with | 0 => 0 | 1 => 35 | 2 => 65 | _ => 100) ∧
    t.fan.pulses = some s.fan.tachCount ∧
    t.fan.rpm = some (s.fan.tachCount * 60 / s.appliance.pulsesPerRev) ∧ t.fan.tachCount = 0 ∧
    t.fan.hostFloor = s.fan.hostFloor ∧ t.fan.stored = s.fan.stored ∧ t.fan.convection = s.fan.convection ∧
    { t with fan := s.fan, limit := s.limit, drive := s.drive, alloc := s.alloc, link := s.link, mail := s.mail } = s

/-- The demand and the stall. At an evaluation each of the six sources gives the level of the table of R144, the highest
being the demand, with the stall source as this evaluation leaves the fan state. The tenth evaluation in a row below half
speed stalls the fan: FAN_STALL is queued ahead of the trips, demand and level are 3 from that same evaluation, and every
enabled cavity in LOCKING or RUNNING has FAN_STALL raised with its supply relay open, while a cavity in any other state is
left alone. In STALLED the cause is raised again, and the tenth good evaluation recovers the fan: it is ON at level 3, and
FAN_RECOVERED is queued last (R144, R147 to R150, R157). Outside STALLED the fan state follows the level: a rise enters SPINUP
with 5 remaining, each later evaluation takes 1 away and the last enters ON, level 0 is OFF with the counts at 0, and a fall
above 0 changes nothing (R147). That no speed is below half at level 0 is log entry 30. -/
def Obligations.StallTripsHeatingCavities : Prop :=
  (∀ s : State, ∃ t : State, exec .fanEvaluation s = .next t ∧
    let a := s.appliance
    let x := t.fan.sources
    let top (f : Cavity → Nat) : Nat :=
      let g (c : Cavity) : Nat := if s.enabled c then f c else 0
      max (g .c0) (max (g .c1) (g .c2))
    let hot (tf : Int) : Nat := if a.tHigh ≤ tf then 3 else if a.tMid ≤ tf then 2 else if a.tLow ≤ tf then 1 else 0
    x.temperature = top (fun c => match s.fan.stored.get c with
      | none => 0
      | some r => match r.probe with
        | .unknown => 3
        | .fault => 3
        | _ => (r.tf.map hot).getD 0) ∧
    x.sequencer = top (fun c => match (s.seq.get c).state with
      | .running => ((s.phaseRecord c).map PhaseRecord.fanFloor).getD 0
      | .locking => 2
      | .settling => if (s.seq.get c).lockOwned then 2 else 0
      | .recovering => if (s.seq.get c).lockOwned then 2 else 0
      | _ => 0) ∧
    x.trip = top (fun c =>
      let proven : Bool := (s.fan.stored.get c).any fun r =>
        decide (r.probe = .valid) && r.tf.any fun tf => decide (tf < (a.tLow : Int))
      match (s.seq.get c).state, (s.seq.get c).outcome with
      | .faulted, _ => if proven then 0 else 3
      | .settling, some .tripped => if proven then 0 else 3
      | .recovering, some .tripped => if proven then 0 else 3
      | _, _ => 0) ∧
    x.board = (if s.fan.board.any fun b => decide (700 ≤ b) then 3 else 0) ∧ x.host = s.fan.hostFloor ∧
    x.stall = (if t.fan.state = .stalled then 3 else 0) ∧
    t.fan.demand = max x.temperature (max x.sequencer (max x.trip (max x.board (max x.host x.stall))))) ∧
  (∀ s : State, s.fanSound →
    let rpm := s.fan.tachCount * 60 / s.appliance.pulsesPerRev
    let slow : Prop := s.fan.level ≠ 0 ∧ 2 * rpm < s.appliance.nominal s.fan.level
    let raisesStall (t : State) : Prop :=
      (∀ c, s.enabled c = true → (s.seq.get c).state = .locking ∨ (s.seq.get c).state = .running →
        CauseRaised s t c .fanStall) ∧
      (∀ c, s.enabled c = false ∨ ((s.seq.get c).state ≠ .locking ∧ (s.seq.get c).state ≠ .running) →
        t.limit.cavity.get c = s.limit.cavity.get c ∧ t.box c = s.box c)
    (s.fan.state = .on → slow → s.fan.stallCount = 9 → ∃ t : State, exec .fanEvaluation s = .next t ∧
      t.fan.state = .stalled ∧ t.fan.stallCount = 0 ∧ t.fan.recoveryCount = 0 ∧ t.fan.demand = 3 ∧
      t.fan.level = 3 ∧ t.fan.duty = 100 ∧ raisesStall t ∧
      (s.link.queue.length < 24 →
        (s.link.queue ++ [s.event .fanStall none 3 (some rpm) false]) <+: t.link.queue)) ∧
    (s.fan.state = .on → slow → s.fan.stallCount < 9 → ∃ t : State, exec .fanEvaluation s = .next t ∧
      t.fan.state ≠ .stalled ∧ t.limit = s.limit ∧ t.link = s.link ∧
      (t.fan.level ≠ 0 → t.fan.level ≤ s.fan.level →
        t.fan.state = .on ∧ t.fan.stallCount = s.fan.stallCount + 1)) ∧
    (s.fan.state = .on → ¬ slow → ∃ t : State, exec .fanEvaluation s = .next t ∧
      t.fan.state ≠ .stalled ∧ t.fan.stallCount = 0 ∧ t.limit = s.limit ∧ t.link = s.link) ∧
    (s.fan.state = .stalled → ∃ t : State, exec .fanEvaluation s = .next t ∧ t.fan.level = 3 ∧ raisesStall t ∧
      (¬ slow → s.fan.recoveryCount = 9 → t.fan.state = .on ∧ t.fan.recoveryCount = 0 ∧ t.fan.stallCount = 0 ∧
        t.fan.sources.stall = 0 ∧ (s.link.queue.length ≤ 20 →
          t.link.queue.getLast? = some (s.event .fanRecovered none 1 (some rpm) false))) ∧
      (¬ slow → s.fan.recoveryCount < 9 → t.fan.state = .stalled ∧ t.fan.demand = 3 ∧
        t.fan.recoveryCount = s.fan.recoveryCount + 1) ∧
      (slow → t.fan.state = .stalled ∧ t.fan.demand = 3 ∧ t.fan.recoveryCount = 0))) ∧
  -- OFF, SPINUP and ON (R147)
  (∀ s : State, s.fanSound → s.fan.state ≠ .stalled → ∃ t : State, exec .fanEvaluation s = .next t ∧
    let before := s.fan.level
    (s.fan.state ≠ .on → t.fan.state ≠ .stalled ∧ t.limit = s.limit ∧ t.link = s.link) ∧
    (t.fan.level = 0 → t.fan.state ≠ .stalled → t.fan.state = .off ∧ t.fan.spinup = none ∧ t.fan.stallCount = 0 ∧
      t.fan.recoveryCount = 0) ∧
    (before < t.fan.level → t.fan.state ≠ .stalled → t.fan.state = .spinup ∧ t.fan.spinup = some 5 ∧
      t.fan.stallCount = 0) ∧
    (t.fan.level ≠ 0 → t.fan.level ≤ before →
      (s.fan.state = .on → t.fan.spinup = none ∧ (t.fan.state = .on ∨ t.fan.state = .stalled)) ∧
      (∀ n, s.fan.spinup = some n → t.fan.stallCount = s.fan.stallCount ∧
        (2 ≤ n → t.fan.state = .spinup ∧ t.fan.spinup = some (n - 1)) ∧
        (n = 1 → t.fan.state = .on ∧ t.fan.spinup = none))))

/-- What the Fan Controller takes from outside: a cavity reading's probe state and Tf, a board reading, a tach pulse, which
saturates at 1000, and SET FAN FLOOR, whose reply gives the floor and the level (R143, R146, R151). -/
def Obligations.FanInputsTaken : Prop :=
  (∀ (s : State) (c : Cavity) (x : CavityReading) (rest : List CavityReading), (s.box c).fanReadings = x :: rest →
    exec (.fanCavityReading c) s = .next { s with
      fan := { s.fan with stored := s.fan.stored.set c (some { probe := x.probe, tf := x.probeTf }) },
      mail := { s.mail with cavity := s.mail.cavity.set c { s.box c with fanReadings := rest } } }) ∧
  (∀ (s : State) (b : Int) (rest : List Int), s.mail.fanBoard = b :: rest →
    exec .fanBoardReading s = .next { s with
      fan := { s.fan with board := some b }, mail := { s.mail with fanBoard := rest } }) ∧
  (∀ s : State, exec .tachPulse s = .next { s with
    fan := { s.fan with tachCount := if s.fan.tachCount < 1000 then s.fan.tachCount + 1 else 1000 } }) ∧
  (∀ (s : State) (h : Header) (n : Nat), s.link.owed = none → n ≤ 3 →
    exec (.setFanFloor h [byte n]) s = .next ({ s.heard with fan := { s.fan with hostFloor := n } }.answer h 0x52 none
      (Reply.done [byte n, byte s.fan.level])))

/-! ## The Limit Supervisor -/

/-- A first cause that applies trips the cavity within the step: the record is created, the supply relay is open, no grant
of the cavity stands and its outputs are off, every request record asks for no more than it was granted, TRIP joins the
queue and the notice is in flight; nothing else changes. A later cause joins the record once; one that does not apply
changes nothing. The sense check raises NO_HEAT for a cavity heating with every element of its set DEAD, and for no other
(R104, R119, R157, R162, R163). -/
def Obligations.FirstCauseTrips : Prop :=
  (∀ (s : State) (c : Cavity) (k : Cause),
    let l := s.limit.cavity.get c
    let q := s.seq.get c
    (k.applies q.state = false → s.raise c k = s) ∧
    (k.applies q.state = true → l.active = none →
      let t := s.raise c k
      let tf : Option Int := match l.reading with
        | some x => if x.probe = .valid ∨ x.probe = .suspect then x.probeTf else none
        | none => none
      let position : Option Nat := if q.state = .running then q.current.map Prod.fst else none
      let r : TripRecord := { first := k, uptime := s.clock.uptime, tf := tf, position := position, later := [] }
      t.limit = { s.limit with cavity := s.limit.cavity.set c { l with active := some r } } ∧
      t.relayClosed c = false ∧ (∀ d, d ≠ c → t.drive.relays.get d = s.drive.relays.get d) ∧
      t.drive.handed = s.drive.handed ∧
      t.alloc.grants = (s.alloc.grants.filter fun x => decide (x.1 ≠ c)) ∧
      (s.drivesFollow → ∀ i : Fin 12,
        t.output i = { s.output i with drive := driven s.enabled t.alloc.grants (s.output i) } ∧
        ((s.output i).owner.map Prod.fst = some c → (t.output i).drive = false)) ∧
      (∀ e, t.alloc.record (c, e) =
        (s.alloc.record (c, e)).map fun r => { r with q := r.g, deferral := 0, overdue := false }) ∧
      (∀ d, d ≠ c → t.alloc.requests.get d = s.alloc.requests.get d) ∧
      { t.alloc with grants := s.alloc.grants, requests := s.alloc.requests } = s.alloc ∧
      t.link = s.link.enqueue (s.event .trip (some c) 3 (some k.code) false) ∧
      t.mail = { s.mail with cavity := s.mail.cavity.set c { s.box c with
        tripNotices := (s.box c).tripNotices + 1 } } ∧
      { t with limit := s.limit, drive := s.drive, alloc := s.alloc, link := s.link, mail := s.mail } = s) ∧
    (∀ r, k.applies q.state = true → l.active = some r → k = r.first ∨ k ∈ r.later → s.raise c k = s) ∧
    (∀ r, k.applies q.state = true → l.active = some r → k ≠ r.first → k ∉ r.later →
      s.raise c k = { s with
        limit := { s.limit with cavity := s.limit.cavity.set c { l with active := some { r with
          later := r.later ++ [k] } } },
        link := s.link.enqueue (s.event .trip (some c) 3 (some k.code) true) })) ∧
  (∀ (s : State) (loads : BitVec 12), ∃ t : State, exec (.senseCheck loads) s = .next t ∧
    ∀ c, let dark : Prop := s.heating c = true ∧
        ∀ e, (s.alloc.demand.get c).elements.has e = true → t.dead (c, e) = true
      (dark → t.holdsCause c .noHeat) ∧ (t.holdsCause c .noHeat → dark ∨ s.holdsCause c .noHeat))

/-- The Supervisor's readings: a cavity reading is stored with its limit counts; the third in a row at or above a limit
raises OVERTEMP or CATALYST_OVERTEMP, a probe in FAULT raises PROBE_FAULT, and an OPEN cut-out with the relay CLOSED raises
CUTOUT, in this order, the first of them being the first cause where no trip stood. PROBE_FAULT and CUTOUT are raised for a
cavity in LOCKING or RUNNING alone, and an OPEN cut-out with the relay OPEN raises nothing (R156, R157, R158, R159,
R160). -/
def Obligations.SupervisorReadingRaises : Prop :=
  ∀ (s : State) (c : Cavity) (x : CavityReading) (rest : List CavityReading),
    (s.box c).supervisorReadings = x :: rest →
    let l := s.limit.cavity.get c
    let p := s.profiles.get c
    let count (n : Nat) (st : ChannelState) (t : Option Int) (limit : Nat) : Nat :=
      match st, t with
      | .valid, some t => if (limit : Int) ≤ t then min 3 (n + 1) else 0
      | _, _ => n
    let tooHot := count l.overtempCount x.probe x.probeT p.hardLimit
    let hot := count l.catalystCount x.catalyst x.catalystT p.catalystLimit
    let heats : Prop := (s.seq.get c).state = .locking ∨ (s.seq.get c).state = .running
    ∃ t : State, exec (.supervisorCavityReading c) s = .next t ∧
      (t.limit.cavity.get c).reading = some ⟨x.probe, x.probeT, x.probeTf, x.catalyst, x.catalystT⟩ ∧
      (t.limit.cavity.get c).overtempCount = tooHot ∧ (t.limit.cavity.get c).catalystCount = hot ∧
      (t.box c).supervisorReadings = rest ∧
      (tooHot = 3 → (s.seq.get c).state ≠ .absent → CauseRaised s t c .overtemp) ∧
      (hot = 3 → (s.seq.get c).state ≠ .absent →
        t.holdsCause c .catalystOvertemp ∧ (tooHot ≠ 3 → CauseRaised s t c .catalystOvertemp)) ∧
      (x.probe = .fault → heats →
        t.holdsCause c .probeFault ∧ (tooHot ≠ 3 → hot ≠ 3 → CauseRaised s t c .probeFault)) ∧
      (l.cutout = .opened → s.relayClosed c = true → heats → t.tripped c = true ∧
        (tooHot ≠ 3 → hot ≠ 3 → x.probe ≠ .fault → CauseRaised s t c .cutout)) ∧
      (t.holdsCause c .probeFault → s.holdsCause c .probeFault ∨ (x.probe = .fault ∧ heats)) ∧
      (t.holdsCause c .cutout → s.holdsCause c .cutout ∨ (l.cutout = .opened ∧ s.relayClosed c = true ∧ heats)) ∧
      (tooHot ≠ 3 → hot ≠ 3 → ¬ (x.probe = .fault ∧ heats) →
        ¬ (l.cutout = .opened ∧ s.relayClosed c = true ∧ heats) →
        (t.limit.cavity.get c).active = l.active ∧ t.link = s.link ∧ t.drive = s.drive ∧ t.alloc = s.alloc) ∧
      (t.limit.cavity.get c).cutout = l.cutout ∧ (t.limit.cavity.get c).cleared = l.cleared ∧
      KeepsOthers s t c ∧ t.seq = s.seq ∧ t.locks = s.locks ∧ t.reg = s.reg ∧ t.table = s.table

/-- The board and the cut-outs. A board reading of 850 or more raises BOARD_OVERTEMP for every enabled cavity in LOCKING or
RUNNING and for no other. CUTOUT is raised for a cavity in LOCKING or RUNNING whose cut-out opens while the supply relay is
CLOSED, or is OPEN when the closing is taken; a cut-out that opens with the relay OPEN, or closes again, is recorded and
raises nothing (R157, R160, R161). That a value already held is no change, and that an absent cavity's input is recorded as a
pin only, is log entry 5. -/
def Obligations.BoardAndCutoutTrip : Prop :=
  (∀ (s : State) (b : Int) (rest : List Int), s.mail.supervisorBoard = b :: rest →
    ∃ t : State, exec .supervisorBoardReading s = .next t ∧ t.limit.board = some b ∧ t.mail.supervisorBoard = rest ∧
      (b < 850 → t = { s with
        limit := { s.limit with board := some b }, mail := { s.mail with supervisorBoard := rest } }) ∧
      (850 ≤ b → ∀ c, (s.enabled c = true → (s.seq.get c).state = .locking ∨ (s.seq.get c).state = .running →
          CauseRaised s t c .boardOvertemp) ∧
        (s.enabled c = false ∨ ((s.seq.get c).state ≠ .locking ∧ (s.seq.get c).state ≠ .running) →
          t.limit.cavity.get c = s.limit.cavity.get c ∧ t.box c = s.box c)) ∧
      { t with limit := s.limit, drive := s.drive, alloc := s.alloc, link := s.link, mail := s.mail } = s) ∧
  (∀ (s : State) (c : Cavity),
    let l := s.limit.cavity.get c
    let heats : Prop := (s.seq.get c).state = .locking ∨ (s.seq.get c).state = .running
    let pinned (v : Cutout) : State := { s with pins := s.pins.set c { s.pins.get c with cutout := v } }
    let recorded (v : Cutout) : State :=
      { pinned v with limit := { s.limit with cavity := s.limit.cavity.set c { l with cutout := v } } }
    (s.enabled c = true → l.cutout = .closed → s.relayClosed c = true → heats →
      ∃ t : State, exec (.cutoutChange c .opened) s = .next t ∧ (t.limit.cavity.get c).cutout = .opened ∧
        CauseRaised s t c .cutout ∧ RaisesOnly (recorded .opened) t c) ∧
    (s.enabled c = true → l.cutout = .closed → s.relayClosed c = false ∨ ¬ heats →
      exec (.cutoutChange c .opened) s = .next (recorded .opened)) ∧
    (s.enabled c = true → l.cutout = .opened → exec (.cutoutChange c .closed) s = .next (recorded .closed)) ∧
    (∀ v, s.enabled c = false ∨ l.cutout = v → exec (.cutoutChange c v) s = .next (pinned v))) ∧
  (∀ (s : State) (c : Cavity), 0 < (s.box c).relayClosings →
    let heats : Prop := (s.seq.get c).state = .locking ∨ (s.seq.get c).state = .running
    let s' : State := { s with mail := { s.mail with
      cavity := s.mail.cavity.set c { s.box c with relayClosings := (s.box c).relayClosings - 1 } } }
    ((s.limit.cavity.get c).cutout = .closed ∨ s.relayClosed c = false ∨ ¬ heats →
      exec (.supplyRelayClosed c) s = .next s') ∧
    ((s.limit.cavity.get c).cutout = .opened → s.relayClosed c = true → heats →
      ∃ t : State, exec (.supplyRelayClosed c) s = .next t ∧ CauseRaised s t c .cutout ∧
        (t.box c).relayClosings = (s.box c).relayClosings - 1 ∧ RaisesOnly s t c))

/-- CLEAR TRIP on a FAULTED cavity whose conditions are all gone: the active record becomes the last cleared record, the
Sequencer leaves FAULTED for IDLE with its context unchanged, and TRIP_CLEARED carries the first cause, as the reply does
(R60, R165, R166). Otherwise the first check of R165 that fails refuses it, with STATE, with TRIP and the cause of the
condition found, or with LOCK, and nothing changes. That trip notices of the cleared record still in flight are dropped is
the model's choice (log entry 10). -/
def Obligations.ClearTripClears : Prop :=
  (∀ (s : State) (h : Header) (c : Cavity) (r : TripRecord) (x : LimitReading) (t₀ : Int),
    s.link.owed = none → (s.seq.get c).state = .faulted → (s.limit.cavity.get c).active = some r →
    (s.limit.cavity.get c).reading = some x → x.probe = .valid → x.probeT = some t₀ →
    t₀ < (s.profiles.get c).hardLimit →
    (x.catalyst = .valid → ∃ k, x.catalystT = some k ∧ k < (s.profiles.get c).catalystLimit) →
    (s.limit.cavity.get c).cutout = .closed → s.fan.state ≠ .stalled →
    (∀ b, s.limit.board = some b → b < 800) → (s.locks.get c).state = .opened →
    exec (.clearTrip h [byte c.num]) s = .next ({ s.heard with
      limit := { s.limit with cavity := s.limit.cavity.set c { s.limit.cavity.get c with
        active := none, cleared := some { record := r, clearedAt := s.clock.uptime } } },
      seq := s.seq.set c { s.seq.get c with state := .idle },
      mail := { s.mail with cavity := s.mail.cavity.set c { s.box c with tripNotices := 0 } },
      link := s.heard.link.enqueue (s.event .tripCleared (some c) 1 (some r.first.code) false) }.answer h 0x60 (some c)
          (Reply.done [byte r.first.code]))) ∧
  (∀ (s : State) (h : Header) (c : Cavity) (r : Reply), s.link.owed = none → (s.seq.get c).state ≠ .absent →
    let stored := (s.limit.cavity.get c).reading
    let p := s.profiles.get c
    firstFailing [
      (Reply.refuse .state, !decide ((s.seq.get c).state = .faulted)),
      (Reply.tripPresent .probeFault, !(stored.any fun x => decide (x.probe = .valid))),
      (Reply.tripPresent .overtemp, !(stored.any fun x => x.probeT.any fun t => decide (t < (p.hardLimit : Int)))),
      (Reply.tripPresent .catalystOvertemp, stored.any fun x => decide (x.catalyst = .valid) &&
        x.catalystT.any fun t => decide ((p.catalystLimit : Int) ≤ t)),
      (Reply.tripPresent .cutout, decide ((s.limit.cavity.get c).cutout = .opened)),
      (Reply.tripPresent .fanStall, decide (s.fan.state = .stalled)),
      (Reply.tripPresent .boardOvertemp, s.limit.board.any fun b => decide (800 ≤ b)),
      (Reply.refuse .lock, !decide ((s.locks.get c).state = .opened))] = some r →
    exec (.clearTrip h [byte c.num]) s = .next (s.heard.answer h 0x60 (some c) r))
end

