-- ==== Sys2Proof/Laws/State.lean ====
section
/-! SUPPORT. One lemma per field for each replacement of a block's part of the state, so that no proof unfolds a record
update, and the reading back of a value set for a cavity or an element. -/

namespace Sys2Proof

@[simp] theorem PerCavity.get_set {α : Type} (p : PerCavity α) (c d : Cavity) (a : α) :
    (p.set c a).get d = if d = c then a else p.get d := by cases c <;> cases d <;> rfl

@[simp] theorem PerCavity.set_set {α : Type} (p : PerCavity α) (c : Cavity) (a b : α) :
    (p.set c a).set c b = p.set c b := by cases c <;> rfl

@[simp] theorem PerCavity.set_get {α : Type} (p : PerCavity α) (c : Cavity) : p.set c (p.get c) = p := by cases c <;> rfl

@[simp] theorem PerCavity.get_map {α β : Type} (p : PerCavity α) (f : Cavity → α → β) (c : Cavity) :
    (p.map f).get c = f c (p.get c) := by cases c <;> rfl

@[simp] theorem PerCavity.get_all {α : Type} (a : α) (c : Cavity) : (PerCavity.all a).get c = a := by cases c <;> rfl

/-- Two families are equal when they agree on every cavity. -/
theorem PerCavity.ext_get {α : Type} {p q : PerCavity α} (h : ∀ c, p.get c = q.get c) : p = q := by
  obtain ⟨p0, p1, p2⟩ := p
  obtain ⟨q0, q1, q2⟩ := q
  have h0 := h .c0
  have h1 := h .c1
  have h2 := h .c2
  simp only [PerCavity.get] at h0 h1 h2
  subst h0 h1 h2
  rfl

theorem Cavity.mem_all (c : Cavity) : c ∈ Cavity.all := by cases c <;> decide

namespace Machine

@[simp] theorem PerElement.get_set {α : Type} (p : PerElement α) (e d : Element) (a : α) :
    (p.set e a).get d = if d = e then a else p.get d := by cases e <;> cases d <;> rfl

@[simp] theorem PerElement.get_map {α β : Type} (p : PerElement α) (f : Element → α → β) (e : Element) :
    (p.map f).get e = f e (p.get e) := by cases e <;> rfl

theorem Element.mem_all (e : Element) : e ∈ Element.all := by cases e <;> decide

/-! ### State.setSeq -/

@[simp] theorem State.setSeq_pending (s : State) (c : Cavity) (x : Sequencer) :
    (s.setSeq c x).pending = s.pending := rfl

@[simp] theorem State.setSeq_clock (s : State) (c : Cavity) (x : Sequencer) :
    (s.setSeq c x).clock = s.clock := rfl

@[simp] theorem State.setSeq_pins (s : State) (c : Cavity) (x : Sequencer) :
    (s.setSeq c x).pins = s.pins := rfl

@[simp] theorem State.setSeq_appliance (s : State) (c : Cavity) (x : Sequencer) :
    (s.setSeq c x).appliance = s.appliance := rfl

@[simp] theorem State.setSeq_profiles (s : State) (c : Cavity) (x : Sequencer) :
    (s.setSeq c x).profiles = s.profiles := rfl

@[simp] theorem State.setSeq_scanner (s : State) (c : Cavity) (x : Sequencer) :
    (s.setSeq c x).scanner = s.scanner := rfl

@[simp] theorem State.setSeq_table (s : State) (c : Cavity) (x : Sequencer) :
    (s.setSeq c x).table = s.table := rfl

@[simp] theorem State.setSeq_seq (s : State) (c : Cavity) (x : Sequencer) :
    (s.setSeq c x).seq = s.seq.set c x := rfl

@[simp] theorem State.setSeq_reg (s : State) (c : Cavity) (x : Sequencer) :
    (s.setSeq c x).reg = s.reg := rfl

@[simp] theorem State.setSeq_alloc (s : State) (c : Cavity) (x : Sequencer) :
    (s.setSeq c x).alloc = s.alloc := rfl

@[simp] theorem State.setSeq_drive (s : State) (c : Cavity) (x : Sequencer) :
    (s.setSeq c x).drive = s.drive := rfl

@[simp] theorem State.setSeq_locks (s : State) (c : Cavity) (x : Sequencer) :
    (s.setSeq c x).locks = s.locks := rfl

@[simp] theorem State.setSeq_fan (s : State) (c : Cavity) (x : Sequencer) :
    (s.setSeq c x).fan = s.fan := rfl

@[simp] theorem State.setSeq_limit (s : State) (c : Cavity) (x : Sequencer) :
    (s.setSeq c x).limit = s.limit := rfl

@[simp] theorem State.setSeq_link (s : State) (c : Cavity) (x : Sequencer) :
    (s.setSeq c x).link = s.link := rfl

@[simp] theorem State.setSeq_mail (s : State) (c : Cavity) (x : Sequencer) :
    (s.setSeq c x).mail = s.mail := rfl

@[simp] theorem State.setSeq_free (s : State) (c : Cavity) (x : Sequencer) :
    (s.setSeq c x).free = s.free := rfl

/-! ### State.setReg -/

@[simp] theorem State.setReg_pending (s : State) (c : Cavity) (x : Regulation) :
    (s.setReg c x).pending = s.pending := rfl

@[simp] theorem State.setReg_clock (s : State) (c : Cavity) (x : Regulation) :
    (s.setReg c x).clock = s.clock := rfl

@[simp] theorem State.setReg_pins (s : State) (c : Cavity) (x : Regulation) :
    (s.setReg c x).pins = s.pins := rfl

@[simp] theorem State.setReg_appliance (s : State) (c : Cavity) (x : Regulation) :
    (s.setReg c x).appliance = s.appliance := rfl

@[simp] theorem State.setReg_profiles (s : State) (c : Cavity) (x : Regulation) :
    (s.setReg c x).profiles = s.profiles := rfl

@[simp] theorem State.setReg_scanner (s : State) (c : Cavity) (x : Regulation) :
    (s.setReg c x).scanner = s.scanner := rfl

@[simp] theorem State.setReg_table (s : State) (c : Cavity) (x : Regulation) :
    (s.setReg c x).table = s.table := rfl

@[simp] theorem State.setReg_seq (s : State) (c : Cavity) (x : Regulation) :
    (s.setReg c x).seq = s.seq := rfl

@[simp] theorem State.setReg_reg (s : State) (c : Cavity) (x : Regulation) :
    (s.setReg c x).reg = s.reg.set c x := rfl

@[simp] theorem State.setReg_alloc (s : State) (c : Cavity) (x : Regulation) :
    (s.setReg c x).alloc = s.alloc := rfl

@[simp] theorem State.setReg_drive (s : State) (c : Cavity) (x : Regulation) :
    (s.setReg c x).drive = s.drive := rfl

@[simp] theorem State.setReg_locks (s : State) (c : Cavity) (x : Regulation) :
    (s.setReg c x).locks = s.locks := rfl

@[simp] theorem State.setReg_fan (s : State) (c : Cavity) (x : Regulation) :
    (s.setReg c x).fan = s.fan := rfl

@[simp] theorem State.setReg_limit (s : State) (c : Cavity) (x : Regulation) :
    (s.setReg c x).limit = s.limit := rfl

@[simp] theorem State.setReg_link (s : State) (c : Cavity) (x : Regulation) :
    (s.setReg c x).link = s.link := rfl

@[simp] theorem State.setReg_mail (s : State) (c : Cavity) (x : Regulation) :
    (s.setReg c x).mail = s.mail := rfl

@[simp] theorem State.setReg_free (s : State) (c : Cavity) (x : Regulation) :
    (s.setReg c x).free = s.free := rfl

/-! ### State.setLock -/

@[simp] theorem State.setLock_pending (s : State) (c : Cavity) (x : DoorLock) :
    (s.setLock c x).pending = s.pending := rfl

@[simp] theorem State.setLock_clock (s : State) (c : Cavity) (x : DoorLock) :
    (s.setLock c x).clock = s.clock := rfl

@[simp] theorem State.setLock_pins (s : State) (c : Cavity) (x : DoorLock) :
    (s.setLock c x).pins = s.pins := rfl

@[simp] theorem State.setLock_appliance (s : State) (c : Cavity) (x : DoorLock) :
    (s.setLock c x).appliance = s.appliance := rfl

@[simp] theorem State.setLock_profiles (s : State) (c : Cavity) (x : DoorLock) :
    (s.setLock c x).profiles = s.profiles := rfl

@[simp] theorem State.setLock_scanner (s : State) (c : Cavity) (x : DoorLock) :
    (s.setLock c x).scanner = s.scanner := rfl

@[simp] theorem State.setLock_table (s : State) (c : Cavity) (x : DoorLock) :
    (s.setLock c x).table = s.table := rfl

@[simp] theorem State.setLock_seq (s : State) (c : Cavity) (x : DoorLock) :
    (s.setLock c x).seq = s.seq := rfl

@[simp] theorem State.setLock_reg (s : State) (c : Cavity) (x : DoorLock) :
    (s.setLock c x).reg = s.reg := rfl

@[simp] theorem State.setLock_alloc (s : State) (c : Cavity) (x : DoorLock) :
    (s.setLock c x).alloc = s.alloc := rfl

@[simp] theorem State.setLock_drive (s : State) (c : Cavity) (x : DoorLock) :
    (s.setLock c x).drive = s.drive := rfl

@[simp] theorem State.setLock_locks (s : State) (c : Cavity) (x : DoorLock) :
    (s.setLock c x).locks = s.locks.set c x := rfl

@[simp] theorem State.setLock_fan (s : State) (c : Cavity) (x : DoorLock) :
    (s.setLock c x).fan = s.fan := rfl

@[simp] theorem State.setLock_limit (s : State) (c : Cavity) (x : DoorLock) :
    (s.setLock c x).limit = s.limit := rfl

@[simp] theorem State.setLock_link (s : State) (c : Cavity) (x : DoorLock) :
    (s.setLock c x).link = s.link := rfl

@[simp] theorem State.setLock_mail (s : State) (c : Cavity) (x : DoorLock) :
    (s.setLock c x).mail = s.mail := rfl

@[simp] theorem State.setLock_free (s : State) (c : Cavity) (x : DoorLock) :
    (s.setLock c x).free = s.free := rfl

/-! ### State.setProfile -/

@[simp] theorem State.setProfile_pending (s : State) (c : Cavity) (x : CavityProfile) :
    (s.setProfile c x).pending = s.pending := rfl

@[simp] theorem State.setProfile_clock (s : State) (c : Cavity) (x : CavityProfile) :
    (s.setProfile c x).clock = s.clock := rfl

@[simp] theorem State.setProfile_pins (s : State) (c : Cavity) (x : CavityProfile) :
    (s.setProfile c x).pins = s.pins := rfl

@[simp] theorem State.setProfile_appliance (s : State) (c : Cavity) (x : CavityProfile) :
    (s.setProfile c x).appliance = s.appliance := rfl

@[simp] theorem State.setProfile_profiles (s : State) (c : Cavity) (x : CavityProfile) :
    (s.setProfile c x).profiles = s.profiles.set c x := rfl

@[simp] theorem State.setProfile_scanner (s : State) (c : Cavity) (x : CavityProfile) :
    (s.setProfile c x).scanner = s.scanner := rfl

@[simp] theorem State.setProfile_table (s : State) (c : Cavity) (x : CavityProfile) :
    (s.setProfile c x).table = s.table := rfl

@[simp] theorem State.setProfile_seq (s : State) (c : Cavity) (x : CavityProfile) :
    (s.setProfile c x).seq = s.seq := rfl

@[simp] theorem State.setProfile_reg (s : State) (c : Cavity) (x : CavityProfile) :
    (s.setProfile c x).reg = s.reg := rfl

@[simp] theorem State.setProfile_alloc (s : State) (c : Cavity) (x : CavityProfile) :
    (s.setProfile c x).alloc = s.alloc := rfl

@[simp] theorem State.setProfile_drive (s : State) (c : Cavity) (x : CavityProfile) :
    (s.setProfile c x).drive = s.drive := rfl

@[simp] theorem State.setProfile_locks (s : State) (c : Cavity) (x : CavityProfile) :
    (s.setProfile c x).locks = s.locks := rfl

@[simp] theorem State.setProfile_fan (s : State) (c : Cavity) (x : CavityProfile) :
    (s.setProfile c x).fan = s.fan := rfl

@[simp] theorem State.setProfile_limit (s : State) (c : Cavity) (x : CavityProfile) :
    (s.setProfile c x).limit = s.limit := rfl

@[simp] theorem State.setProfile_link (s : State) (c : Cavity) (x : CavityProfile) :
    (s.setProfile c x).link = s.link := rfl

@[simp] theorem State.setProfile_mail (s : State) (c : Cavity) (x : CavityProfile) :
    (s.setProfile c x).mail = s.mail := rfl

@[simp] theorem State.setProfile_free (s : State) (c : Cavity) (x : CavityProfile) :
    (s.setProfile c x).free = s.free := rfl

/-! ### State.setPins -/

@[simp] theorem State.setPins_pending (s : State) (c : Cavity) (x : SwitchPins) :
    (s.setPins c x).pending = s.pending := rfl

@[simp] theorem State.setPins_clock (s : State) (c : Cavity) (x : SwitchPins) :
    (s.setPins c x).clock = s.clock := rfl

@[simp] theorem State.setPins_pins (s : State) (c : Cavity) (x : SwitchPins) :
    (s.setPins c x).pins = s.pins.set c x := rfl

@[simp] theorem State.setPins_appliance (s : State) (c : Cavity) (x : SwitchPins) :
    (s.setPins c x).appliance = s.appliance := rfl

@[simp] theorem State.setPins_profiles (s : State) (c : Cavity) (x : SwitchPins) :
    (s.setPins c x).profiles = s.profiles := rfl

@[simp] theorem State.setPins_scanner (s : State) (c : Cavity) (x : SwitchPins) :
    (s.setPins c x).scanner = s.scanner := rfl

@[simp] theorem State.setPins_table (s : State) (c : Cavity) (x : SwitchPins) :
    (s.setPins c x).table = s.table := rfl

@[simp] theorem State.setPins_seq (s : State) (c : Cavity) (x : SwitchPins) :
    (s.setPins c x).seq = s.seq := rfl

@[simp] theorem State.setPins_reg (s : State) (c : Cavity) (x : SwitchPins) :
    (s.setPins c x).reg = s.reg := rfl

@[simp] theorem State.setPins_alloc (s : State) (c : Cavity) (x : SwitchPins) :
    (s.setPins c x).alloc = s.alloc := rfl

@[simp] theorem State.setPins_drive (s : State) (c : Cavity) (x : SwitchPins) :
    (s.setPins c x).drive = s.drive := rfl

@[simp] theorem State.setPins_locks (s : State) (c : Cavity) (x : SwitchPins) :
    (s.setPins c x).locks = s.locks := rfl

@[simp] theorem State.setPins_fan (s : State) (c : Cavity) (x : SwitchPins) :
    (s.setPins c x).fan = s.fan := rfl

@[simp] theorem State.setPins_limit (s : State) (c : Cavity) (x : SwitchPins) :
    (s.setPins c x).limit = s.limit := rfl

@[simp] theorem State.setPins_link (s : State) (c : Cavity) (x : SwitchPins) :
    (s.setPins c x).link = s.link := rfl

@[simp] theorem State.setPins_mail (s : State) (c : Cavity) (x : SwitchPins) :
    (s.setPins c x).mail = s.mail := rfl

@[simp] theorem State.setPins_free (s : State) (c : Cavity) (x : SwitchPins) :
    (s.setPins c x).free = s.free := rfl

/-! ### State.setLimit -/

@[simp] theorem State.setLimit_pending (s : State) (c : Cavity) (x : LimitRecord) :
    (s.setLimit c x).pending = s.pending := rfl

@[simp] theorem State.setLimit_clock (s : State) (c : Cavity) (x : LimitRecord) :
    (s.setLimit c x).clock = s.clock := rfl

@[simp] theorem State.setLimit_pins (s : State) (c : Cavity) (x : LimitRecord) :
    (s.setLimit c x).pins = s.pins := rfl

@[simp] theorem State.setLimit_appliance (s : State) (c : Cavity) (x : LimitRecord) :
    (s.setLimit c x).appliance = s.appliance := rfl

@[simp] theorem State.setLimit_profiles (s : State) (c : Cavity) (x : LimitRecord) :
    (s.setLimit c x).profiles = s.profiles := rfl

@[simp] theorem State.setLimit_scanner (s : State) (c : Cavity) (x : LimitRecord) :
    (s.setLimit c x).scanner = s.scanner := rfl

@[simp] theorem State.setLimit_table (s : State) (c : Cavity) (x : LimitRecord) :
    (s.setLimit c x).table = s.table := rfl

@[simp] theorem State.setLimit_seq (s : State) (c : Cavity) (x : LimitRecord) :
    (s.setLimit c x).seq = s.seq := rfl

@[simp] theorem State.setLimit_reg (s : State) (c : Cavity) (x : LimitRecord) :
    (s.setLimit c x).reg = s.reg := rfl

@[simp] theorem State.setLimit_alloc (s : State) (c : Cavity) (x : LimitRecord) :
    (s.setLimit c x).alloc = s.alloc := rfl

@[simp] theorem State.setLimit_drive (s : State) (c : Cavity) (x : LimitRecord) :
    (s.setLimit c x).drive = s.drive := rfl

@[simp] theorem State.setLimit_locks (s : State) (c : Cavity) (x : LimitRecord) :
    (s.setLimit c x).locks = s.locks := rfl

@[simp] theorem State.setLimit_fan (s : State) (c : Cavity) (x : LimitRecord) :
    (s.setLimit c x).fan = s.fan := rfl

@[simp] theorem State.setLimit_limit (s : State) (c : Cavity) (x : LimitRecord) :
    (s.setLimit c x).limit = { s.limit with cavity := s.limit.cavity.set c x } := rfl

@[simp] theorem State.setLimit_link (s : State) (c : Cavity) (x : LimitRecord) :
    (s.setLimit c x).link = s.link := rfl

@[simp] theorem State.setLimit_mail (s : State) (c : Cavity) (x : LimitRecord) :
    (s.setLimit c x).mail = s.mail := rfl

@[simp] theorem State.setLimit_free (s : State) (c : Cavity) (x : LimitRecord) :
    (s.setLimit c x).free = s.free := rfl

/-! ### State.setMail -/

@[simp] theorem State.setMail_pending (s : State) (c : Cavity) (x : Mailbox) :
    (s.setMail c x).pending = s.pending := rfl

@[simp] theorem State.setMail_clock (s : State) (c : Cavity) (x : Mailbox) :
    (s.setMail c x).clock = s.clock := rfl

@[simp] theorem State.setMail_pins (s : State) (c : Cavity) (x : Mailbox) :
    (s.setMail c x).pins = s.pins := rfl

@[simp] theorem State.setMail_appliance (s : State) (c : Cavity) (x : Mailbox) :
    (s.setMail c x).appliance = s.appliance := rfl

@[simp] theorem State.setMail_profiles (s : State) (c : Cavity) (x : Mailbox) :
    (s.setMail c x).profiles = s.profiles := rfl

@[simp] theorem State.setMail_scanner (s : State) (c : Cavity) (x : Mailbox) :
    (s.setMail c x).scanner = s.scanner := rfl

@[simp] theorem State.setMail_table (s : State) (c : Cavity) (x : Mailbox) :
    (s.setMail c x).table = s.table := rfl

@[simp] theorem State.setMail_seq (s : State) (c : Cavity) (x : Mailbox) :
    (s.setMail c x).seq = s.seq := rfl

@[simp] theorem State.setMail_reg (s : State) (c : Cavity) (x : Mailbox) :
    (s.setMail c x).reg = s.reg := rfl

@[simp] theorem State.setMail_alloc (s : State) (c : Cavity) (x : Mailbox) :
    (s.setMail c x).alloc = s.alloc := rfl

@[simp] theorem State.setMail_drive (s : State) (c : Cavity) (x : Mailbox) :
    (s.setMail c x).drive = s.drive := rfl

@[simp] theorem State.setMail_locks (s : State) (c : Cavity) (x : Mailbox) :
    (s.setMail c x).locks = s.locks := rfl

@[simp] theorem State.setMail_fan (s : State) (c : Cavity) (x : Mailbox) :
    (s.setMail c x).fan = s.fan := rfl

@[simp] theorem State.setMail_limit (s : State) (c : Cavity) (x : Mailbox) :
    (s.setMail c x).limit = s.limit := rfl

@[simp] theorem State.setMail_link (s : State) (c : Cavity) (x : Mailbox) :
    (s.setMail c x).link = s.link := rfl

@[simp] theorem State.setMail_mail (s : State) (c : Cavity) (x : Mailbox) :
    (s.setMail c x).mail = { s.mail with cavity := s.mail.cavity.set c x } := rfl

@[simp] theorem State.setMail_free (s : State) (c : Cavity) (x : Mailbox) :
    (s.setMail c x).free = s.free := rfl

/-! ### State.setRelay -/

@[simp] theorem State.setRelay_pending (s : State) (c : Cavity) (x : SupplyRelay) :
    (s.setRelay c x).pending = s.pending := rfl

@[simp] theorem State.setRelay_clock (s : State) (c : Cavity) (x : SupplyRelay) :
    (s.setRelay c x).clock = s.clock := rfl

@[simp] theorem State.setRelay_pins (s : State) (c : Cavity) (x : SupplyRelay) :
    (s.setRelay c x).pins = s.pins := rfl

@[simp] theorem State.setRelay_appliance (s : State) (c : Cavity) (x : SupplyRelay) :
    (s.setRelay c x).appliance = s.appliance := rfl

@[simp] theorem State.setRelay_profiles (s : State) (c : Cavity) (x : SupplyRelay) :
    (s.setRelay c x).profiles = s.profiles := rfl

@[simp] theorem State.setRelay_scanner (s : State) (c : Cavity) (x : SupplyRelay) :
    (s.setRelay c x).scanner = s.scanner := rfl

@[simp] theorem State.setRelay_table (s : State) (c : Cavity) (x : SupplyRelay) :
    (s.setRelay c x).table = s.table := rfl

@[simp] theorem State.setRelay_seq (s : State) (c : Cavity) (x : SupplyRelay) :
    (s.setRelay c x).seq = s.seq := rfl

@[simp] theorem State.setRelay_reg (s : State) (c : Cavity) (x : SupplyRelay) :
    (s.setRelay c x).reg = s.reg := rfl

@[simp] theorem State.setRelay_alloc (s : State) (c : Cavity) (x : SupplyRelay) :
    (s.setRelay c x).alloc = s.alloc := rfl

@[simp] theorem State.setRelay_drive (s : State) (c : Cavity) (x : SupplyRelay) :
    (s.setRelay c x).drive = { s.drive with relays := s.drive.relays.set c x } := rfl

@[simp] theorem State.setRelay_locks (s : State) (c : Cavity) (x : SupplyRelay) :
    (s.setRelay c x).locks = s.locks := rfl

@[simp] theorem State.setRelay_fan (s : State) (c : Cavity) (x : SupplyRelay) :
    (s.setRelay c x).fan = s.fan := rfl

@[simp] theorem State.setRelay_limit (s : State) (c : Cavity) (x : SupplyRelay) :
    (s.setRelay c x).limit = s.limit := rfl

@[simp] theorem State.setRelay_link (s : State) (c : Cavity) (x : SupplyRelay) :
    (s.setRelay c x).link = s.link := rfl

@[simp] theorem State.setRelay_mail (s : State) (c : Cavity) (x : SupplyRelay) :
    (s.setRelay c x).mail = s.mail := rfl

@[simp] theorem State.setRelay_free (s : State) (c : Cavity) (x : SupplyRelay) :
    (s.setRelay c x).free = s.free := rfl

/-! ### State.setAlloc -/

@[simp] theorem State.setAlloc_pending (s : State) (x : Allocator) :
    (s.setAlloc x).pending = s.pending := rfl

@[simp] theorem State.setAlloc_clock (s : State) (x : Allocator) :
    (s.setAlloc x).clock = s.clock := rfl

@[simp] theorem State.setAlloc_pins (s : State) (x : Allocator) :
    (s.setAlloc x).pins = s.pins := rfl

@[simp] theorem State.setAlloc_appliance (s : State) (x : Allocator) :
    (s.setAlloc x).appliance = s.appliance := rfl

@[simp] theorem State.setAlloc_profiles (s : State) (x : Allocator) :
    (s.setAlloc x).profiles = s.profiles := rfl

@[simp] theorem State.setAlloc_scanner (s : State) (x : Allocator) :
    (s.setAlloc x).scanner = s.scanner := rfl

@[simp] theorem State.setAlloc_table (s : State) (x : Allocator) :
    (s.setAlloc x).table = s.table := rfl

@[simp] theorem State.setAlloc_seq (s : State) (x : Allocator) :
    (s.setAlloc x).seq = s.seq := rfl

@[simp] theorem State.setAlloc_reg (s : State) (x : Allocator) :
    (s.setAlloc x).reg = s.reg := rfl

@[simp] theorem State.setAlloc_alloc (s : State) (x : Allocator) :
    (s.setAlloc x).alloc = x := rfl

@[simp] theorem State.setAlloc_drive (s : State) (x : Allocator) :
    (s.setAlloc x).drive = s.drive := rfl

@[simp] theorem State.setAlloc_locks (s : State) (x : Allocator) :
    (s.setAlloc x).locks = s.locks := rfl

@[simp] theorem State.setAlloc_fan (s : State) (x : Allocator) :
    (s.setAlloc x).fan = s.fan := rfl

@[simp] theorem State.setAlloc_limit (s : State) (x : Allocator) :
    (s.setAlloc x).limit = s.limit := rfl

@[simp] theorem State.setAlloc_link (s : State) (x : Allocator) :
    (s.setAlloc x).link = s.link := rfl

@[simp] theorem State.setAlloc_mail (s : State) (x : Allocator) :
    (s.setAlloc x).mail = s.mail := rfl

@[simp] theorem State.setAlloc_free (s : State) (x : Allocator) :
    (s.setAlloc x).free = s.free := rfl

/-! ### State.setFan -/

@[simp] theorem State.setFan_pending (s : State) (x : Fan) :
    (s.setFan x).pending = s.pending := rfl

@[simp] theorem State.setFan_clock (s : State) (x : Fan) :
    (s.setFan x).clock = s.clock := rfl

@[simp] theorem State.setFan_pins (s : State) (x : Fan) :
    (s.setFan x).pins = s.pins := rfl

@[simp] theorem State.setFan_appliance (s : State) (x : Fan) :
    (s.setFan x).appliance = s.appliance := rfl

@[simp] theorem State.setFan_profiles (s : State) (x : Fan) :
    (s.setFan x).profiles = s.profiles := rfl

@[simp] theorem State.setFan_scanner (s : State) (x : Fan) :
    (s.setFan x).scanner = s.scanner := rfl

@[simp] theorem State.setFan_table (s : State) (x : Fan) :
    (s.setFan x).table = s.table := rfl

@[simp] theorem State.setFan_seq (s : State) (x : Fan) :
    (s.setFan x).seq = s.seq := rfl

@[simp] theorem State.setFan_reg (s : State) (x : Fan) :
    (s.setFan x).reg = s.reg := rfl

@[simp] theorem State.setFan_alloc (s : State) (x : Fan) :
    (s.setFan x).alloc = s.alloc := rfl

@[simp] theorem State.setFan_drive (s : State) (x : Fan) :
    (s.setFan x).drive = s.drive := rfl

@[simp] theorem State.setFan_locks (s : State) (x : Fan) :
    (s.setFan x).locks = s.locks := rfl

@[simp] theorem State.setFan_fan (s : State) (x : Fan) :
    (s.setFan x).fan = x := rfl

@[simp] theorem State.setFan_limit (s : State) (x : Fan) :
    (s.setFan x).limit = s.limit := rfl

@[simp] theorem State.setFan_link (s : State) (x : Fan) :
    (s.setFan x).link = s.link := rfl

@[simp] theorem State.setFan_mail (s : State) (x : Fan) :
    (s.setFan x).mail = s.mail := rfl

@[simp] theorem State.setFan_free (s : State) (x : Fan) :
    (s.setFan x).free = s.free := rfl

/-! ### State.setLink -/

@[simp] theorem State.setLink_pending (s : State) (x : Link) :
    (s.setLink x).pending = s.pending := rfl

@[simp] theorem State.setLink_clock (s : State) (x : Link) :
    (s.setLink x).clock = s.clock := rfl

@[simp] theorem State.setLink_pins (s : State) (x : Link) :
    (s.setLink x).pins = s.pins := rfl

@[simp] theorem State.setLink_appliance (s : State) (x : Link) :
    (s.setLink x).appliance = s.appliance := rfl

@[simp] theorem State.setLink_profiles (s : State) (x : Link) :
    (s.setLink x).profiles = s.profiles := rfl

@[simp] theorem State.setLink_scanner (s : State) (x : Link) :
    (s.setLink x).scanner = s.scanner := rfl

@[simp] theorem State.setLink_table (s : State) (x : Link) :
    (s.setLink x).table = s.table := rfl

@[simp] theorem State.setLink_seq (s : State) (x : Link) :
    (s.setLink x).seq = s.seq := rfl

@[simp] theorem State.setLink_reg (s : State) (x : Link) :
    (s.setLink x).reg = s.reg := rfl

@[simp] theorem State.setLink_alloc (s : State) (x : Link) :
    (s.setLink x).alloc = s.alloc := rfl

@[simp] theorem State.setLink_drive (s : State) (x : Link) :
    (s.setLink x).drive = s.drive := rfl

@[simp] theorem State.setLink_locks (s : State) (x : Link) :
    (s.setLink x).locks = s.locks := rfl

@[simp] theorem State.setLink_fan (s : State) (x : Link) :
    (s.setLink x).fan = s.fan := rfl

@[simp] theorem State.setLink_limit (s : State) (x : Link) :
    (s.setLink x).limit = s.limit := rfl

@[simp] theorem State.setLink_link (s : State) (x : Link) :
    (s.setLink x).link = x := rfl

@[simp] theorem State.setLink_mail (s : State) (x : Link) :
    (s.setLink x).mail = s.mail := rfl

@[simp] theorem State.setLink_free (s : State) (x : Link) :
    (s.setLink x).free = s.free := rfl

/-! ### State.setScanner -/

@[simp] theorem State.setScanner_pending (s : State) (x : Scanner) :
    (s.setScanner x).pending = s.pending := rfl

@[simp] theorem State.setScanner_clock (s : State) (x : Scanner) :
    (s.setScanner x).clock = s.clock := rfl

@[simp] theorem State.setScanner_pins (s : State) (x : Scanner) :
    (s.setScanner x).pins = s.pins := rfl

@[simp] theorem State.setScanner_appliance (s : State) (x : Scanner) :
    (s.setScanner x).appliance = s.appliance := rfl

@[simp] theorem State.setScanner_profiles (s : State) (x : Scanner) :
    (s.setScanner x).profiles = s.profiles := rfl

@[simp] theorem State.setScanner_scanner (s : State) (x : Scanner) :
    (s.setScanner x).scanner = x := rfl

@[simp] theorem State.setScanner_table (s : State) (x : Scanner) :
    (s.setScanner x).table = s.table := rfl

@[simp] theorem State.setScanner_seq (s : State) (x : Scanner) :
    (s.setScanner x).seq = s.seq := rfl

@[simp] theorem State.setScanner_reg (s : State) (x : Scanner) :
    (s.setScanner x).reg = s.reg := rfl

@[simp] theorem State.setScanner_alloc (s : State) (x : Scanner) :
    (s.setScanner x).alloc = s.alloc := rfl

@[simp] theorem State.setScanner_drive (s : State) (x : Scanner) :
    (s.setScanner x).drive = s.drive := rfl

@[simp] theorem State.setScanner_locks (s : State) (x : Scanner) :
    (s.setScanner x).locks = s.locks := rfl

@[simp] theorem State.setScanner_fan (s : State) (x : Scanner) :
    (s.setScanner x).fan = s.fan := rfl

@[simp] theorem State.setScanner_limit (s : State) (x : Scanner) :
    (s.setScanner x).limit = s.limit := rfl

@[simp] theorem State.setScanner_link (s : State) (x : Scanner) :
    (s.setScanner x).link = s.link := rfl

@[simp] theorem State.setScanner_mail (s : State) (x : Scanner) :
    (s.setScanner x).mail = s.mail := rfl

@[simp] theorem State.setScanner_free (s : State) (x : Scanner) :
    (s.setScanner x).free = s.free := rfl

/-! ### State.setRecord -/

@[simp] theorem State.setRecord_pending (s : State) (n : Nat) (r : Option PhaseRecord) :
    (s.setRecord n r).pending = s.pending := rfl

@[simp] theorem State.setRecord_clock (s : State) (n : Nat) (r : Option PhaseRecord) :
    (s.setRecord n r).clock = s.clock := rfl

@[simp] theorem State.setRecord_pins (s : State) (n : Nat) (r : Option PhaseRecord) :
    (s.setRecord n r).pins = s.pins := rfl

@[simp] theorem State.setRecord_appliance (s : State) (n : Nat) (r : Option PhaseRecord) :
    (s.setRecord n r).appliance = s.appliance := rfl

@[simp] theorem State.setRecord_profiles (s : State) (n : Nat) (r : Option PhaseRecord) :
    (s.setRecord n r).profiles = s.profiles := rfl

@[simp] theorem State.setRecord_scanner (s : State) (n : Nat) (r : Option PhaseRecord) :
    (s.setRecord n r).scanner = s.scanner := rfl

@[simp] theorem State.setRecord_table (s : State) (n : Nat) (r : Option PhaseRecord) :
    (s.setRecord n r).table = s.table.setIfInBounds n r := rfl

@[simp] theorem State.setRecord_seq (s : State) (n : Nat) (r : Option PhaseRecord) :
    (s.setRecord n r).seq = s.seq := rfl

@[simp] theorem State.setRecord_reg (s : State) (n : Nat) (r : Option PhaseRecord) :
    (s.setRecord n r).reg = s.reg := rfl

@[simp] theorem State.setRecord_alloc (s : State) (n : Nat) (r : Option PhaseRecord) :
    (s.setRecord n r).alloc = s.alloc := rfl

@[simp] theorem State.setRecord_drive (s : State) (n : Nat) (r : Option PhaseRecord) :
    (s.setRecord n r).drive = s.drive := rfl

@[simp] theorem State.setRecord_locks (s : State) (n : Nat) (r : Option PhaseRecord) :
    (s.setRecord n r).locks = s.locks := rfl

@[simp] theorem State.setRecord_fan (s : State) (n : Nat) (r : Option PhaseRecord) :
    (s.setRecord n r).fan = s.fan := rfl

@[simp] theorem State.setRecord_limit (s : State) (n : Nat) (r : Option PhaseRecord) :
    (s.setRecord n r).limit = s.limit := rfl

@[simp] theorem State.setRecord_link (s : State) (n : Nat) (r : Option PhaseRecord) :
    (s.setRecord n r).link = s.link := rfl

@[simp] theorem State.setRecord_mail (s : State) (n : Nat) (r : Option PhaseRecord) :
    (s.setRecord n r).mail = s.mail := rfl

@[simp] theorem State.setRecord_free (s : State) (n : Nat) (r : Option PhaseRecord) :
    (s.setRecord n r).free = s.free := rfl

/-! ### State.setOutput -/

@[simp] theorem State.setOutput_pending (s : State) (i : Fin 12) (o : OutputRecord) :
    (s.setOutput i o).pending = s.pending := rfl

@[simp] theorem State.setOutput_clock (s : State) (i : Fin 12) (o : OutputRecord) :
    (s.setOutput i o).clock = s.clock := rfl

@[simp] theorem State.setOutput_pins (s : State) (i : Fin 12) (o : OutputRecord) :
    (s.setOutput i o).pins = s.pins := rfl

@[simp] theorem State.setOutput_appliance (s : State) (i : Fin 12) (o : OutputRecord) :
    (s.setOutput i o).appliance = s.appliance := rfl

@[simp] theorem State.setOutput_profiles (s : State) (i : Fin 12) (o : OutputRecord) :
    (s.setOutput i o).profiles = s.profiles := rfl

@[simp] theorem State.setOutput_scanner (s : State) (i : Fin 12) (o : OutputRecord) :
    (s.setOutput i o).scanner = s.scanner := rfl

@[simp] theorem State.setOutput_table (s : State) (i : Fin 12) (o : OutputRecord) :
    (s.setOutput i o).table = s.table := rfl

@[simp] theorem State.setOutput_seq (s : State) (i : Fin 12) (o : OutputRecord) :
    (s.setOutput i o).seq = s.seq := rfl

@[simp] theorem State.setOutput_reg (s : State) (i : Fin 12) (o : OutputRecord) :
    (s.setOutput i o).reg = s.reg := rfl

@[simp] theorem State.setOutput_alloc (s : State) (i : Fin 12) (o : OutputRecord) :
    (s.setOutput i o).alloc = s.alloc := rfl

@[simp] theorem State.setOutput_drive (s : State) (i : Fin 12) (o : OutputRecord) :
    (s.setOutput i o).drive = { s.drive with outputs := s.drive.outputs.set i o } := rfl

@[simp] theorem State.setOutput_locks (s : State) (i : Fin 12) (o : OutputRecord) :
    (s.setOutput i o).locks = s.locks := rfl

@[simp] theorem State.setOutput_fan (s : State) (i : Fin 12) (o : OutputRecord) :
    (s.setOutput i o).fan = s.fan := rfl

@[simp] theorem State.setOutput_limit (s : State) (i : Fin 12) (o : OutputRecord) :
    (s.setOutput i o).limit = s.limit := rfl

@[simp] theorem State.setOutput_link (s : State) (i : Fin 12) (o : OutputRecord) :
    (s.setOutput i o).link = s.link := rfl

@[simp] theorem State.setOutput_mail (s : State) (i : Fin 12) (o : OutputRecord) :
    (s.setOutput i o).mail = s.mail := rfl

@[simp] theorem State.setOutput_free (s : State) (i : Fin 12) (o : OutputRecord) :
    (s.setOutput i o).free = s.free := rfl

end Machine

end Sys2Proof
end

