-- ==== Sys2Proof/Laws/Frames.lean ====
section
/-! SUPPORT. The frame of every shared operation: the blocks whose state it leaves as it was, one lemma an operation, for
use by simp. A field that a lemma does not name is one that the operation may change. -/

namespace Sys2Proof.Machine

/-- What every step of a fold keeps, the fold keeps. -/
theorem foldl_keeps {α β γ : Type} (f : α → γ → α) (g : α → β) (h : ∀ s x, g (f s x) = g s) (l : List γ) (s : α) :
    g (l.foldl f s) = g s := by
  induction l generalizing s with
  | nil => rfl
  | cons x l ih => exact (ih (f s x)).trans (h s x)

/-! ### Ops -/

@[simp] theorem State.queueEvent_frame (s : State) (kind : EventKind) (cavity : Option Cavity) (severity : Nat)
    (detail : Option Nat) (additional : Bool) :
    (s.queueEvent kind cavity severity detail additional).pending = s.pending ∧
    (s.queueEvent kind cavity severity detail additional).clock = s.clock ∧
    (s.queueEvent kind cavity severity detail additional).pins = s.pins ∧
    (s.queueEvent kind cavity severity detail additional).appliance = s.appliance ∧
    (s.queueEvent kind cavity severity detail additional).profiles = s.profiles ∧
    (s.queueEvent kind cavity severity detail additional).scanner = s.scanner ∧
    (s.queueEvent kind cavity severity detail additional).table = s.table ∧
    (s.queueEvent kind cavity severity detail additional).seq = s.seq ∧
    (s.queueEvent kind cavity severity detail additional).reg = s.reg ∧
    (s.queueEvent kind cavity severity detail additional).alloc = s.alloc ∧
    (s.queueEvent kind cavity severity detail additional).drive = s.drive ∧
    (s.queueEvent kind cavity severity detail additional).locks = s.locks ∧
    (s.queueEvent kind cavity severity detail additional).fan = s.fan ∧
    (s.queueEvent kind cavity severity detail additional).limit = s.limit ∧
    (s.queueEvent kind cavity severity detail additional).mail = s.mail ∧
    (s.queueEvent kind cavity severity detail additional).free = s.free :=
  ⟨rfl, rfl, rfl, rfl, rfl, rfl, rfl, rfl, rfl, rfl, rfl, rfl, rfl, rfl, rfl, rfl⟩

@[simp] theorem State.spendCount_frame (s : State) (n : Nat) :
    (s.spendCount n).pending = s.pending ∧ (s.spendCount n).clock = s.clock ∧ (s.spendCount n).pins = s.pins ∧
    (s.spendCount n).appliance = s.appliance ∧ (s.spendCount n).profiles = s.profiles ∧
    (s.spendCount n).scanner = s.scanner ∧ (s.spendCount n).table = s.table ∧ (s.spendCount n).seq = s.seq ∧
    (s.spendCount n).reg = s.reg ∧ (s.spendCount n).alloc = s.alloc ∧ (s.spendCount n).drive = s.drive ∧
    (s.spendCount n).locks = s.locks ∧ (s.spendCount n).fan = s.fan ∧ (s.spendCount n).limit = s.limit ∧
    (s.spendCount n).link = s.link ∧ (s.spendCount n).mail = s.mail := by
  refine ⟨?_, ?_, ?_, ?_, ?_, ?_, ?_, ?_, ?_, ?_, ?_, ?_, ?_, ?_, ?_, ?_⟩ <;>
    (simp only [State.spendCount]; split <;> simp)

@[simp] theorem State.setRecord_frame (s : State) (position : Nat) (r : Option PhaseRecord) :
    (s.setRecord position r).pending = s.pending ∧ (s.setRecord position r).clock = s.clock ∧
    (s.setRecord position r).pins = s.pins ∧ (s.setRecord position r).appliance = s.appliance ∧
    (s.setRecord position r).profiles = s.profiles ∧ (s.setRecord position r).scanner = s.scanner ∧
    (s.setRecord position r).seq = s.seq ∧ (s.setRecord position r).reg = s.reg ∧
    (s.setRecord position r).alloc = s.alloc ∧ (s.setRecord position r).drive = s.drive ∧
    (s.setRecord position r).locks = s.locks ∧ (s.setRecord position r).fan = s.fan ∧
    (s.setRecord position r).limit = s.limit ∧ (s.setRecord position r).link = s.link ∧
    (s.setRecord position r).mail = s.mail ∧ (s.setRecord position r).free = s.free :=
  ⟨rfl, rfl, rfl, rfl, rfl, rfl, rfl, rfl, rfl, rfl, rfl, rfl, rfl, rfl, rfl, rfl⟩

@[simp] theorem State.sendLockNotice_frame (s : State) (c : Cavity) (n : LockNotice) :
    (s.sendLockNotice c n).pending = s.pending ∧ (s.sendLockNotice c n).clock = s.clock ∧
    (s.sendLockNotice c n).pins = s.pins ∧ (s.sendLockNotice c n).appliance = s.appliance ∧
    (s.sendLockNotice c n).profiles = s.profiles ∧ (s.sendLockNotice c n).scanner = s.scanner ∧
    (s.sendLockNotice c n).table = s.table ∧ (s.sendLockNotice c n).seq = s.seq ∧
    (s.sendLockNotice c n).reg = s.reg ∧ (s.sendLockNotice c n).alloc = s.alloc ∧
    (s.sendLockNotice c n).drive = s.drive ∧ (s.sendLockNotice c n).locks = s.locks ∧
    (s.sendLockNotice c n).fan = s.fan ∧ (s.sendLockNotice c n).limit = s.limit ∧
    (s.sendLockNotice c n).link = s.link ∧ (s.sendLockNotice c n).free = s.free :=
  ⟨rfl, rfl, rfl, rfl, rfl, rfl, rfl, rfl, rfl, rfl, rfl, rfl, rfl, rfl, rfl, rfl⟩

@[simp] theorem State.sendTripNotice_frame (s : State) (c : Cavity) :
    (s.sendTripNotice c).pending = s.pending ∧ (s.sendTripNotice c).clock = s.clock ∧
    (s.sendTripNotice c).pins = s.pins ∧ (s.sendTripNotice c).appliance = s.appliance ∧
    (s.sendTripNotice c).profiles = s.profiles ∧ (s.sendTripNotice c).scanner = s.scanner ∧
    (s.sendTripNotice c).table = s.table ∧ (s.sendTripNotice c).seq = s.seq ∧ (s.sendTripNotice c).reg = s.reg ∧
    (s.sendTripNotice c).alloc = s.alloc ∧ (s.sendTripNotice c).drive = s.drive ∧
    (s.sendTripNotice c).locks = s.locks ∧ (s.sendTripNotice c).fan = s.fan ∧ (s.sendTripNotice c).limit = s.limit ∧
    (s.sendTripNotice c).link = s.link ∧ (s.sendTripNotice c).free = s.free :=
  ⟨rfl, rfl, rfl, rfl, rfl, rfl, rfl, rfl, rfl, rfl, rfl, rfl, rfl, rfl, rfl, rfl⟩

@[simp] theorem State.sendWithdrawNotice_frame (s : State) (c : Cavity) :
    (s.sendWithdrawNotice c).pending = s.pending ∧ (s.sendWithdrawNotice c).clock = s.clock ∧
    (s.sendWithdrawNotice c).pins = s.pins ∧ (s.sendWithdrawNotice c).appliance = s.appliance ∧
    (s.sendWithdrawNotice c).profiles = s.profiles ∧ (s.sendWithdrawNotice c).scanner = s.scanner ∧
    (s.sendWithdrawNotice c).table = s.table ∧ (s.sendWithdrawNotice c).seq = s.seq ∧
    (s.sendWithdrawNotice c).reg = s.reg ∧ (s.sendWithdrawNotice c).alloc = s.alloc ∧
    (s.sendWithdrawNotice c).drive = s.drive ∧ (s.sendWithdrawNotice c).locks = s.locks ∧
    (s.sendWithdrawNotice c).fan = s.fan ∧ (s.sendWithdrawNotice c).limit = s.limit ∧
    (s.sendWithdrawNotice c).link = s.link ∧ (s.sendWithdrawNotice c).free = s.free :=
  ⟨rfl, rfl, rfl, rfl, rfl, rfl, rfl, rfl, rfl, rfl, rfl, rfl, rfl, rfl, rfl, rfl⟩

@[simp] theorem State.sendRelayClosing_frame (s : State) (c : Cavity) :
    (s.sendRelayClosing c).pending = s.pending ∧ (s.sendRelayClosing c).clock = s.clock ∧
    (s.sendRelayClosing c).pins = s.pins ∧ (s.sendRelayClosing c).appliance = s.appliance ∧
    (s.sendRelayClosing c).profiles = s.profiles ∧ (s.sendRelayClosing c).scanner = s.scanner ∧
    (s.sendRelayClosing c).table = s.table ∧ (s.sendRelayClosing c).seq = s.seq ∧
    (s.sendRelayClosing c).reg = s.reg ∧ (s.sendRelayClosing c).alloc = s.alloc ∧
    (s.sendRelayClosing c).drive = s.drive ∧ (s.sendRelayClosing c).locks = s.locks ∧
    (s.sendRelayClosing c).fan = s.fan ∧ (s.sendRelayClosing c).limit = s.limit ∧
    (s.sendRelayClosing c).link = s.link ∧ (s.sendRelayClosing c).free = s.free :=
  ⟨rfl, rfl, rfl, rfl, rfl, rfl, rfl, rfl, rfl, rfl, rfl, rfl, rfl, rfl, rfl, rfl⟩

@[simp] theorem State.postRegulation_frame (s : State) (c : Cavity) (r : RegRequest) :
    (s.postRegulation c r).pending = s.pending ∧ (s.postRegulation c r).clock = s.clock ∧
    (s.postRegulation c r).pins = s.pins ∧ (s.postRegulation c r).appliance = s.appliance ∧
    (s.postRegulation c r).profiles = s.profiles ∧ (s.postRegulation c r).scanner = s.scanner ∧
    (s.postRegulation c r).table = s.table ∧ (s.postRegulation c r).seq = s.seq ∧
    (s.postRegulation c r).reg = s.reg ∧ (s.postRegulation c r).alloc = s.alloc ∧
    (s.postRegulation c r).drive = s.drive ∧ (s.postRegulation c r).locks = s.locks ∧
    (s.postRegulation c r).fan = s.fan ∧ (s.postRegulation c r).limit = s.limit ∧
    (s.postRegulation c r).link = s.link ∧ (s.postRegulation c r).free = s.free :=
  ⟨rfl, rfl, rfl, rfl, rfl, rfl, rfl, rfl, rfl, rfl, rfl, rfl, rfl, rfl, rfl, rfl⟩

@[simp] theorem State.sendHeatComplete_frame (s : State) (c : Cavity) (position : Nat) :
    (s.sendHeatComplete c position).pending = s.pending ∧ (s.sendHeatComplete c position).clock = s.clock ∧
    (s.sendHeatComplete c position).pins = s.pins ∧ (s.sendHeatComplete c position).appliance = s.appliance ∧
    (s.sendHeatComplete c position).profiles = s.profiles ∧ (s.sendHeatComplete c position).scanner = s.scanner ∧
    (s.sendHeatComplete c position).table = s.table ∧ (s.sendHeatComplete c position).seq = s.seq ∧
    (s.sendHeatComplete c position).reg = s.reg ∧ (s.sendHeatComplete c position).alloc = s.alloc ∧
    (s.sendHeatComplete c position).drive = s.drive ∧ (s.sendHeatComplete c position).locks = s.locks ∧
    (s.sendHeatComplete c position).fan = s.fan ∧ (s.sendHeatComplete c position).limit = s.limit ∧
    (s.sendHeatComplete c position).link = s.link ∧ (s.sendHeatComplete c position).free = s.free :=
  ⟨rfl, rfl, rfl, rfl, rfl, rfl, rfl, rfl, rfl, rfl, rfl, rfl, rfl, rfl, rfl, rfl⟩

@[simp] theorem State.deliverReading_frame (s : State) (c : Cavity) (r : CavityReading) :
    (s.deliverReading c r).pending = s.pending ∧ (s.deliverReading c r).clock = s.clock ∧
    (s.deliverReading c r).pins = s.pins ∧ (s.deliverReading c r).appliance = s.appliance ∧
    (s.deliverReading c r).profiles = s.profiles ∧ (s.deliverReading c r).scanner = s.scanner ∧
    (s.deliverReading c r).table = s.table ∧ (s.deliverReading c r).seq = s.seq ∧
    (s.deliverReading c r).reg = s.reg ∧ (s.deliverReading c r).alloc = s.alloc ∧
    (s.deliverReading c r).drive = s.drive ∧ (s.deliverReading c r).locks = s.locks ∧
    (s.deliverReading c r).fan = s.fan ∧ (s.deliverReading c r).limit = s.limit ∧
    (s.deliverReading c r).link = s.link ∧ (s.deliverReading c r).free = s.free :=
  ⟨rfl, rfl, rfl, rfl, rfl, rfl, rfl, rfl, rfl, rfl, rfl, rfl, rfl, rfl, rfl, rfl⟩

/-! ### Sensing -/

@[simp] theorem sampleAll_frame (r : Samples) (s : State) :
    (sampleAll r s).pending = s.pending ∧ (sampleAll r s).clock = s.clock ∧ (sampleAll r s).pins = s.pins ∧
    (sampleAll r s).appliance = s.appliance ∧ (sampleAll r s).profiles = s.profiles ∧
    (sampleAll r s).table = s.table ∧ (sampleAll r s).seq = s.seq ∧ (sampleAll r s).reg = s.reg ∧
    (sampleAll r s).alloc = s.alloc ∧ (sampleAll r s).drive = s.drive ∧ (sampleAll r s).locks = s.locks ∧
    (sampleAll r s).fan = s.fan ∧ (sampleAll r s).limit = s.limit ∧ (sampleAll r s).link = s.link ∧
    (sampleAll r s).mail = s.mail ∧ (sampleAll r s).free = s.free :=
  ⟨rfl, rfl, rfl, rfl, rfl, rfl, rfl, rfl, rfl, rfl, rfl, rfl, rfl, rfl, rfl, rfl⟩

@[simp] theorem referenceSecond_frame (s : State) :
    (referenceSecond s).pending = s.pending ∧ (referenceSecond s).clock = s.clock ∧
    (referenceSecond s).pins = s.pins ∧ (referenceSecond s).appliance = s.appliance ∧
    (referenceSecond s).profiles = s.profiles ∧ (referenceSecond s).table = s.table ∧
    (referenceSecond s).seq = s.seq ∧ (referenceSecond s).reg = s.reg ∧ (referenceSecond s).alloc = s.alloc ∧
    (referenceSecond s).drive = s.drive ∧ (referenceSecond s).locks = s.locks ∧ (referenceSecond s).fan = s.fan ∧
    (referenceSecond s).limit = s.limit ∧ (referenceSecond s).mail = s.mail ∧ (referenceSecond s).free = s.free := by
  refine ⟨?_, ?_, ?_, ?_, ?_, ?_, ?_, ?_, ?_, ?_, ?_, ?_, ?_, ?_, ?_⟩ <;>
    (simp only [referenceSecond]; split <;> simp)

@[simp] theorem channelEvent_frame (s : State) (c : Cavity) (k : ProbeKind) (before after : ChannelState) :
    (channelEvent s c k before after).pending = s.pending ∧ (channelEvent s c k before after).clock = s.clock ∧
    (channelEvent s c k before after).pins = s.pins ∧ (channelEvent s c k before after).appliance = s.appliance ∧
    (channelEvent s c k before after).profiles = s.profiles ∧ (channelEvent s c k before after).scanner = s.scanner ∧
    (channelEvent s c k before after).table = s.table ∧ (channelEvent s c k before after).seq = s.seq ∧
    (channelEvent s c k before after).reg = s.reg ∧ (channelEvent s c k before after).alloc = s.alloc ∧
    (channelEvent s c k before after).drive = s.drive ∧ (channelEvent s c k before after).locks = s.locks ∧
    (channelEvent s c k before after).fan = s.fan ∧ (channelEvent s c k before after).limit = s.limit ∧
    (channelEvent s c k before after).mail = s.mail ∧ (channelEvent s c k before after).free = s.free := by
  refine ⟨?_, ?_, ?_, ?_, ?_, ?_, ?_, ?_, ?_, ?_, ?_, ?_, ?_, ?_, ?_, ?_⟩ <;>
    (simp only [channelEvent]; (repeat' split) <;> simp)

@[simp] theorem gradeChannel_frame (s : State) (x : Cavity × ProbeKind) :
    (gradeChannel s x).pending = s.pending ∧ (gradeChannel s x).clock = s.clock ∧ (gradeChannel s x).pins = s.pins ∧
    (gradeChannel s x).appliance = s.appliance ∧ (gradeChannel s x).profiles = s.profiles ∧
    (gradeChannel s x).table = s.table ∧ (gradeChannel s x).seq = s.seq ∧ (gradeChannel s x).reg = s.reg ∧
    (gradeChannel s x).alloc = s.alloc ∧ (gradeChannel s x).drive = s.drive ∧ (gradeChannel s x).locks = s.locks ∧
    (gradeChannel s x).fan = s.fan ∧ (gradeChannel s x).limit = s.limit ∧ (gradeChannel s x).mail = s.mail ∧
    (gradeChannel s x).free = s.free := by
  refine ⟨?_, ?_, ?_, ?_, ?_, ?_, ?_, ?_, ?_, ?_, ?_, ?_, ?_, ?_, ?_⟩ <;> (simp only [gradeChannel]; split <;> simp)

@[simp] theorem deliverCavity_frame (graded : PerCavity Bool) (s : State) (c : Cavity) :
    (deliverCavity graded s c).pending = s.pending ∧ (deliverCavity graded s c).clock = s.clock ∧
    (deliverCavity graded s c).pins = s.pins ∧ (deliverCavity graded s c).appliance = s.appliance ∧
    (deliverCavity graded s c).profiles = s.profiles ∧ (deliverCavity graded s c).table = s.table ∧
    (deliverCavity graded s c).seq = s.seq ∧ (deliverCavity graded s c).reg = s.reg ∧
    (deliverCavity graded s c).alloc = s.alloc ∧ (deliverCavity graded s c).drive = s.drive ∧
    (deliverCavity graded s c).locks = s.locks ∧ (deliverCavity graded s c).fan = s.fan ∧
    (deliverCavity graded s c).limit = s.limit ∧ (deliverCavity graded s c).link = s.link ∧
    (deliverCavity graded s c).free = s.free := by
  refine ⟨?_, ?_, ?_, ?_, ?_, ?_, ?_, ?_, ?_, ?_, ?_, ?_, ?_, ?_, ?_⟩ <;> (simp only [deliverCavity]; split <;> simp)

@[simp] theorem deliverBoard_frame (x : Int) (s : State) :
    (deliverBoard x s).pending = s.pending ∧ (deliverBoard x s).clock = s.clock ∧ (deliverBoard x s).pins = s.pins ∧
    (deliverBoard x s).appliance = s.appliance ∧ (deliverBoard x s).profiles = s.profiles ∧
    (deliverBoard x s).table = s.table ∧ (deliverBoard x s).seq = s.seq ∧ (deliverBoard x s).reg = s.reg ∧
    (deliverBoard x s).alloc = s.alloc ∧ (deliverBoard x s).drive = s.drive ∧ (deliverBoard x s).locks = s.locks ∧
    (deliverBoard x s).fan = s.fan ∧ (deliverBoard x s).limit = s.limit ∧ (deliverBoard x s).link = s.link ∧
    (deliverBoard x s).free = s.free :=
  ⟨rfl, rfl, rfl, rfl, rfl, rfl, rfl, rfl, rfl, rfl, rfl, rfl, rfl, rfl, rfl⟩

@[simp] theorem wholeSecond_frame (board : Int) (s : State) :
    (wholeSecond board s).pending = s.pending ∧ (wholeSecond board s).clock = s.clock ∧
    (wholeSecond board s).pins = s.pins ∧ (wholeSecond board s).appliance = s.appliance ∧
    (wholeSecond board s).profiles = s.profiles ∧ (wholeSecond board s).table = s.table ∧
    (wholeSecond board s).seq = s.seq ∧ (wholeSecond board s).reg = s.reg ∧ (wholeSecond board s).alloc = s.alloc ∧
    (wholeSecond board s).drive = s.drive ∧ (wholeSecond board s).locks = s.locks ∧
    (wholeSecond board s).fan = s.fan ∧ (wholeSecond board s).limit = s.limit ∧ (wholeSecond board s).free = s.free := by
  refine ⟨?_, ?_, ?_, ?_, ?_, ?_, ?_, ?_, ?_, ?_, ?_, ?_, ?_, ?_⟩ <;>
    (unfold wholeSecond; dsimp only; (repeat' split) <;> (try simp) <;> (repeat (first | rfl | (refine (foldl_keeps _ _ (fun s x => by (try dsimp only); (repeat' split) <;> simp) _ _).trans ?_) | (simp; done))))

@[simp] theorem resetChannels_frame (s : State) (c : Cavity) :
    (resetChannels s c).pending = s.pending ∧ (resetChannels s c).clock = s.clock ∧
    (resetChannels s c).pins = s.pins ∧ (resetChannels s c).appliance = s.appliance ∧
    (resetChannels s c).profiles = s.profiles ∧ (resetChannels s c).table = s.table ∧
    (resetChannels s c).seq = s.seq ∧ (resetChannels s c).reg = s.reg ∧ (resetChannels s c).alloc = s.alloc ∧
    (resetChannels s c).drive = s.drive ∧ (resetChannels s c).locks = s.locks ∧ (resetChannels s c).fan = s.fan ∧
    (resetChannels s c).limit = s.limit ∧ (resetChannels s c).link = s.link ∧ (resetChannels s c).mail = s.mail ∧
    (resetChannels s c).free = s.free :=
  ⟨rfl, rfl, rfl, rfl, rfl, rfl, rfl, rfl, rfl, rfl, rfl, rfl, rfl, rfl, rfl, rfl⟩

/-! ### Allocation -/

@[simp] theorem State.setGrants_frame (s : State) (grants : List CavityElement) :
    (s.setGrants grants).pending = s.pending ∧ (s.setGrants grants).clock = s.clock ∧
    (s.setGrants grants).pins = s.pins ∧ (s.setGrants grants).appliance = s.appliance ∧
    (s.setGrants grants).profiles = s.profiles ∧ (s.setGrants grants).scanner = s.scanner ∧
    (s.setGrants grants).table = s.table ∧ (s.setGrants grants).seq = s.seq ∧ (s.setGrants grants).reg = s.reg ∧
    (s.setGrants grants).locks = s.locks ∧ (s.setGrants grants).fan = s.fan ∧ (s.setGrants grants).limit = s.limit ∧
    (s.setGrants grants).link = s.link ∧ (s.setGrants grants).mail = s.mail ∧ (s.setGrants grants).free = s.free :=
  ⟨rfl, rfl, rfl, rfl, rfl, rfl, rfl, rfl, rfl, rfl, rfl, rfl, rfl, rfl, rfl⟩

@[simp] theorem State.dropCavityGrants_frame (s : State) (c : Cavity) :
    (s.dropCavityGrants c).pending = s.pending ∧ (s.dropCavityGrants c).clock = s.clock ∧
    (s.dropCavityGrants c).pins = s.pins ∧ (s.dropCavityGrants c).appliance = s.appliance ∧
    (s.dropCavityGrants c).profiles = s.profiles ∧ (s.dropCavityGrants c).scanner = s.scanner ∧
    (s.dropCavityGrants c).table = s.table ∧ (s.dropCavityGrants c).seq = s.seq ∧
    (s.dropCavityGrants c).reg = s.reg ∧ (s.dropCavityGrants c).locks = s.locks ∧
    (s.dropCavityGrants c).fan = s.fan ∧ (s.dropCavityGrants c).limit = s.limit ∧
    (s.dropCavityGrants c).link = s.link ∧ (s.dropCavityGrants c).mail = s.mail ∧
    (s.dropCavityGrants c).free = s.free := by
  refine ⟨?_, ?_, ?_, ?_, ?_, ?_, ?_, ?_, ?_, ?_, ?_, ?_, ?_, ?_, ?_⟩ <;>
    (simp only [State.dropCavityGrants]; split <;> simp)

@[simp] theorem State.dropGrant_frame (s : State) (x : CavityElement) :
    (s.dropGrant x).pending = s.pending ∧ (s.dropGrant x).clock = s.clock ∧ (s.dropGrant x).pins = s.pins ∧
    (s.dropGrant x).appliance = s.appliance ∧ (s.dropGrant x).profiles = s.profiles ∧
    (s.dropGrant x).scanner = s.scanner ∧ (s.dropGrant x).table = s.table ∧ (s.dropGrant x).seq = s.seq ∧
    (s.dropGrant x).reg = s.reg ∧ (s.dropGrant x).locks = s.locks ∧ (s.dropGrant x).fan = s.fan ∧
    (s.dropGrant x).limit = s.limit ∧ (s.dropGrant x).link = s.link ∧ (s.dropGrant x).mail = s.mail ∧
    (s.dropGrant x).free = s.free := by
  refine ⟨?_, ?_, ?_, ?_, ?_, ?_, ?_, ?_, ?_, ?_, ?_, ?_, ?_, ?_, ?_⟩ <;>
    (simp only [State.dropGrant]; split <;> simp)

@[simp] theorem State.shedGrants_frame (s : State) :
    (s.shedGrants).pending = s.pending ∧ (s.shedGrants).clock = s.clock ∧ (s.shedGrants).pins = s.pins ∧
    (s.shedGrants).appliance = s.appliance ∧ (s.shedGrants).profiles = s.profiles ∧
    (s.shedGrants).scanner = s.scanner ∧ (s.shedGrants).table = s.table ∧ (s.shedGrants).seq = s.seq ∧
    (s.shedGrants).reg = s.reg ∧ (s.shedGrants).locks = s.locks ∧ (s.shedGrants).fan = s.fan ∧
    (s.shedGrants).limit = s.limit ∧ (s.shedGrants).link = s.link ∧ (s.shedGrants).mail = s.mail ∧
    (s.shedGrants).free = s.free := by
  refine ⟨?_, ?_, ?_, ?_, ?_, ?_, ?_, ?_, ?_, ?_, ?_, ?_, ?_, ?_, ?_⟩ <;>
    (simp only [State.shedGrants]; split <;> simp)

@[simp] theorem State.rebudget_frame (s : State) :
    (s.rebudget).pending = s.pending ∧ (s.rebudget).clock = s.clock ∧ (s.rebudget).pins = s.pins ∧
    (s.rebudget).appliance = s.appliance ∧ (s.rebudget).profiles = s.profiles ∧ (s.rebudget).scanner = s.scanner ∧
    (s.rebudget).table = s.table ∧ (s.rebudget).seq = s.seq ∧ (s.rebudget).reg = s.reg ∧
    (s.rebudget).locks = s.locks ∧ (s.rebudget).fan = s.fan ∧ (s.rebudget).limit = s.limit ∧
    (s.rebudget).link = s.link ∧ (s.rebudget).mail = s.mail ∧ (s.rebudget).free = s.free := by
  refine ⟨?_, ?_, ?_, ?_, ?_, ?_, ?_, ?_, ?_, ?_, ?_, ?_, ?_, ?_, ?_⟩ <;> (simp [State.rebudget])

@[simp] theorem State.setDemand_frame (s : State) (c : Cavity) (d : DemandEntry) :
    (s.setDemand c d).pending = s.pending ∧ (s.setDemand c d).clock = s.clock ∧ (s.setDemand c d).pins = s.pins ∧
    (s.setDemand c d).appliance = s.appliance ∧ (s.setDemand c d).profiles = s.profiles ∧
    (s.setDemand c d).scanner = s.scanner ∧ (s.setDemand c d).table = s.table ∧ (s.setDemand c d).seq = s.seq ∧
    (s.setDemand c d).reg = s.reg ∧ (s.setDemand c d).drive = s.drive ∧ (s.setDemand c d).locks = s.locks ∧
    (s.setDemand c d).fan = s.fan ∧ (s.setDemand c d).limit = s.limit ∧ (s.setDemand c d).link = s.link ∧
    (s.setDemand c d).mail = s.mail ∧ (s.setDemand c d).free = s.free :=
  ⟨rfl, rfl, rfl, rfl, rfl, rfl, rfl, rfl, rfl, rfl, rfl, rfl, rfl, rfl, rfl, rfl⟩

@[simp] theorem State.postDemand_frame (s : State) (c : Cavity) (u : Nat) :
    (s.postDemand c u).pending = s.pending ∧ (s.postDemand c u).clock = s.clock ∧ (s.postDemand c u).pins = s.pins ∧
    (s.postDemand c u).appliance = s.appliance ∧ (s.postDemand c u).profiles = s.profiles ∧
    (s.postDemand c u).scanner = s.scanner ∧ (s.postDemand c u).table = s.table ∧ (s.postDemand c u).seq = s.seq ∧
    (s.postDemand c u).reg = s.reg ∧ (s.postDemand c u).drive = s.drive ∧ (s.postDemand c u).locks = s.locks ∧
    (s.postDemand c u).fan = s.fan ∧ (s.postDemand c u).limit = s.limit ∧ (s.postDemand c u).link = s.link ∧
    (s.postDemand c u).mail = s.mail ∧ (s.postDemand c u).free = s.free :=
  ⟨rfl, rfl, rfl, rfl, rfl, rfl, rfl, rfl, rfl, rfl, rfl, rfl, rfl, rfl, rfl, rfl⟩

@[simp] theorem State.writeTier_frame (s : State) (c : Cavity) (t : Tier) :
    (s.writeTier c t).pending = s.pending ∧ (s.writeTier c t).clock = s.clock ∧ (s.writeTier c t).pins = s.pins ∧
    (s.writeTier c t).appliance = s.appliance ∧ (s.writeTier c t).profiles = s.profiles ∧
    (s.writeTier c t).scanner = s.scanner ∧ (s.writeTier c t).table = s.table ∧ (s.writeTier c t).seq = s.seq ∧
    (s.writeTier c t).reg = s.reg ∧ (s.writeTier c t).drive = s.drive ∧ (s.writeTier c t).locks = s.locks ∧
    (s.writeTier c t).fan = s.fan ∧ (s.writeTier c t).limit = s.limit ∧ (s.writeTier c t).link = s.link ∧
    (s.writeTier c t).mail = s.mail ∧ (s.writeTier c t).free = s.free := by
  refine ⟨?_, ?_, ?_, ?_, ?_, ?_, ?_, ?_, ?_, ?_, ?_, ?_, ?_, ?_, ?_, ?_⟩ <;>
    (simp only [State.writeTier]; split <;> simp)

@[simp] theorem State.writeElements_frame (s : State) (c : Cavity) (e : ElementSet) :
    (s.writeElements c e).pending = s.pending ∧ (s.writeElements c e).clock = s.clock ∧
    (s.writeElements c e).pins = s.pins ∧ (s.writeElements c e).appliance = s.appliance ∧
    (s.writeElements c e).profiles = s.profiles ∧ (s.writeElements c e).scanner = s.scanner ∧
    (s.writeElements c e).table = s.table ∧ (s.writeElements c e).seq = s.seq ∧ (s.writeElements c e).reg = s.reg ∧
    (s.writeElements c e).drive = s.drive ∧ (s.writeElements c e).locks = s.locks ∧
    (s.writeElements c e).fan = s.fan ∧ (s.writeElements c e).limit = s.limit ∧ (s.writeElements c e).link = s.link ∧
    (s.writeElements c e).mail = s.mail ∧ (s.writeElements c e).free = s.free :=
  ⟨rfl, rfl, rfl, rfl, rfl, rfl, rfl, rfl, rfl, rfl, rfl, rfl, rfl, rfl, rfl, rfl⟩

@[simp] theorem State.closeSlot_frame (s : State) :
    (s.closeSlot).pending = s.pending ∧ (s.closeSlot).clock = s.clock ∧ (s.closeSlot).pins = s.pins ∧
    (s.closeSlot).appliance = s.appliance ∧ (s.closeSlot).profiles = s.profiles ∧ (s.closeSlot).scanner = s.scanner ∧
    (s.closeSlot).table = s.table ∧ (s.closeSlot).seq = s.seq ∧ (s.closeSlot).reg = s.reg ∧
    (s.closeSlot).drive = s.drive ∧ (s.closeSlot).locks = s.locks ∧ (s.closeSlot).fan = s.fan ∧
    (s.closeSlot).limit = s.limit ∧ (s.closeSlot).link = s.link ∧ (s.closeSlot).mail = s.mail ∧
    (s.closeSlot).free = s.free :=
  ⟨rfl, rfl, rfl, rfl, rfl, rfl, rfl, rfl, rfl, rfl, rfl, rfl, rfl, rfl, rfl, rfl⟩

@[simp] theorem State.advanceSlot_frame (s : State) :
    (s.advanceSlot).pending = s.pending ∧ (s.advanceSlot).clock = s.clock ∧ (s.advanceSlot).pins = s.pins ∧
    (s.advanceSlot).appliance = s.appliance ∧ (s.advanceSlot).profiles = s.profiles ∧
    (s.advanceSlot).scanner = s.scanner ∧ (s.advanceSlot).table = s.table ∧ (s.advanceSlot).seq = s.seq ∧
    (s.advanceSlot).reg = s.reg ∧ (s.advanceSlot).drive = s.drive ∧ (s.advanceSlot).locks = s.locks ∧
    (s.advanceSlot).fan = s.fan ∧ (s.advanceSlot).limit = s.limit ∧ (s.advanceSlot).link = s.link ∧
    (s.advanceSlot).mail = s.mail := by
  refine ⟨?_, ?_, ?_, ?_, ?_, ?_, ?_, ?_, ?_, ?_, ?_, ?_, ?_, ?_, ?_⟩ <;>
    (simp only [State.advanceSlot]; (repeat' split) <;> simp)

@[simp] theorem State.slotWithdrawals_frame (s : State) :
    (s.slotWithdrawals).pending = s.pending ∧ (s.slotWithdrawals).clock = s.clock ∧
    (s.slotWithdrawals).pins = s.pins ∧ (s.slotWithdrawals).appliance = s.appliance ∧
    (s.slotWithdrawals).profiles = s.profiles ∧ (s.slotWithdrawals).scanner = s.scanner ∧
    (s.slotWithdrawals).table = s.table ∧ (s.slotWithdrawals).seq = s.seq ∧ (s.slotWithdrawals).reg = s.reg ∧
    (s.slotWithdrawals).drive = s.drive ∧ (s.slotWithdrawals).locks = s.locks ∧ (s.slotWithdrawals).fan = s.fan ∧
    (s.slotWithdrawals).limit = s.limit ∧ (s.slotWithdrawals).link = s.link ∧ (s.slotWithdrawals).mail = s.mail ∧
    (s.slotWithdrawals).free = s.free :=
  ⟨rfl, rfl, rfl, rfl, rfl, rfl, rfl, rfl, rfl, rfl, rfl, rfl, rfl, rfl, rfl, rfl⟩

@[simp] theorem windowEndCavity_frame (s : State) (c : Cavity) :
    (windowEndCavity s c).pending = s.pending ∧ (windowEndCavity s c).clock = s.clock ∧
    (windowEndCavity s c).pins = s.pins ∧ (windowEndCavity s c).appliance = s.appliance ∧
    (windowEndCavity s c).profiles = s.profiles ∧ (windowEndCavity s c).scanner = s.scanner ∧
    (windowEndCavity s c).table = s.table ∧ (windowEndCavity s c).seq = s.seq ∧ (windowEndCavity s c).reg = s.reg ∧
    (windowEndCavity s c).drive = s.drive ∧ (windowEndCavity s c).locks = s.locks ∧
    (windowEndCavity s c).fan = s.fan ∧ (windowEndCavity s c).limit = s.limit ∧ (windowEndCavity s c).mail = s.mail ∧
    (windowEndCavity s c).free = s.free := by
  refine ⟨?_, ?_, ?_, ?_, ?_, ?_, ?_, ?_, ?_, ?_, ?_, ?_, ?_, ?_, ?_⟩ <;>
    (simp only [windowEndCavity]; (repeat' split) <;> simp)

@[simp] theorem State.windowEnd_frame (s : State) :
    (s.windowEnd).pending = s.pending ∧ (s.windowEnd).clock = s.clock ∧ (s.windowEnd).pins = s.pins ∧
    (s.windowEnd).appliance = s.appliance ∧ (s.windowEnd).profiles = s.profiles ∧ (s.windowEnd).scanner = s.scanner ∧
    (s.windowEnd).table = s.table ∧ (s.windowEnd).seq = s.seq ∧ (s.windowEnd).reg = s.reg ∧
    (s.windowEnd).drive = s.drive ∧ (s.windowEnd).locks = s.locks ∧ (s.windowEnd).fan = s.fan ∧
    (s.windowEnd).limit = s.limit ∧ (s.windowEnd).mail = s.mail ∧ (s.windowEnd).free = s.free := by
  refine ⟨?_, ?_, ?_, ?_, ?_, ?_, ?_, ?_, ?_, ?_, ?_, ?_, ?_, ?_, ?_⟩ <;> (simp [State.windowEnd, Cavity.all])

@[simp] theorem State.windowStart_frame (s : State) :
    (s.windowStart).pending = s.pending ∧ (s.windowStart).clock = s.clock ∧ (s.windowStart).pins = s.pins ∧
    (s.windowStart).appliance = s.appliance ∧ (s.windowStart).profiles = s.profiles ∧
    (s.windowStart).scanner = s.scanner ∧ (s.windowStart).table = s.table ∧ (s.windowStart).seq = s.seq ∧
    (s.windowStart).reg = s.reg ∧ (s.windowStart).drive = s.drive ∧ (s.windowStart).locks = s.locks ∧
    (s.windowStart).fan = s.fan ∧ (s.windowStart).limit = s.limit ∧ (s.windowStart).link = s.link ∧
    (s.windowStart).mail = s.mail ∧ (s.windowStart).free = s.free :=
  ⟨rfl, rfl, rfl, rfl, rfl, rfl, rfl, rfl, rfl, rfl, rfl, rfl, rfl, rfl, rfl, rfl⟩

@[simp] theorem State.grantSlot_frame (s : State) :
    (s.grantSlot).pending = s.pending ∧ (s.grantSlot).clock = s.clock ∧ (s.grantSlot).pins = s.pins ∧
    (s.grantSlot).appliance = s.appliance ∧ (s.grantSlot).profiles = s.profiles ∧ (s.grantSlot).scanner = s.scanner ∧
    (s.grantSlot).table = s.table ∧ (s.grantSlot).seq = s.seq ∧ (s.grantSlot).reg = s.reg ∧
    (s.grantSlot).drive = s.drive ∧ (s.grantSlot).locks = s.locks ∧ (s.grantSlot).fan = s.fan ∧
    (s.grantSlot).limit = s.limit ∧ (s.grantSlot).link = s.link ∧ (s.grantSlot).mail = s.mail ∧
    (s.grantSlot).free = s.free :=
  ⟨rfl, rfl, rfl, rfl, rfl, rfl, rfl, rfl, rfl, rfl, rfl, rfl, rfl, rfl, rfl, rfl⟩

@[simp] theorem State.handOver_frame (s : State) :
    (s.handOver).pending = s.pending ∧ (s.handOver).clock = s.clock ∧ (s.handOver).pins = s.pins ∧
    (s.handOver).appliance = s.appliance ∧ (s.handOver).profiles = s.profiles ∧ (s.handOver).scanner = s.scanner ∧
    (s.handOver).table = s.table ∧ (s.handOver).seq = s.seq ∧ (s.handOver).reg = s.reg ∧
    (s.handOver).alloc = s.alloc ∧ (s.handOver).locks = s.locks ∧ (s.handOver).fan = s.fan ∧
    (s.handOver).limit = s.limit ∧ (s.handOver).link = s.link ∧ (s.handOver).mail = s.mail ∧
    (s.handOver).free = s.free :=
  ⟨rfl, rfl, rfl, rfl, rfl, rfl, rfl, rfl, rfl, rfl, rfl, rfl, rfl, rfl, rfl, rfl⟩

@[simp] theorem State.windowWork_frame (s : State) (first : Bool) :
    (s.windowWork first).pending = s.pending ∧ (s.windowWork first).clock = s.clock ∧
    (s.windowWork first).pins = s.pins ∧ (s.windowWork first).appliance = s.appliance ∧
    (s.windowWork first).profiles = s.profiles ∧ (s.windowWork first).scanner = s.scanner ∧
    (s.windowWork first).table = s.table ∧ (s.windowWork first).seq = s.seq ∧ (s.windowWork first).reg = s.reg ∧
    (s.windowWork first).drive = s.drive ∧ (s.windowWork first).locks = s.locks ∧ (s.windowWork first).fan = s.fan ∧
    (s.windowWork first).limit = s.limit ∧ (s.windowWork first).mail = s.mail ∧ (s.windowWork first).free = s.free := by
  refine ⟨?_, ?_, ?_, ?_, ?_, ?_, ?_, ?_, ?_, ?_, ?_, ?_, ?_, ?_, ?_⟩ <;>
    (simp only [State.windowWork]; (repeat' split) <;> simp)

@[simp] theorem takeSlot_frame (s : State) :
    (takeSlot s).pending = s.pending ∧ (takeSlot s).clock = s.clock ∧ (takeSlot s).pins = s.pins ∧
    (takeSlot s).appliance = s.appliance ∧ (takeSlot s).profiles = s.profiles ∧ (takeSlot s).scanner = s.scanner ∧
    (takeSlot s).table = s.table ∧ (takeSlot s).seq = s.seq ∧ (takeSlot s).reg = s.reg ∧
    (takeSlot s).locks = s.locks ∧ (takeSlot s).fan = s.fan ∧ (takeSlot s).limit = s.limit ∧
    (takeSlot s).mail = s.mail := by
  refine ⟨?_, ?_, ?_, ?_, ?_, ?_, ?_, ?_, ?_, ?_, ?_, ?_, ?_⟩ <;> (simp [takeSlot])

@[simp] theorem takeWithdrawNotice_frame (c : Cavity) (s : State) :
    (takeWithdrawNotice c s).pending = s.pending ∧ (takeWithdrawNotice c s).clock = s.clock ∧
    (takeWithdrawNotice c s).pins = s.pins ∧ (takeWithdrawNotice c s).appliance = s.appliance ∧
    (takeWithdrawNotice c s).profiles = s.profiles ∧ (takeWithdrawNotice c s).scanner = s.scanner ∧
    (takeWithdrawNotice c s).table = s.table ∧ (takeWithdrawNotice c s).seq = s.seq ∧
    (takeWithdrawNotice c s).reg = s.reg ∧ (takeWithdrawNotice c s).locks = s.locks ∧
    (takeWithdrawNotice c s).fan = s.fan ∧ (takeWithdrawNotice c s).limit = s.limit ∧
    (takeWithdrawNotice c s).link = s.link ∧ (takeWithdrawNotice c s).free = s.free := by
  refine ⟨?_, ?_, ?_, ?_, ?_, ?_, ?_, ?_, ?_, ?_, ?_, ?_, ?_, ?_⟩ <;> (simp only [takeWithdrawNotice]; split <;> simp)

@[simp] theorem State.withdrawRequests_frame (s : State) (c : Cavity) :
    (s.withdrawRequests c).pending = s.pending ∧ (s.withdrawRequests c).clock = s.clock ∧
    (s.withdrawRequests c).pins = s.pins ∧ (s.withdrawRequests c).appliance = s.appliance ∧
    (s.withdrawRequests c).profiles = s.profiles ∧ (s.withdrawRequests c).scanner = s.scanner ∧
    (s.withdrawRequests c).table = s.table ∧ (s.withdrawRequests c).seq = s.seq ∧
    (s.withdrawRequests c).reg = s.reg ∧ (s.withdrawRequests c).drive = s.drive ∧
    (s.withdrawRequests c).locks = s.locks ∧ (s.withdrawRequests c).fan = s.fan ∧
    (s.withdrawRequests c).limit = s.limit ∧ (s.withdrawRequests c).link = s.link ∧
    (s.withdrawRequests c).mail = s.mail ∧ (s.withdrawRequests c).free = s.free :=
  ⟨rfl, rfl, rfl, rfl, rfl, rfl, rfl, rfl, rfl, rfl, rfl, rfl, rfl, rfl, rfl, rfl⟩

@[simp] theorem State.tripWithdraw_frame (s : State) (c : Cavity) :
    (s.tripWithdraw c).pending = s.pending ∧ (s.tripWithdraw c).clock = s.clock ∧ (s.tripWithdraw c).pins = s.pins ∧
    (s.tripWithdraw c).appliance = s.appliance ∧ (s.tripWithdraw c).profiles = s.profiles ∧
    (s.tripWithdraw c).scanner = s.scanner ∧ (s.tripWithdraw c).table = s.table ∧ (s.tripWithdraw c).seq = s.seq ∧
    (s.tripWithdraw c).reg = s.reg ∧ (s.tripWithdraw c).locks = s.locks ∧ (s.tripWithdraw c).fan = s.fan ∧
    (s.tripWithdraw c).limit = s.limit ∧ (s.tripWithdraw c).link = s.link ∧ (s.tripWithdraw c).mail = s.mail ∧
    (s.tripWithdraw c).free = s.free := by
  refine ⟨?_, ?_, ?_, ?_, ?_, ?_, ?_, ?_, ?_, ?_, ?_, ?_, ?_, ?_, ?_⟩ <;> (simp [State.tripWithdraw])

@[simp] theorem State.rebuildRequests_frame (s : State) (c : Cavity) :
    (s.rebuildRequests c).pending = s.pending ∧ (s.rebuildRequests c).clock = s.clock ∧
    (s.rebuildRequests c).pins = s.pins ∧ (s.rebuildRequests c).appliance = s.appliance ∧
    (s.rebuildRequests c).profiles = s.profiles ∧ (s.rebuildRequests c).scanner = s.scanner ∧
    (s.rebuildRequests c).table = s.table ∧ (s.rebuildRequests c).seq = s.seq ∧ (s.rebuildRequests c).reg = s.reg ∧
    (s.rebuildRequests c).locks = s.locks ∧ (s.rebuildRequests c).fan = s.fan ∧
    (s.rebuildRequests c).limit = s.limit ∧ (s.rebuildRequests c).link = s.link ∧
    (s.rebuildRequests c).mail = s.mail ∧ (s.rebuildRequests c).free = s.free := by
  refine ⟨?_, ?_, ?_, ?_, ?_, ?_, ?_, ?_, ?_, ?_, ?_, ?_, ?_, ?_, ?_⟩ <;> (simp [State.rebuildRequests])

@[simp] theorem State.disableAlloc_frame (s : State) (c : Cavity) :
    (s.disableAlloc c).pending = s.pending ∧ (s.disableAlloc c).clock = s.clock ∧ (s.disableAlloc c).pins = s.pins ∧
    (s.disableAlloc c).appliance = s.appliance ∧ (s.disableAlloc c).profiles = s.profiles ∧
    (s.disableAlloc c).scanner = s.scanner ∧ (s.disableAlloc c).table = s.table ∧ (s.disableAlloc c).seq = s.seq ∧
    (s.disableAlloc c).reg = s.reg ∧ (s.disableAlloc c).locks = s.locks ∧ (s.disableAlloc c).fan = s.fan ∧
    (s.disableAlloc c).limit = s.limit ∧ (s.disableAlloc c).link = s.link ∧ (s.disableAlloc c).mail = s.mail ∧
    (s.disableAlloc c).free = s.free := by
  refine ⟨?_, ?_, ?_, ?_, ?_, ?_, ?_, ?_, ?_, ?_, ?_, ?_, ?_, ?_, ?_⟩ <;> (simp [State.disableAlloc])

@[simp] theorem State.enableAlloc_frame (s : State) (c : Cavity) :
    (s.enableAlloc c).pending = s.pending ∧ (s.enableAlloc c).clock = s.clock ∧ (s.enableAlloc c).pins = s.pins ∧
    (s.enableAlloc c).appliance = s.appliance ∧ (s.enableAlloc c).profiles = s.profiles ∧
    (s.enableAlloc c).scanner = s.scanner ∧ (s.enableAlloc c).table = s.table ∧ (s.enableAlloc c).seq = s.seq ∧
    (s.enableAlloc c).reg = s.reg ∧ (s.enableAlloc c).locks = s.locks ∧ (s.enableAlloc c).fan = s.fan ∧
    (s.enableAlloc c).limit = s.limit ∧ (s.enableAlloc c).link = s.link ∧ (s.enableAlloc c).mail = s.mail ∧
    (s.enableAlloc c).free = s.free := by
  refine ⟨?_, ?_, ?_, ?_, ?_, ?_, ?_, ?_, ?_, ?_, ?_, ?_, ?_, ?_, ?_⟩ <;> (simp [State.enableAlloc])

/-! ### Relays -/

@[simp] theorem State.openRelay_frame (s : State) (c : Cavity) :
    (s.openRelay c).pending = s.pending ∧ (s.openRelay c).clock = s.clock ∧ (s.openRelay c).pins = s.pins ∧
    (s.openRelay c).appliance = s.appliance ∧ (s.openRelay c).profiles = s.profiles ∧
    (s.openRelay c).scanner = s.scanner ∧ (s.openRelay c).table = s.table ∧ (s.openRelay c).seq = s.seq ∧
    (s.openRelay c).reg = s.reg ∧ (s.openRelay c).alloc = s.alloc ∧ (s.openRelay c).locks = s.locks ∧
    (s.openRelay c).fan = s.fan ∧ (s.openRelay c).limit = s.limit ∧ (s.openRelay c).link = s.link ∧
    (s.openRelay c).mail = s.mail ∧ (s.openRelay c).free = s.free := by
  refine ⟨?_, ?_, ?_, ?_, ?_, ?_, ?_, ?_, ?_, ?_, ?_, ?_, ?_, ?_, ?_, ?_⟩ <;>
    (simp only [State.openRelay]; split <;> simp)

@[simp] theorem State.setConvection_frame (s : State) (c : Cavity) (on : Bool) :
    (s.setConvection c on).pending = s.pending ∧ (s.setConvection c on).clock = s.clock ∧
    (s.setConvection c on).pins = s.pins ∧ (s.setConvection c on).appliance = s.appliance ∧
    (s.setConvection c on).profiles = s.profiles ∧ (s.setConvection c on).scanner = s.scanner ∧
    (s.setConvection c on).table = s.table ∧ (s.setConvection c on).seq = s.seq ∧
    (s.setConvection c on).reg = s.reg ∧ (s.setConvection c on).alloc = s.alloc ∧
    (s.setConvection c on).drive = s.drive ∧ (s.setConvection c on).locks = s.locks ∧
    (s.setConvection c on).limit = s.limit ∧ (s.setConvection c on).link = s.link ∧
    (s.setConvection c on).mail = s.mail ∧ (s.setConvection c on).free = s.free :=
  ⟨rfl, rfl, rfl, rfl, rfl, rfl, rfl, rfl, rfl, rfl, rfl, rfl, rfl, rfl, rfl, rfl⟩

/-! ### Supervision -/

@[simp] theorem State.trip_frame (s : State) (c : Cavity) (cause : Cause) :
    (s.trip c cause).pending = s.pending ∧ (s.trip c cause).clock = s.clock ∧ (s.trip c cause).pins = s.pins ∧
    (s.trip c cause).appliance = s.appliance ∧ (s.trip c cause).profiles = s.profiles ∧
    (s.trip c cause).scanner = s.scanner ∧ (s.trip c cause).table = s.table ∧ (s.trip c cause).seq = s.seq ∧
    (s.trip c cause).reg = s.reg ∧ (s.trip c cause).locks = s.locks ∧ (s.trip c cause).fan = s.fan ∧
    (s.trip c cause).free = s.free := by
  refine ⟨?_, ?_, ?_, ?_, ?_, ?_, ?_, ?_, ?_, ?_, ?_, ?_⟩ <;> (simp [State.trip])

@[simp] theorem State.laterCause_frame (s : State) (c : Cavity) (r : TripRecord) (cause : Cause) :
    (s.laterCause c r cause).pending = s.pending ∧ (s.laterCause c r cause).clock = s.clock ∧
    (s.laterCause c r cause).pins = s.pins ∧ (s.laterCause c r cause).appliance = s.appliance ∧
    (s.laterCause c r cause).profiles = s.profiles ∧ (s.laterCause c r cause).scanner = s.scanner ∧
    (s.laterCause c r cause).table = s.table ∧ (s.laterCause c r cause).seq = s.seq ∧
    (s.laterCause c r cause).reg = s.reg ∧ (s.laterCause c r cause).alloc = s.alloc ∧
    (s.laterCause c r cause).drive = s.drive ∧ (s.laterCause c r cause).locks = s.locks ∧
    (s.laterCause c r cause).fan = s.fan ∧ (s.laterCause c r cause).mail = s.mail ∧
    (s.laterCause c r cause).free = s.free := by
  refine ⟨?_, ?_, ?_, ?_, ?_, ?_, ?_, ?_, ?_, ?_, ?_, ?_, ?_, ?_, ?_⟩ <;>
    (simp only [State.laterCause]; split <;> simp)

@[simp] theorem State.raise_frame (s : State) (c : Cavity) (cause : Cause) :
    (s.raise c cause).pending = s.pending ∧ (s.raise c cause).clock = s.clock ∧ (s.raise c cause).pins = s.pins ∧
    (s.raise c cause).appliance = s.appliance ∧ (s.raise c cause).profiles = s.profiles ∧
    (s.raise c cause).scanner = s.scanner ∧ (s.raise c cause).table = s.table ∧ (s.raise c cause).seq = s.seq ∧
    (s.raise c cause).reg = s.reg ∧ (s.raise c cause).locks = s.locks ∧ (s.raise c cause).fan = s.fan ∧
    (s.raise c cause).free = s.free := by
  refine ⟨?_, ?_, ?_, ?_, ?_, ?_, ?_, ?_, ?_, ?_, ?_, ?_⟩ <;> (simp only [State.raise]; (repeat' split) <;> simp)

@[simp] theorem State.raiseForEnabled_frame (s : State) (cause : Cause) :
    (s.raiseForEnabled cause).pending = s.pending ∧ (s.raiseForEnabled cause).clock = s.clock ∧
    (s.raiseForEnabled cause).pins = s.pins ∧ (s.raiseForEnabled cause).appliance = s.appliance ∧
    (s.raiseForEnabled cause).profiles = s.profiles ∧ (s.raiseForEnabled cause).scanner = s.scanner ∧
    (s.raiseForEnabled cause).table = s.table ∧ (s.raiseForEnabled cause).seq = s.seq ∧
    (s.raiseForEnabled cause).reg = s.reg ∧ (s.raiseForEnabled cause).locks = s.locks ∧
    (s.raiseForEnabled cause).fan = s.fan ∧ (s.raiseForEnabled cause).free = s.free := by
  refine ⟨?_, ?_, ?_, ?_, ?_, ?_, ?_, ?_, ?_, ?_, ?_, ?_⟩ <;>
    (unfold State.raiseForEnabled; exact foldl_keeps _ _ (fun s x => by (try dsimp only); (repeat' split) <;> simp) _ _)

@[simp] theorem State.storeReading_frame (s : State) (c : Cavity) (r : CavityReading) :
    (s.storeReading c r).pending = s.pending ∧ (s.storeReading c r).clock = s.clock ∧
    (s.storeReading c r).pins = s.pins ∧ (s.storeReading c r).appliance = s.appliance ∧
    (s.storeReading c r).profiles = s.profiles ∧ (s.storeReading c r).scanner = s.scanner ∧
    (s.storeReading c r).table = s.table ∧ (s.storeReading c r).seq = s.seq ∧ (s.storeReading c r).reg = s.reg ∧
    (s.storeReading c r).alloc = s.alloc ∧ (s.storeReading c r).drive = s.drive ∧
    (s.storeReading c r).locks = s.locks ∧ (s.storeReading c r).fan = s.fan ∧ (s.storeReading c r).link = s.link ∧
    (s.storeReading c r).mail = s.mail ∧ (s.storeReading c r).free = s.free :=
  ⟨rfl, rfl, rfl, rfl, rfl, rfl, rfl, rfl, rfl, rfl, rfl, rfl, rfl, rfl, rfl, rfl⟩

@[simp] theorem State.raiseIf_frame (s : State) (b : Bool) (c : Cavity) (cause : Cause) :
    (s.raiseIf b c cause).pending = s.pending ∧ (s.raiseIf b c cause).clock = s.clock ∧
    (s.raiseIf b c cause).pins = s.pins ∧ (s.raiseIf b c cause).appliance = s.appliance ∧
    (s.raiseIf b c cause).profiles = s.profiles ∧ (s.raiseIf b c cause).scanner = s.scanner ∧
    (s.raiseIf b c cause).table = s.table ∧ (s.raiseIf b c cause).seq = s.seq ∧ (s.raiseIf b c cause).reg = s.reg ∧
    (s.raiseIf b c cause).locks = s.locks ∧ (s.raiseIf b c cause).fan = s.fan ∧ (s.raiseIf b c cause).free = s.free := by
  refine ⟨?_, ?_, ?_, ?_, ?_, ?_, ?_, ?_, ?_, ?_, ?_, ?_⟩ <;> (simp only [State.raiseIf]; split <;> simp)

@[simp] theorem State.superviseReading_frame (s : State) (c : Cavity) (r : CavityReading) :
    (s.superviseReading c r).pending = s.pending ∧ (s.superviseReading c r).clock = s.clock ∧
    (s.superviseReading c r).pins = s.pins ∧ (s.superviseReading c r).appliance = s.appliance ∧
    (s.superviseReading c r).profiles = s.profiles ∧ (s.superviseReading c r).scanner = s.scanner ∧
    (s.superviseReading c r).table = s.table ∧ (s.superviseReading c r).seq = s.seq ∧
    (s.superviseReading c r).reg = s.reg ∧ (s.superviseReading c r).locks = s.locks ∧
    (s.superviseReading c r).fan = s.fan ∧ (s.superviseReading c r).free = s.free := by
  refine ⟨?_, ?_, ?_, ?_, ?_, ?_, ?_, ?_, ?_, ?_, ?_, ?_⟩ <;> (simp [State.superviseReading])

@[simp] theorem takeSupervisorReading_frame (c : Cavity) (s : State) :
    (takeSupervisorReading c s).pending = s.pending ∧ (takeSupervisorReading c s).clock = s.clock ∧
    (takeSupervisorReading c s).pins = s.pins ∧ (takeSupervisorReading c s).appliance = s.appliance ∧
    (takeSupervisorReading c s).profiles = s.profiles ∧ (takeSupervisorReading c s).scanner = s.scanner ∧
    (takeSupervisorReading c s).table = s.table ∧ (takeSupervisorReading c s).seq = s.seq ∧
    (takeSupervisorReading c s).reg = s.reg ∧ (takeSupervisorReading c s).locks = s.locks ∧
    (takeSupervisorReading c s).fan = s.fan ∧ (takeSupervisorReading c s).free = s.free := by
  refine ⟨?_, ?_, ?_, ?_, ?_, ?_, ?_, ?_, ?_, ?_, ?_, ?_⟩ <;> (simp only [takeSupervisorReading]; split <;> simp)

@[simp] theorem State.superviseBoard_frame (s : State) (b : Int) :
    (s.superviseBoard b).pending = s.pending ∧ (s.superviseBoard b).clock = s.clock ∧
    (s.superviseBoard b).pins = s.pins ∧ (s.superviseBoard b).appliance = s.appliance ∧
    (s.superviseBoard b).profiles = s.profiles ∧ (s.superviseBoard b).scanner = s.scanner ∧
    (s.superviseBoard b).table = s.table ∧ (s.superviseBoard b).seq = s.seq ∧ (s.superviseBoard b).reg = s.reg ∧
    (s.superviseBoard b).locks = s.locks ∧ (s.superviseBoard b).fan = s.fan ∧ (s.superviseBoard b).free = s.free := by
  refine ⟨?_, ?_, ?_, ?_, ?_, ?_, ?_, ?_, ?_, ?_, ?_, ?_⟩ <;> (simp only [State.superviseBoard]; split <;> simp)

@[simp] theorem takeSupervisorBoard_frame (s : State) :
    (takeSupervisorBoard s).pending = s.pending ∧ (takeSupervisorBoard s).clock = s.clock ∧
    (takeSupervisorBoard s).pins = s.pins ∧ (takeSupervisorBoard s).appliance = s.appliance ∧
    (takeSupervisorBoard s).profiles = s.profiles ∧ (takeSupervisorBoard s).scanner = s.scanner ∧
    (takeSupervisorBoard s).table = s.table ∧ (takeSupervisorBoard s).seq = s.seq ∧
    (takeSupervisorBoard s).reg = s.reg ∧ (takeSupervisorBoard s).locks = s.locks ∧
    (takeSupervisorBoard s).fan = s.fan ∧ (takeSupervisorBoard s).free = s.free := by
  refine ⟨?_, ?_, ?_, ?_, ?_, ?_, ?_, ?_, ?_, ?_, ?_, ?_⟩ <;> (simp only [takeSupervisorBoard]; split <;> simp)

@[simp] theorem takeRelayClosing_frame (c : Cavity) (s : State) :
    (takeRelayClosing c s).pending = s.pending ∧ (takeRelayClosing c s).clock = s.clock ∧
    (takeRelayClosing c s).pins = s.pins ∧ (takeRelayClosing c s).appliance = s.appliance ∧
    (takeRelayClosing c s).profiles = s.profiles ∧ (takeRelayClosing c s).scanner = s.scanner ∧
    (takeRelayClosing c s).table = s.table ∧ (takeRelayClosing c s).seq = s.seq ∧
    (takeRelayClosing c s).reg = s.reg ∧ (takeRelayClosing c s).locks = s.locks ∧
    (takeRelayClosing c s).fan = s.fan ∧ (takeRelayClosing c s).free = s.free := by
  refine ⟨?_, ?_, ?_, ?_, ?_, ?_, ?_, ?_, ?_, ?_, ?_, ?_⟩ <;> (simp only [takeRelayClosing]; split <;> simp)

@[simp] theorem changeCutout_frame (c : Cavity) (value : Cutout) (s : State) :
    (changeCutout c value s).pending = s.pending ∧ (changeCutout c value s).clock = s.clock ∧
    (changeCutout c value s).appliance = s.appliance ∧ (changeCutout c value s).profiles = s.profiles ∧
    (changeCutout c value s).scanner = s.scanner ∧ (changeCutout c value s).table = s.table ∧
    (changeCutout c value s).seq = s.seq ∧ (changeCutout c value s).reg = s.reg ∧
    (changeCutout c value s).locks = s.locks ∧ (changeCutout c value s).fan = s.fan ∧
    (changeCutout c value s).free = s.free := by
  refine ⟨?_, ?_, ?_, ?_, ?_, ?_, ?_, ?_, ?_, ?_, ?_⟩ <;> (simp only [changeCutout]; split <;> simp)

@[simp] theorem State.disableLimit_frame (s : State) (c : Cavity) :
    (s.disableLimit c).pending = s.pending ∧ (s.disableLimit c).clock = s.clock ∧ (s.disableLimit c).pins = s.pins ∧
    (s.disableLimit c).appliance = s.appliance ∧ (s.disableLimit c).profiles = s.profiles ∧
    (s.disableLimit c).scanner = s.scanner ∧ (s.disableLimit c).table = s.table ∧ (s.disableLimit c).seq = s.seq ∧
    (s.disableLimit c).reg = s.reg ∧ (s.disableLimit c).alloc = s.alloc ∧ (s.disableLimit c).drive = s.drive ∧
    (s.disableLimit c).locks = s.locks ∧ (s.disableLimit c).fan = s.fan ∧ (s.disableLimit c).link = s.link ∧
    (s.disableLimit c).mail = s.mail ∧ (s.disableLimit c).free = s.free :=
  ⟨rfl, rfl, rfl, rfl, rfl, rfl, rfl, rfl, rfl, rfl, rfl, rfl, rfl, rfl, rfl, rfl⟩

@[simp] theorem State.enableLimit_frame (s : State) (c : Cavity) :
    (s.enableLimit c).pending = s.pending ∧ (s.enableLimit c).clock = s.clock ∧ (s.enableLimit c).pins = s.pins ∧
    (s.enableLimit c).appliance = s.appliance ∧ (s.enableLimit c).profiles = s.profiles ∧
    (s.enableLimit c).scanner = s.scanner ∧ (s.enableLimit c).table = s.table ∧ (s.enableLimit c).seq = s.seq ∧
    (s.enableLimit c).reg = s.reg ∧ (s.enableLimit c).alloc = s.alloc ∧ (s.enableLimit c).drive = s.drive ∧
    (s.enableLimit c).locks = s.locks ∧ (s.enableLimit c).fan = s.fan ∧ (s.enableLimit c).link = s.link ∧
    (s.enableLimit c).mail = s.mail ∧ (s.enableLimit c).free = s.free :=
  ⟨rfl, rfl, rfl, rfl, rfl, rfl, rfl, rfl, rfl, rfl, rfl, rfl, rfl, rfl, rfl, rfl⟩

/-! ### Drive -/

@[simp] theorem State.closeRelay_frame (s : State) (c : Cavity) :
    (s.closeRelay c).pending = s.pending ∧ (s.closeRelay c).clock = s.clock ∧ (s.closeRelay c).pins = s.pins ∧
    (s.closeRelay c).appliance = s.appliance ∧ (s.closeRelay c).profiles = s.profiles ∧
    (s.closeRelay c).scanner = s.scanner ∧ (s.closeRelay c).table = s.table ∧ (s.closeRelay c).seq = s.seq ∧
    (s.closeRelay c).reg = s.reg ∧ (s.closeRelay c).locks = s.locks ∧ (s.closeRelay c).fan = s.fan ∧
    (s.closeRelay c).free = s.free := by
  refine ⟨?_, ?_, ?_, ?_, ?_, ?_, ?_, ?_, ?_, ?_, ?_, ?_⟩ <;> (simp only [State.closeRelay]; (repeat' split) <;> simp)

@[simp] theorem State.sampleLoad_frame (s : State) (j : Judgement) :
    (s.sampleLoad j).pending = s.pending ∧ (s.sampleLoad j).clock = s.clock ∧ (s.sampleLoad j).pins = s.pins ∧
    (s.sampleLoad j).appliance = s.appliance ∧ (s.sampleLoad j).profiles = s.profiles ∧
    (s.sampleLoad j).scanner = s.scanner ∧ (s.sampleLoad j).table = s.table ∧ (s.sampleLoad j).seq = s.seq ∧
    (s.sampleLoad j).reg = s.reg ∧ (s.sampleLoad j).alloc = s.alloc ∧ (s.sampleLoad j).locks = s.locks ∧
    (s.sampleLoad j).fan = s.fan ∧ (s.sampleLoad j).limit = s.limit ∧ (s.sampleLoad j).link = s.link ∧
    (s.sampleLoad j).mail = s.mail ∧ (s.sampleLoad j).free = s.free :=
  ⟨rfl, rfl, rfl, rfl, rfl, rfl, rfl, rfl, rfl, rfl, rfl, rfl, rfl, rfl, rfl, rfl⟩

@[simp] theorem State.countMiss_frame (s : State) (j : Judgement) :
    (s.countMiss j).pending = s.pending ∧ (s.countMiss j).clock = s.clock ∧ (s.countMiss j).pins = s.pins ∧
    (s.countMiss j).appliance = s.appliance ∧ (s.countMiss j).profiles = s.profiles ∧
    (s.countMiss j).scanner = s.scanner ∧ (s.countMiss j).table = s.table ∧ (s.countMiss j).seq = s.seq ∧
    (s.countMiss j).reg = s.reg ∧ (s.countMiss j).locks = s.locks ∧ (s.countMiss j).fan = s.fan ∧
    (s.countMiss j).limit = s.limit ∧ (s.countMiss j).mail = s.mail ∧ (s.countMiss j).free = s.free := by
  refine ⟨?_, ?_, ?_, ?_, ?_, ?_, ?_, ?_, ?_, ?_, ?_, ?_, ?_, ?_⟩ <;>
    (simp only [State.countMiss]; (repeat' split) <;> simp)

@[simp] theorem State.countStuck_frame (s : State) (j : Judgement) :
    (s.countStuck j).pending = s.pending ∧ (s.countStuck j).clock = s.clock ∧ (s.countStuck j).pins = s.pins ∧
    (s.countStuck j).appliance = s.appliance ∧ (s.countStuck j).profiles = s.profiles ∧
    (s.countStuck j).scanner = s.scanner ∧ (s.countStuck j).table = s.table ∧ (s.countStuck j).seq = s.seq ∧
    (s.countStuck j).reg = s.reg ∧ (s.countStuck j).locks = s.locks ∧ (s.countStuck j).fan = s.fan ∧
    (s.countStuck j).free = s.free := by
  refine ⟨?_, ?_, ?_, ?_, ?_, ?_, ?_, ?_, ?_, ?_, ?_, ?_⟩ <;> (simp only [State.countStuck]; split <;> simp)

@[simp] theorem State.judge_frame (s : State) (j : Judgement) :
    (s.judge j).pending = s.pending ∧ (s.judge j).clock = s.clock ∧ (s.judge j).pins = s.pins ∧
    (s.judge j).appliance = s.appliance ∧ (s.judge j).profiles = s.profiles ∧ (s.judge j).scanner = s.scanner ∧
    (s.judge j).table = s.table ∧ (s.judge j).seq = s.seq ∧ (s.judge j).reg = s.reg ∧ (s.judge j).locks = s.locks ∧
    (s.judge j).fan = s.fan ∧ (s.judge j).free = s.free := by
  refine ⟨?_, ?_, ?_, ?_, ?_, ?_, ?_, ?_, ?_, ?_, ?_, ?_⟩ <;> (simp only [State.judge]; (repeat' split) <;> simp)

@[simp] theorem checkSense_frame (loads : BitVec 12) (s : State) :
    (checkSense loads s).pending = s.pending ∧ (checkSense loads s).clock = s.clock ∧
    (checkSense loads s).pins = s.pins ∧ (checkSense loads s).appliance = s.appliance ∧
    (checkSense loads s).profiles = s.profiles ∧ (checkSense loads s).scanner = s.scanner ∧
    (checkSense loads s).table = s.table ∧ (checkSense loads s).seq = s.seq ∧ (checkSense loads s).reg = s.reg ∧
    (checkSense loads s).locks = s.locks ∧ (checkSense loads s).fan = s.fan ∧ (checkSense loads s).free = s.free := by
  refine ⟨?_, ?_, ?_, ?_, ?_, ?_, ?_, ?_, ?_, ?_, ?_, ?_⟩ <;>
    (unfold checkSense; dsimp only; (repeat' split) <;> (try simp) <;> (repeat (first | rfl | (refine (foldl_keeps _ _ (fun s x => by (try dsimp only); (repeat' split) <;> simp) _ _).trans ?_) | (simp; done))))

@[simp] theorem State.rebuildOutputs_frame (s : State) (c : Cavity) (p : CavityProfile) :
    (s.rebuildOutputs c p).pending = s.pending ∧ (s.rebuildOutputs c p).clock = s.clock ∧
    (s.rebuildOutputs c p).pins = s.pins ∧ (s.rebuildOutputs c p).appliance = s.appliance ∧
    (s.rebuildOutputs c p).profiles = s.profiles ∧ (s.rebuildOutputs c p).scanner = s.scanner ∧
    (s.rebuildOutputs c p).table = s.table ∧ (s.rebuildOutputs c p).seq = s.seq ∧
    (s.rebuildOutputs c p).reg = s.reg ∧ (s.rebuildOutputs c p).alloc = s.alloc ∧
    (s.rebuildOutputs c p).locks = s.locks ∧ (s.rebuildOutputs c p).fan = s.fan ∧
    (s.rebuildOutputs c p).limit = s.limit ∧ (s.rebuildOutputs c p).link = s.link ∧
    (s.rebuildOutputs c p).mail = s.mail ∧ (s.rebuildOutputs c p).free = s.free :=
  ⟨rfl, rfl, rfl, rfl, rfl, rfl, rfl, rfl, rfl, rfl, rfl, rfl, rfl, rfl, rfl, rfl⟩

/-! ### Locks -/

@[simp] theorem State.lockEngaged_frame (s : State) (c : Cavity) (l : DoorLock) :
    (s.lockEngaged c l).pending = s.pending ∧ (s.lockEngaged c l).clock = s.clock ∧
    (s.lockEngaged c l).pins = s.pins ∧ (s.lockEngaged c l).appliance = s.appliance ∧
    (s.lockEngaged c l).profiles = s.profiles ∧ (s.lockEngaged c l).scanner = s.scanner ∧
    (s.lockEngaged c l).table = s.table ∧ (s.lockEngaged c l).seq = s.seq ∧ (s.lockEngaged c l).reg = s.reg ∧
    (s.lockEngaged c l).alloc = s.alloc ∧ (s.lockEngaged c l).drive = s.drive ∧ (s.lockEngaged c l).fan = s.fan ∧
    (s.lockEngaged c l).limit = s.limit ∧ (s.lockEngaged c l).free = s.free :=
  ⟨rfl, rfl, rfl, rfl, rfl, rfl, rfl, rfl, rfl, rfl, rfl, rfl, rfl, rfl⟩

@[simp] theorem State.lockReleased_frame (s : State) (c : Cavity) (l : DoorLock) :
    (s.lockReleased c l).pending = s.pending ∧ (s.lockReleased c l).clock = s.clock ∧
    (s.lockReleased c l).pins = s.pins ∧ (s.lockReleased c l).appliance = s.appliance ∧
    (s.lockReleased c l).profiles = s.profiles ∧ (s.lockReleased c l).scanner = s.scanner ∧
    (s.lockReleased c l).table = s.table ∧ (s.lockReleased c l).seq = s.seq ∧ (s.lockReleased c l).reg = s.reg ∧
    (s.lockReleased c l).alloc = s.alloc ∧ (s.lockReleased c l).drive = s.drive ∧ (s.lockReleased c l).fan = s.fan ∧
    (s.lockReleased c l).limit = s.limit ∧ (s.lockReleased c l).free = s.free :=
  ⟨rfl, rfl, rfl, rfl, rfl, rfl, rfl, rfl, rfl, rfl, rfl, rfl, rfl, rfl⟩

@[simp] theorem State.lockJammed_frame (s : State) (c : Cavity) (l : DoorLock) (detail : Nat) :
    (s.lockJammed c l detail).pending = s.pending ∧ (s.lockJammed c l detail).clock = s.clock ∧
    (s.lockJammed c l detail).pins = s.pins ∧ (s.lockJammed c l detail).appliance = s.appliance ∧
    (s.lockJammed c l detail).profiles = s.profiles ∧ (s.lockJammed c l detail).scanner = s.scanner ∧
    (s.lockJammed c l detail).table = s.table ∧ (s.lockJammed c l detail).seq = s.seq ∧
    (s.lockJammed c l detail).reg = s.reg ∧ (s.lockJammed c l detail).fan = s.fan ∧
    (s.lockJammed c l detail).free = s.free := by
  refine ⟨?_, ?_, ?_, ?_, ?_, ?_, ?_, ?_, ?_, ?_, ?_⟩ <;> (simp [State.lockJammed])

@[simp] theorem State.lockLost_frame (s : State) (c : Cavity) (l : DoorLock) :
    (s.lockLost c l).pending = s.pending ∧ (s.lockLost c l).clock = s.clock ∧ (s.lockLost c l).pins = s.pins ∧
    (s.lockLost c l).appliance = s.appliance ∧ (s.lockLost c l).profiles = s.profiles ∧
    (s.lockLost c l).scanner = s.scanner ∧ (s.lockLost c l).table = s.table ∧ (s.lockLost c l).seq = s.seq ∧
    (s.lockLost c l).reg = s.reg ∧ (s.lockLost c l).fan = s.fan ∧ (s.lockLost c l).free = s.free := by
  refine ⟨?_, ?_, ?_, ?_, ?_, ?_, ?_, ?_, ?_, ?_, ?_⟩ <;> (simp [State.lockLost])

@[simp] theorem State.doorChanged_frame (s : State) (c : Cavity) (value : DoorSwitch) :
    (s.doorChanged c value).pending = s.pending ∧ (s.doorChanged c value).clock = s.clock ∧
    (s.doorChanged c value).pins = s.pins ∧ (s.doorChanged c value).appliance = s.appliance ∧
    (s.doorChanged c value).profiles = s.profiles ∧ (s.doorChanged c value).scanner = s.scanner ∧
    (s.doorChanged c value).table = s.table ∧ (s.doorChanged c value).seq = s.seq ∧
    (s.doorChanged c value).reg = s.reg ∧ (s.doorChanged c value).fan = s.fan ∧ (s.doorChanged c value).free = s.free := by
  refine ⟨?_, ?_, ?_, ?_, ?_, ?_, ?_, ?_, ?_, ?_, ?_⟩ <;> (simp only [State.doorChanged]; split <;> simp)

@[simp] theorem changeDoor_frame (c : Cavity) (value : DoorSwitch) (s : State) :
    (changeDoor c value s).pending = s.pending ∧ (changeDoor c value s).clock = s.clock ∧
    (changeDoor c value s).appliance = s.appliance ∧ (changeDoor c value s).profiles = s.profiles ∧
    (changeDoor c value s).scanner = s.scanner ∧ (changeDoor c value s).table = s.table ∧
    (changeDoor c value s).seq = s.seq ∧ (changeDoor c value s).reg = s.reg ∧ (changeDoor c value s).fan = s.fan ∧
    (changeDoor c value s).free = s.free := by
  refine ⟨?_, ?_, ?_, ?_, ?_, ?_, ?_, ?_, ?_, ?_⟩ <;> (simp only [changeDoor]; split <;> simp)

@[simp] theorem State.lockSwitchChanged_frame (s : State) (c : Cavity) (value : LockSwitch) :
    (s.lockSwitchChanged c value).pending = s.pending ∧ (s.lockSwitchChanged c value).clock = s.clock ∧
    (s.lockSwitchChanged c value).pins = s.pins ∧ (s.lockSwitchChanged c value).appliance = s.appliance ∧
    (s.lockSwitchChanged c value).profiles = s.profiles ∧ (s.lockSwitchChanged c value).scanner = s.scanner ∧
    (s.lockSwitchChanged c value).table = s.table ∧ (s.lockSwitchChanged c value).seq = s.seq ∧
    (s.lockSwitchChanged c value).reg = s.reg ∧ (s.lockSwitchChanged c value).fan = s.fan ∧
    (s.lockSwitchChanged c value).free = s.free := by
  refine ⟨?_, ?_, ?_, ?_, ?_, ?_, ?_, ?_, ?_, ?_, ?_⟩ <;> (simp only [State.lockSwitchChanged]; split <;> simp)

@[simp] theorem changeLockSwitch_frame (c : Cavity) (value : LockSwitch) (s : State) :
    (changeLockSwitch c value s).pending = s.pending ∧ (changeLockSwitch c value s).clock = s.clock ∧
    (changeLockSwitch c value s).appliance = s.appliance ∧ (changeLockSwitch c value s).profiles = s.profiles ∧
    (changeLockSwitch c value s).scanner = s.scanner ∧ (changeLockSwitch c value s).table = s.table ∧
    (changeLockSwitch c value s).seq = s.seq ∧ (changeLockSwitch c value s).reg = s.reg ∧
    (changeLockSwitch c value s).fan = s.fan ∧ (changeLockSwitch c value s).free = s.free := by
  refine ⟨?_, ?_, ?_, ?_, ?_, ?_, ?_, ?_, ?_, ?_⟩ <;> (simp only [changeLockSwitch]; split <;> simp)

@[simp] theorem engageTimeout_frame (c : Cavity) (s : State) :
    (engageTimeout c s).pending = s.pending ∧ (engageTimeout c s).clock = s.clock ∧
    (engageTimeout c s).pins = s.pins ∧ (engageTimeout c s).appliance = s.appliance ∧
    (engageTimeout c s).profiles = s.profiles ∧ (engageTimeout c s).scanner = s.scanner ∧
    (engageTimeout c s).table = s.table ∧ (engageTimeout c s).seq = s.seq ∧ (engageTimeout c s).reg = s.reg ∧
    (engageTimeout c s).fan = s.fan ∧ (engageTimeout c s).free = s.free := by
  refine ⟨?_, ?_, ?_, ?_, ?_, ?_, ?_, ?_, ?_, ?_, ?_⟩ <;> (simp only [engageTimeout]; split <;> simp)

@[simp] theorem releaseTimeout_frame (c : Cavity) (s : State) :
    (releaseTimeout c s).pending = s.pending ∧ (releaseTimeout c s).clock = s.clock ∧
    (releaseTimeout c s).pins = s.pins ∧ (releaseTimeout c s).appliance = s.appliance ∧
    (releaseTimeout c s).profiles = s.profiles ∧ (releaseTimeout c s).scanner = s.scanner ∧
    (releaseTimeout c s).table = s.table ∧ (releaseTimeout c s).seq = s.seq ∧ (releaseTimeout c s).reg = s.reg ∧
    (releaseTimeout c s).fan = s.fan ∧ (releaseTimeout c s).free = s.free := by
  refine ⟨?_, ?_, ?_, ?_, ?_, ?_, ?_, ?_, ?_, ?_, ?_⟩ <;> (simp only [releaseTimeout]; split <;> simp)

@[simp] theorem reversalReached_frame (c : Cavity) (s : State) :
    (reversalReached c s).pending = s.pending ∧ (reversalReached c s).clock = s.clock ∧
    (reversalReached c s).pins = s.pins ∧ (reversalReached c s).appliance = s.appliance ∧
    (reversalReached c s).profiles = s.profiles ∧ (reversalReached c s).scanner = s.scanner ∧
    (reversalReached c s).table = s.table ∧ (reversalReached c s).seq = s.seq ∧ (reversalReached c s).reg = s.reg ∧
    (reversalReached c s).alloc = s.alloc ∧ (reversalReached c s).drive = s.drive ∧
    (reversalReached c s).fan = s.fan ∧ (reversalReached c s).limit = s.limit ∧ (reversalReached c s).free = s.free := by
  refine ⟨?_, ?_, ?_, ?_, ?_, ?_, ?_, ?_, ?_, ?_, ?_, ?_, ?_, ?_⟩ <;> (simp only [reversalReached]; split <;> simp)

@[simp] theorem State.orderEngage_frame (s : State) (c : Cavity) :
    (s.orderEngage c).pending = s.pending ∧ (s.orderEngage c).clock = s.clock ∧ (s.orderEngage c).pins = s.pins ∧
    (s.orderEngage c).appliance = s.appliance ∧ (s.orderEngage c).profiles = s.profiles ∧
    (s.orderEngage c).scanner = s.scanner ∧ (s.orderEngage c).table = s.table ∧ (s.orderEngage c).seq = s.seq ∧
    (s.orderEngage c).reg = s.reg ∧ (s.orderEngage c).alloc = s.alloc ∧ (s.orderEngage c).drive = s.drive ∧
    (s.orderEngage c).fan = s.fan ∧ (s.orderEngage c).limit = s.limit ∧ (s.orderEngage c).link = s.link ∧
    (s.orderEngage c).mail = s.mail ∧ (s.orderEngage c).free = s.free :=
  ⟨rfl, rfl, rfl, rfl, rfl, rfl, rfl, rfl, rfl, rfl, rfl, rfl, rfl, rfl, rfl, rfl⟩

@[simp] theorem State.orderRelease_frame (s : State) (c : Cavity) :
    (s.orderRelease c).pending = s.pending ∧ (s.orderRelease c).clock = s.clock ∧ (s.orderRelease c).pins = s.pins ∧
    (s.orderRelease c).appliance = s.appliance ∧ (s.orderRelease c).profiles = s.profiles ∧
    (s.orderRelease c).scanner = s.scanner ∧ (s.orderRelease c).table = s.table ∧ (s.orderRelease c).seq = s.seq ∧
    (s.orderRelease c).reg = s.reg ∧ (s.orderRelease c).alloc = s.alloc ∧ (s.orderRelease c).drive = s.drive ∧
    (s.orderRelease c).fan = s.fan ∧ (s.orderRelease c).limit = s.limit ∧ (s.orderRelease c).link = s.link ∧
    (s.orderRelease c).mail = s.mail ∧ (s.orderRelease c).free = s.free :=
  ⟨rfl, rfl, rfl, rfl, rfl, rfl, rfl, rfl, rfl, rfl, rfl, rfl, rfl, rfl, rfl, rfl⟩

@[simp] theorem State.orderGiveUp_frame (s : State) (c : Cavity) :
    (s.orderGiveUp c).pending = s.pending ∧ (s.orderGiveUp c).clock = s.clock ∧ (s.orderGiveUp c).pins = s.pins ∧
    (s.orderGiveUp c).appliance = s.appliance ∧ (s.orderGiveUp c).profiles = s.profiles ∧
    (s.orderGiveUp c).scanner = s.scanner ∧ (s.orderGiveUp c).table = s.table ∧ (s.orderGiveUp c).seq = s.seq ∧
    (s.orderGiveUp c).reg = s.reg ∧ (s.orderGiveUp c).alloc = s.alloc ∧ (s.orderGiveUp c).drive = s.drive ∧
    (s.orderGiveUp c).fan = s.fan ∧ (s.orderGiveUp c).limit = s.limit ∧ (s.orderGiveUp c).link = s.link ∧
    (s.orderGiveUp c).mail = s.mail ∧ (s.orderGiveUp c).free = s.free :=
  ⟨rfl, rfl, rfl, rfl, rfl, rfl, rfl, rfl, rfl, rfl, rfl, rfl, rfl, rfl, rfl, rfl⟩

@[simp] theorem State.disableLock_frame (s : State) (c : Cavity) :
    (s.disableLock c).pending = s.pending ∧ (s.disableLock c).clock = s.clock ∧ (s.disableLock c).pins = s.pins ∧
    (s.disableLock c).appliance = s.appliance ∧ (s.disableLock c).profiles = s.profiles ∧
    (s.disableLock c).scanner = s.scanner ∧ (s.disableLock c).table = s.table ∧ (s.disableLock c).seq = s.seq ∧
    (s.disableLock c).reg = s.reg ∧ (s.disableLock c).alloc = s.alloc ∧ (s.disableLock c).drive = s.drive ∧
    (s.disableLock c).fan = s.fan ∧ (s.disableLock c).limit = s.limit ∧ (s.disableLock c).link = s.link ∧
    (s.disableLock c).mail = s.mail ∧ (s.disableLock c).free = s.free :=
  ⟨rfl, rfl, rfl, rfl, rfl, rfl, rfl, rfl, rfl, rfl, rfl, rfl, rfl, rfl, rfl, rfl⟩

@[simp] theorem State.enableLock_frame (s : State) (c : Cavity) :
    (s.enableLock c).pending = s.pending ∧ (s.enableLock c).clock = s.clock ∧ (s.enableLock c).pins = s.pins ∧
    (s.enableLock c).appliance = s.appliance ∧ (s.enableLock c).profiles = s.profiles ∧
    (s.enableLock c).scanner = s.scanner ∧ (s.enableLock c).table = s.table ∧ (s.enableLock c).seq = s.seq ∧
    (s.enableLock c).reg = s.reg ∧ (s.enableLock c).fan = s.fan ∧ (s.enableLock c).free = s.free := by
  refine ⟨?_, ?_, ?_, ?_, ?_, ?_, ?_, ?_, ?_, ?_, ?_⟩ <;> (simp only [State.enableLock]; split <;> simp)

/-! ### Regulation -/

@[simp] theorem State.takeRegulate_frame (s : State) (c : Cavity) (r : RegRequest) :
    (s.takeRegulate c r).pending = s.pending ∧ (s.takeRegulate c r).clock = s.clock ∧
    (s.takeRegulate c r).pins = s.pins ∧ (s.takeRegulate c r).appliance = s.appliance ∧
    (s.takeRegulate c r).profiles = s.profiles ∧ (s.takeRegulate c r).scanner = s.scanner ∧
    (s.takeRegulate c r).table = s.table ∧ (s.takeRegulate c r).seq = s.seq ∧ (s.takeRegulate c r).drive = s.drive ∧
    (s.takeRegulate c r).locks = s.locks ∧ (s.takeRegulate c r).fan = s.fan ∧ (s.takeRegulate c r).limit = s.limit ∧
    (s.takeRegulate c r).link = s.link ∧ (s.takeRegulate c r).free = s.free := by
  refine ⟨?_, ?_, ?_, ?_, ?_, ?_, ?_, ?_, ?_, ?_, ?_, ?_, ?_, ?_⟩ <;> (simp only [State.takeRegulate]; split <;> simp)

@[simp] theorem State.takeOff_frame (s : State) (c : Cavity) :
    (s.takeOff c).pending = s.pending ∧ (s.takeOff c).clock = s.clock ∧ (s.takeOff c).pins = s.pins ∧
    (s.takeOff c).appliance = s.appliance ∧ (s.takeOff c).profiles = s.profiles ∧ (s.takeOff c).scanner = s.scanner ∧
    (s.takeOff c).table = s.table ∧ (s.takeOff c).seq = s.seq ∧ (s.takeOff c).drive = s.drive ∧
    (s.takeOff c).locks = s.locks ∧ (s.takeOff c).fan = s.fan ∧ (s.takeOff c).limit = s.limit ∧
    (s.takeOff c).link = s.link ∧ (s.takeOff c).mail = s.mail ∧ (s.takeOff c).free = s.free :=
  ⟨rfl, rfl, rfl, rfl, rfl, rfl, rfl, rfl, rfl, rfl, rfl, rfl, rfl, rfl, rfl⟩

@[simp] theorem State.dropRegulation_frame (s : State) (c : Cavity) :
    (s.dropRegulation c).pending = s.pending ∧ (s.dropRegulation c).clock = s.clock ∧
    (s.dropRegulation c).pins = s.pins ∧ (s.dropRegulation c).appliance = s.appliance ∧
    (s.dropRegulation c).profiles = s.profiles ∧ (s.dropRegulation c).scanner = s.scanner ∧
    (s.dropRegulation c).table = s.table ∧ (s.dropRegulation c).seq = s.seq ∧ (s.dropRegulation c).reg = s.reg ∧
    (s.dropRegulation c).alloc = s.alloc ∧ (s.dropRegulation c).drive = s.drive ∧
    (s.dropRegulation c).locks = s.locks ∧ (s.dropRegulation c).fan = s.fan ∧ (s.dropRegulation c).limit = s.limit ∧
    (s.dropRegulation c).link = s.link ∧ (s.dropRegulation c).free = s.free :=
  ⟨rfl, rfl, rfl, rfl, rfl, rfl, rfl, rfl, rfl, rfl, rfl, rfl, rfl, rfl, rfl, rfl⟩

@[simp] theorem takeRegulateRequest_frame (c : Cavity) (s : State) :
    (takeRegulateRequest c s).pending = s.pending ∧ (takeRegulateRequest c s).clock = s.clock ∧
    (takeRegulateRequest c s).pins = s.pins ∧ (takeRegulateRequest c s).appliance = s.appliance ∧
    (takeRegulateRequest c s).profiles = s.profiles ∧ (takeRegulateRequest c s).scanner = s.scanner ∧
    (takeRegulateRequest c s).table = s.table ∧ (takeRegulateRequest c s).seq = s.seq ∧
    (takeRegulateRequest c s).drive = s.drive ∧ (takeRegulateRequest c s).locks = s.locks ∧
    (takeRegulateRequest c s).fan = s.fan ∧ (takeRegulateRequest c s).limit = s.limit ∧
    (takeRegulateRequest c s).link = s.link ∧ (takeRegulateRequest c s).free = s.free := by
  refine ⟨?_, ?_, ?_, ?_, ?_, ?_, ?_, ?_, ?_, ?_, ?_, ?_, ?_, ?_⟩ <;>
    (simp only [takeRegulateRequest]; (repeat' split) <;> simp)

@[simp] theorem takeOffRequest_frame (c : Cavity) (s : State) :
    (takeOffRequest c s).pending = s.pending ∧ (takeOffRequest c s).clock = s.clock ∧
    (takeOffRequest c s).pins = s.pins ∧ (takeOffRequest c s).appliance = s.appliance ∧
    (takeOffRequest c s).profiles = s.profiles ∧ (takeOffRequest c s).scanner = s.scanner ∧
    (takeOffRequest c s).table = s.table ∧ (takeOffRequest c s).seq = s.seq ∧ (takeOffRequest c s).drive = s.drive ∧
    (takeOffRequest c s).locks = s.locks ∧ (takeOffRequest c s).fan = s.fan ∧ (takeOffRequest c s).limit = s.limit ∧
    (takeOffRequest c s).link = s.link ∧ (takeOffRequest c s).free = s.free := by
  refine ⟨?_, ?_, ?_, ?_, ?_, ?_, ?_, ?_, ?_, ?_, ?_, ?_, ?_, ?_⟩ <;>
    (simp only [takeOffRequest]; (repeat' split) <;> simp)

/-! ### Sequencer -/

@[simp] theorem State.postRequest_frame (s : State) (c : Cavity) (mode : RegMode) (reading : Option CavityReading) :
    (s.postRequest c mode reading).pending = s.pending ∧ (s.postRequest c mode reading).clock = s.clock ∧
    (s.postRequest c mode reading).pins = s.pins ∧ (s.postRequest c mode reading).appliance = s.appliance ∧
    (s.postRequest c mode reading).profiles = s.profiles ∧ (s.postRequest c mode reading).scanner = s.scanner ∧
    (s.postRequest c mode reading).table = s.table ∧ (s.postRequest c mode reading).reg = s.reg ∧
    (s.postRequest c mode reading).alloc = s.alloc ∧ (s.postRequest c mode reading).drive = s.drive ∧
    (s.postRequest c mode reading).locks = s.locks ∧ (s.postRequest c mode reading).fan = s.fan ∧
    (s.postRequest c mode reading).limit = s.limit ∧ (s.postRequest c mode reading).link = s.link ∧
    (s.postRequest c mode reading).free = s.free :=
  ⟨rfl, rfl, rfl, rfl, rfl, rfl, rfl, rfl, rfl, rfl, rfl, rfl, rfl, rfl, rfl⟩

@[simp] theorem State.giveUpLock_frame (s : State) (c : Cavity) :
    (s.giveUpLock c).pending = s.pending ∧ (s.giveUpLock c).clock = s.clock ∧ (s.giveUpLock c).pins = s.pins ∧
    (s.giveUpLock c).appliance = s.appliance ∧ (s.giveUpLock c).profiles = s.profiles ∧
    (s.giveUpLock c).scanner = s.scanner ∧ (s.giveUpLock c).table = s.table ∧ (s.giveUpLock c).reg = s.reg ∧
    (s.giveUpLock c).alloc = s.alloc ∧ (s.giveUpLock c).drive = s.drive ∧ (s.giveUpLock c).fan = s.fan ∧
    (s.giveUpLock c).limit = s.limit ∧ (s.giveUpLock c).link = s.link ∧ (s.giveUpLock c).mail = s.mail ∧
    (s.giveUpLock c).free = s.free :=
  ⟨rfl, rfl, rfl, rfl, rfl, rfl, rfl, rfl, rfl, rfl, rfl, rfl, rfl, rfl, rfl⟩

@[simp] theorem State.settlingTest_frame (s : State) (c : Cavity) :
    (s.settlingTest c).pending = s.pending ∧ (s.settlingTest c).clock = s.clock ∧ (s.settlingTest c).pins = s.pins ∧
    (s.settlingTest c).appliance = s.appliance ∧ (s.settlingTest c).profiles = s.profiles ∧
    (s.settlingTest c).scanner = s.scanner ∧ (s.settlingTest c).table = s.table ∧ (s.settlingTest c).reg = s.reg ∧
    (s.settlingTest c).alloc = s.alloc ∧ (s.settlingTest c).drive = s.drive ∧ (s.settlingTest c).fan = s.fan ∧
    (s.settlingTest c).limit = s.limit ∧ (s.settlingTest c).link = s.link ∧ (s.settlingTest c).mail = s.mail ∧
    (s.settlingTest c).free = s.free := by
  refine ⟨?_, ?_, ?_, ?_, ?_, ?_, ?_, ?_, ?_, ?_, ?_, ?_, ?_, ?_, ?_⟩ <;>
    (simp only [State.settlingTest]; split <;> simp)

@[simp] theorem State.cycleEvent_frame (s : State) (c : Cavity) (outcome : CycleOutcome)
    (reason : Option AbortReason) :
    (s.cycleEvent c outcome reason).pending = s.pending ∧ (s.cycleEvent c outcome reason).clock = s.clock ∧
    (s.cycleEvent c outcome reason).pins = s.pins ∧ (s.cycleEvent c outcome reason).appliance = s.appliance ∧
    (s.cycleEvent c outcome reason).profiles = s.profiles ∧ (s.cycleEvent c outcome reason).scanner = s.scanner ∧
    (s.cycleEvent c outcome reason).table = s.table ∧ (s.cycleEvent c outcome reason).seq = s.seq ∧
    (s.cycleEvent c outcome reason).reg = s.reg ∧ (s.cycleEvent c outcome reason).alloc = s.alloc ∧
    (s.cycleEvent c outcome reason).drive = s.drive ∧ (s.cycleEvent c outcome reason).locks = s.locks ∧
    (s.cycleEvent c outcome reason).fan = s.fan ∧ (s.cycleEvent c outcome reason).limit = s.limit ∧
    (s.cycleEvent c outcome reason).mail = s.mail ∧ (s.cycleEvent c outcome reason).free = s.free := by
  refine ⟨?_, ?_, ?_, ?_, ?_, ?_, ?_, ?_, ?_, ?_, ?_, ?_, ?_, ?_, ?_, ?_⟩ <;>
    (simp only [State.cycleEvent]; split <;> simp)

@[simp] theorem State.endCycle_frame (s : State) (c : Cavity) (outcome : CycleOutcome) (reason : Option AbortReason)
    (reading : Option CavityReading) :
    (s.endCycle c outcome reason reading).pending = s.pending ∧
    (s.endCycle c outcome reason reading).clock = s.clock ∧ (s.endCycle c outcome reason reading).pins = s.pins ∧
    (s.endCycle c outcome reason reading).appliance = s.appliance ∧
    (s.endCycle c outcome reason reading).profiles = s.profiles ∧
    (s.endCycle c outcome reason reading).scanner = s.scanner ∧
    (s.endCycle c outcome reason reading).table = s.table ∧ (s.endCycle c outcome reason reading).reg = s.reg ∧
    (s.endCycle c outcome reason reading).alloc = s.alloc ∧ (s.endCycle c outcome reason reading).limit = s.limit ∧
    (s.endCycle c outcome reason reading).free = s.free := by
  refine ⟨?_, ?_, ?_, ?_, ?_, ?_, ?_, ?_, ?_, ?_, ?_⟩ <;> (simp only [State.endCycle]; split <;> simp)

@[simp] theorem State.beginPhase_frame (s : State) (c : Cavity) (entering : Bool) :
    (s.beginPhase c entering).pending = s.pending ∧ (s.beginPhase c entering).clock = s.clock ∧
    (s.beginPhase c entering).pins = s.pins ∧ (s.beginPhase c entering).appliance = s.appliance ∧
    (s.beginPhase c entering).profiles = s.profiles ∧ (s.beginPhase c entering).scanner = s.scanner ∧
    (s.beginPhase c entering).table = s.table ∧ (s.beginPhase c entering).reg = s.reg ∧
    (s.beginPhase c entering).locks = s.locks ∧ (s.beginPhase c entering).free = s.free := by
  refine ⟨?_, ?_, ?_, ?_, ?_, ?_, ?_, ?_, ?_, ?_⟩ <;> (simp only [State.beginPhase]; (repeat' split) <;> simp)

@[simp] theorem State.enterRunning_frame (s : State) (c : Cavity) :
    (s.enterRunning c).pending = s.pending ∧ (s.enterRunning c).clock = s.clock ∧ (s.enterRunning c).pins = s.pins ∧
    (s.enterRunning c).appliance = s.appliance ∧ (s.enterRunning c).profiles = s.profiles ∧
    (s.enterRunning c).scanner = s.scanner ∧ (s.enterRunning c).table = s.table ∧ (s.enterRunning c).reg = s.reg ∧
    (s.enterRunning c).locks = s.locks ∧ (s.enterRunning c).free = s.free := by
  refine ⟨?_, ?_, ?_, ?_, ?_, ?_, ?_, ?_, ?_, ?_⟩ <;> (simp [State.enterRunning])

@[simp] theorem State.endPhase_frame (s : State) (c : Cavity) (reading : Option CavityReading) :
    (s.endPhase c reading).pending = s.pending ∧ (s.endPhase c reading).clock = s.clock ∧
    (s.endPhase c reading).pins = s.pins ∧ (s.endPhase c reading).appliance = s.appliance ∧
    (s.endPhase c reading).profiles = s.profiles ∧ (s.endPhase c reading).scanner = s.scanner ∧
    (s.endPhase c reading).table = s.table ∧ (s.endPhase c reading).reg = s.reg ∧
    (s.endPhase c reading).free = s.free := by
  refine ⟨?_, ?_, ?_, ?_, ?_, ?_, ?_, ?_, ?_⟩ <;> (simp only [State.endPhase]; (repeat' split) <;> simp)

@[simp] theorem State.countTime_frame (s : State) (c : Cavity) :
    (s.countTime c).pending = s.pending ∧ (s.countTime c).clock = s.clock ∧ (s.countTime c).pins = s.pins ∧
    (s.countTime c).appliance = s.appliance ∧ (s.countTime c).profiles = s.profiles ∧
    (s.countTime c).scanner = s.scanner ∧ (s.countTime c).table = s.table ∧ (s.countTime c).reg = s.reg ∧
    (s.countTime c).alloc = s.alloc ∧ (s.countTime c).drive = s.drive ∧ (s.countTime c).locks = s.locks ∧
    (s.countTime c).fan = s.fan ∧ (s.countTime c).limit = s.limit ∧ (s.countTime c).link = s.link ∧
    (s.countTime c).mail = s.mail := by
  refine ⟨?_, ?_, ?_, ?_, ?_, ?_, ?_, ?_, ?_, ?_, ?_, ?_, ?_, ?_, ?_⟩ <;> (simp [State.countTime])

@[simp] theorem State.limitReached_frame (s : State) (c : Cavity) (r : PhaseRecord) (reading : CavityReading) :
    (s.limitReached c r reading).pending = s.pending ∧ (s.limitReached c r reading).clock = s.clock ∧
    (s.limitReached c r reading).pins = s.pins ∧ (s.limitReached c r reading).appliance = s.appliance ∧
    (s.limitReached c r reading).profiles = s.profiles ∧ (s.limitReached c r reading).scanner = s.scanner ∧
    (s.limitReached c r reading).table = s.table ∧ (s.limitReached c r reading).reg = s.reg ∧
    (s.limitReached c r reading).free = s.free := by
  refine ⟨?_, ?_, ?_, ?_, ?_, ?_, ?_, ?_, ?_⟩ <;> (simp only [State.limitReached]; split <;> simp)

@[simp] theorem State.phaseTests_frame (s : State) (c : Cavity) (reading : CavityReading) :
    (s.phaseTests c reading).pending = s.pending ∧ (s.phaseTests c reading).clock = s.clock ∧
    (s.phaseTests c reading).pins = s.pins ∧ (s.phaseTests c reading).appliance = s.appliance ∧
    (s.phaseTests c reading).profiles = s.profiles ∧ (s.phaseTests c reading).scanner = s.scanner ∧
    (s.phaseTests c reading).table = s.table ∧ (s.phaseTests c reading).reg = s.reg ∧
    (s.phaseTests c reading).free = s.free := by
  refine ⟨?_, ?_, ?_, ?_, ?_, ?_, ?_, ?_, ?_⟩ <;> (simp only [State.phaseTests]; (repeat' split) <;> simp)

@[simp] theorem State.runningReading_frame (s : State) (c : Cavity) (reading : CavityReading) :
    (s.runningReading c reading).pending = s.pending ∧ (s.runningReading c reading).clock = s.clock ∧
    (s.runningReading c reading).pins = s.pins ∧ (s.runningReading c reading).appliance = s.appliance ∧
    (s.runningReading c reading).profiles = s.profiles ∧ (s.runningReading c reading).scanner = s.scanner ∧
    (s.runningReading c reading).table = s.table ∧ (s.runningReading c reading).reg = s.reg := by
  refine ⟨?_, ?_, ?_, ?_, ?_, ?_, ?_, ?_⟩ <;> (simp only [State.runningReading]; split <;> simp)

@[simp] theorem State.countBlind_frame (s : State) (c : Cavity) (reading : CavityReading) :
    (s.countBlind c reading).pending = s.pending ∧ (s.countBlind c reading).clock = s.clock ∧
    (s.countBlind c reading).pins = s.pins ∧ (s.countBlind c reading).appliance = s.appliance ∧
    (s.countBlind c reading).profiles = s.profiles ∧ (s.countBlind c reading).scanner = s.scanner ∧
    (s.countBlind c reading).table = s.table ∧ (s.countBlind c reading).reg = s.reg ∧
    (s.countBlind c reading).alloc = s.alloc ∧ (s.countBlind c reading).drive = s.drive ∧
    (s.countBlind c reading).locks = s.locks ∧ (s.countBlind c reading).fan = s.fan ∧
    (s.countBlind c reading).limit = s.limit ∧ (s.countBlind c reading).link = s.link ∧
    (s.countBlind c reading).mail = s.mail ∧ (s.countBlind c reading).free = s.free := by
  refine ⟨?_, ?_, ?_, ?_, ?_, ?_, ?_, ?_, ?_, ?_, ?_, ?_, ?_, ?_, ?_, ?_⟩ <;>
    (simp only [State.countBlind]; split <;> simp)

@[simp] theorem State.releaseTest_frame (s : State) (c : Cavity) (reading : CavityReading) :
    (s.releaseTest c reading).pending = s.pending ∧ (s.releaseTest c reading).clock = s.clock ∧
    (s.releaseTest c reading).pins = s.pins ∧ (s.releaseTest c reading).appliance = s.appliance ∧
    (s.releaseTest c reading).profiles = s.profiles ∧ (s.releaseTest c reading).scanner = s.scanner ∧
    (s.releaseTest c reading).table = s.table ∧ (s.releaseTest c reading).seq = s.seq ∧
    (s.releaseTest c reading).reg = s.reg ∧ (s.releaseTest c reading).alloc = s.alloc ∧
    (s.releaseTest c reading).drive = s.drive ∧ (s.releaseTest c reading).fan = s.fan ∧
    (s.releaseTest c reading).limit = s.limit ∧ (s.releaseTest c reading).link = s.link ∧
    (s.releaseTest c reading).mail = s.mail ∧ (s.releaseTest c reading).free = s.free := by
  refine ⟨?_, ?_, ?_, ?_, ?_, ?_, ?_, ?_, ?_, ?_, ?_, ?_, ?_, ?_, ?_, ?_⟩ <;>
    (simp only [State.releaseTest]; split <;> simp)

@[simp] theorem State.settlingReading_frame (s : State) (c : Cavity) (reading : CavityReading) :
    (s.settlingReading c reading).pending = s.pending ∧ (s.settlingReading c reading).clock = s.clock ∧
    (s.settlingReading c reading).pins = s.pins ∧ (s.settlingReading c reading).appliance = s.appliance ∧
    (s.settlingReading c reading).profiles = s.profiles ∧ (s.settlingReading c reading).scanner = s.scanner ∧
    (s.settlingReading c reading).table = s.table ∧ (s.settlingReading c reading).reg = s.reg ∧
    (s.settlingReading c reading).alloc = s.alloc ∧ (s.settlingReading c reading).drive = s.drive ∧
    (s.settlingReading c reading).fan = s.fan ∧ (s.settlingReading c reading).limit = s.limit ∧
    (s.settlingReading c reading).link = s.link ∧ (s.settlingReading c reading).mail = s.mail ∧
    (s.settlingReading c reading).free = s.free := by
  refine ⟨?_, ?_, ?_, ?_, ?_, ?_, ?_, ?_, ?_, ?_, ?_, ?_, ?_, ?_, ?_⟩ <;> (simp [State.settlingReading])

@[simp] theorem State.sequenceReading_frame (s : State) (c : Cavity) (reading : CavityReading) :
    (s.sequenceReading c reading).pending = s.pending ∧ (s.sequenceReading c reading).clock = s.clock ∧
    (s.sequenceReading c reading).pins = s.pins ∧ (s.sequenceReading c reading).appliance = s.appliance ∧
    (s.sequenceReading c reading).profiles = s.profiles ∧ (s.sequenceReading c reading).scanner = s.scanner ∧
    (s.sequenceReading c reading).table = s.table ∧ (s.sequenceReading c reading).reg = s.reg := by
  refine ⟨?_, ?_, ?_, ?_, ?_, ?_, ?_, ?_⟩ <;> (simp only [State.sequenceReading]; split <;> simp)

@[simp] theorem takeSequencerReading_frame (c : Cavity) (s : State) :
    (takeSequencerReading c s).pending = s.pending ∧ (takeSequencerReading c s).clock = s.clock ∧
    (takeSequencerReading c s).pins = s.pins ∧ (takeSequencerReading c s).appliance = s.appliance ∧
    (takeSequencerReading c s).profiles = s.profiles ∧ (takeSequencerReading c s).scanner = s.scanner ∧
    (takeSequencerReading c s).table = s.table ∧ (takeSequencerReading c s).reg = s.reg := by
  refine ⟨?_, ?_, ?_, ?_, ?_, ?_, ?_, ?_⟩ <;> (simp only [takeSequencerReading]; split <;> simp)

@[simp] theorem State.heatCompleted_frame (s : State) (c : Cavity) (position : Nat) :
    (s.heatCompleted c position).pending = s.pending ∧ (s.heatCompleted c position).clock = s.clock ∧
    (s.heatCompleted c position).pins = s.pins ∧ (s.heatCompleted c position).appliance = s.appliance ∧
    (s.heatCompleted c position).profiles = s.profiles ∧ (s.heatCompleted c position).scanner = s.scanner ∧
    (s.heatCompleted c position).table = s.table ∧ (s.heatCompleted c position).reg = s.reg ∧
    (s.heatCompleted c position).free = s.free := by
  refine ⟨?_, ?_, ?_, ?_, ?_, ?_, ?_, ?_, ?_⟩ <;> (simp only [State.heatCompleted]; split <;> simp)

@[simp] theorem takeHeatComplete_frame (c : Cavity) (s : State) :
    (takeHeatComplete c s).pending = s.pending ∧ (takeHeatComplete c s).clock = s.clock ∧
    (takeHeatComplete c s).pins = s.pins ∧ (takeHeatComplete c s).appliance = s.appliance ∧
    (takeHeatComplete c s).profiles = s.profiles ∧ (takeHeatComplete c s).scanner = s.scanner ∧
    (takeHeatComplete c s).table = s.table ∧ (takeHeatComplete c s).reg = s.reg ∧
    (takeHeatComplete c s).free = s.free := by
  refine ⟨?_, ?_, ?_, ?_, ?_, ?_, ?_, ?_, ?_⟩ <;> (simp only [takeHeatComplete]; split <;> simp)

@[simp] theorem State.lockNoticed_frame (s : State) (c : Cavity) (n : LockNotice) :
    (s.lockNoticed c n).pending = s.pending ∧ (s.lockNoticed c n).clock = s.clock ∧
    (s.lockNoticed c n).pins = s.pins ∧ (s.lockNoticed c n).appliance = s.appliance ∧
    (s.lockNoticed c n).profiles = s.profiles ∧ (s.lockNoticed c n).scanner = s.scanner ∧
    (s.lockNoticed c n).table = s.table ∧ (s.lockNoticed c n).reg = s.reg ∧ (s.lockNoticed c n).free = s.free := by
  refine ⟨?_, ?_, ?_, ?_, ?_, ?_, ?_, ?_, ?_⟩ <;> (simp only [State.lockNoticed]; split <;> simp)

@[simp] theorem takeLockNotice_frame (c : Cavity) (s : State) :
    (takeLockNotice c s).pending = s.pending ∧ (takeLockNotice c s).clock = s.clock ∧
    (takeLockNotice c s).pins = s.pins ∧ (takeLockNotice c s).appliance = s.appliance ∧
    (takeLockNotice c s).profiles = s.profiles ∧ (takeLockNotice c s).scanner = s.scanner ∧
    (takeLockNotice c s).table = s.table ∧ (takeLockNotice c s).reg = s.reg ∧ (takeLockNotice c s).free = s.free := by
  refine ⟨?_, ?_, ?_, ?_, ?_, ?_, ?_, ?_, ?_⟩ <;> (simp only [takeLockNotice]; split <;> simp)

@[simp] theorem State.tripNoticed_frame (s : State) (c : Cavity) :
    (s.tripNoticed c).pending = s.pending ∧ (s.tripNoticed c).clock = s.clock ∧ (s.tripNoticed c).pins = s.pins ∧
    (s.tripNoticed c).appliance = s.appliance ∧ (s.tripNoticed c).profiles = s.profiles ∧
    (s.tripNoticed c).scanner = s.scanner ∧ (s.tripNoticed c).table = s.table ∧ (s.tripNoticed c).reg = s.reg ∧
    (s.tripNoticed c).alloc = s.alloc ∧ (s.tripNoticed c).limit = s.limit ∧ (s.tripNoticed c).free = s.free := by
  refine ⟨?_, ?_, ?_, ?_, ?_, ?_, ?_, ?_, ?_, ?_, ?_⟩ <;> (simp only [State.tripNoticed]; split <;> simp)

@[simp] theorem takeTripNotice_frame (c : Cavity) (s : State) :
    (takeTripNotice c s).pending = s.pending ∧ (takeTripNotice c s).clock = s.clock ∧
    (takeTripNotice c s).pins = s.pins ∧ (takeTripNotice c s).appliance = s.appliance ∧
    (takeTripNotice c s).profiles = s.profiles ∧ (takeTripNotice c s).scanner = s.scanner ∧
    (takeTripNotice c s).table = s.table ∧ (takeTripNotice c s).reg = s.reg ∧ (takeTripNotice c s).alloc = s.alloc ∧
    (takeTripNotice c s).limit = s.limit ∧ (takeTripNotice c s).free = s.free := by
  refine ⟨?_, ?_, ?_, ?_, ?_, ?_, ?_, ?_, ?_, ?_, ?_⟩ <;> (simp only [takeTripNotice]; split <;> simp)

@[simp] theorem State.acceptStart_frame (s : State) (c : Cavity) (walked : List Nat) (locks : Bool) :
    (s.acceptStart c walked locks).pending = s.pending ∧ (s.acceptStart c walked locks).clock = s.clock ∧
    (s.acceptStart c walked locks).pins = s.pins ∧ (s.acceptStart c walked locks).appliance = s.appliance ∧
    (s.acceptStart c walked locks).profiles = s.profiles ∧ (s.acceptStart c walked locks).scanner = s.scanner ∧
    (s.acceptStart c walked locks).table = s.table ∧ (s.acceptStart c walked locks).reg = s.reg ∧
    (s.acceptStart c walked locks).free = s.free := by
  refine ⟨?_, ?_, ?_, ?_, ?_, ?_, ?_, ?_, ?_⟩ <;> (simp only [State.acceptStart]; split <;> simp)

@[simp] theorem State.disableSequencer_frame (s : State) (c : Cavity) :
    (s.disableSequencer c).pending = s.pending ∧ (s.disableSequencer c).clock = s.clock ∧
    (s.disableSequencer c).pins = s.pins ∧ (s.disableSequencer c).appliance = s.appliance ∧
    (s.disableSequencer c).profiles = s.profiles ∧ (s.disableSequencer c).scanner = s.scanner ∧
    (s.disableSequencer c).table = s.table ∧ (s.disableSequencer c).reg = s.reg ∧
    (s.disableSequencer c).alloc = s.alloc ∧ (s.disableSequencer c).drive = s.drive ∧
    (s.disableSequencer c).locks = s.locks ∧ (s.disableSequencer c).fan = s.fan ∧
    (s.disableSequencer c).limit = s.limit ∧ (s.disableSequencer c).link = s.link ∧
    (s.disableSequencer c).mail = s.mail ∧ (s.disableSequencer c).free = s.free :=
  ⟨rfl, rfl, rfl, rfl, rfl, rfl, rfl, rfl, rfl, rfl, rfl, rfl, rfl, rfl, rfl, rfl⟩

@[simp] theorem State.enableSequencer_frame (s : State) (c : Cavity) :
    (s.enableSequencer c).pending = s.pending ∧ (s.enableSequencer c).clock = s.clock ∧
    (s.enableSequencer c).pins = s.pins ∧ (s.enableSequencer c).appliance = s.appliance ∧
    (s.enableSequencer c).profiles = s.profiles ∧ (s.enableSequencer c).scanner = s.scanner ∧
    (s.enableSequencer c).table = s.table ∧ (s.enableSequencer c).reg = s.reg ∧
    (s.enableSequencer c).alloc = s.alloc ∧ (s.enableSequencer c).drive = s.drive ∧
    (s.enableSequencer c).locks = s.locks ∧ (s.enableSequencer c).fan = s.fan ∧
    (s.enableSequencer c).limit = s.limit ∧ (s.enableSequencer c).link = s.link ∧
    (s.enableSequencer c).mail = s.mail ∧ (s.enableSequencer c).free = s.free :=
  ⟨rfl, rfl, rfl, rfl, rfl, rfl, rfl, rfl, rfl, rfl, rfl, rfl, rfl, rfl, rfl, rfl⟩

/-! ### Fans -/

@[simp] theorem takeFanReading_frame (c : Cavity) (s : State) :
    (takeFanReading c s).pending = s.pending ∧ (takeFanReading c s).clock = s.clock ∧
    (takeFanReading c s).pins = s.pins ∧ (takeFanReading c s).appliance = s.appliance ∧
    (takeFanReading c s).profiles = s.profiles ∧ (takeFanReading c s).scanner = s.scanner ∧
    (takeFanReading c s).table = s.table ∧ (takeFanReading c s).seq = s.seq ∧ (takeFanReading c s).reg = s.reg ∧
    (takeFanReading c s).alloc = s.alloc ∧ (takeFanReading c s).drive = s.drive ∧
    (takeFanReading c s).locks = s.locks ∧ (takeFanReading c s).limit = s.limit ∧
    (takeFanReading c s).link = s.link ∧ (takeFanReading c s).free = s.free := by
  refine ⟨?_, ?_, ?_, ?_, ?_, ?_, ?_, ?_, ?_, ?_, ?_, ?_, ?_, ?_, ?_⟩ <;> (simp only [takeFanReading]; split <;> simp)

@[simp] theorem takeFanBoard_frame (s : State) :
    (takeFanBoard s).pending = s.pending ∧ (takeFanBoard s).clock = s.clock ∧ (takeFanBoard s).pins = s.pins ∧
    (takeFanBoard s).appliance = s.appliance ∧ (takeFanBoard s).profiles = s.profiles ∧
    (takeFanBoard s).scanner = s.scanner ∧ (takeFanBoard s).table = s.table ∧ (takeFanBoard s).seq = s.seq ∧
    (takeFanBoard s).reg = s.reg ∧ (takeFanBoard s).alloc = s.alloc ∧ (takeFanBoard s).drive = s.drive ∧
    (takeFanBoard s).locks = s.locks ∧ (takeFanBoard s).limit = s.limit ∧ (takeFanBoard s).link = s.link ∧
    (takeFanBoard s).free = s.free := by
  refine ⟨?_, ?_, ?_, ?_, ?_, ?_, ?_, ?_, ?_, ?_, ?_, ?_, ?_, ?_, ?_⟩ <;> (simp only [takeFanBoard]; split <;> simp)

@[simp] theorem countPulse_frame (s : State) :
    (countPulse s).pending = s.pending ∧ (countPulse s).clock = s.clock ∧ (countPulse s).pins = s.pins ∧
    (countPulse s).appliance = s.appliance ∧ (countPulse s).profiles = s.profiles ∧
    (countPulse s).scanner = s.scanner ∧ (countPulse s).table = s.table ∧ (countPulse s).seq = s.seq ∧
    (countPulse s).reg = s.reg ∧ (countPulse s).alloc = s.alloc ∧ (countPulse s).drive = s.drive ∧
    (countPulse s).locks = s.locks ∧ (countPulse s).limit = s.limit ∧ (countPulse s).link = s.link ∧
    (countPulse s).mail = s.mail ∧ (countPulse s).free = s.free :=
  ⟨rfl, rfl, rfl, rfl, rfl, rfl, rfl, rfl, rfl, rfl, rfl, rfl, rfl, rfl, rfl, rfl⟩

@[simp] theorem State.closeTach_frame (s : State) :
    (s.closeTach).pending = s.pending ∧ (s.closeTach).clock = s.clock ∧ (s.closeTach).pins = s.pins ∧
    (s.closeTach).appliance = s.appliance ∧ (s.closeTach).profiles = s.profiles ∧ (s.closeTach).scanner = s.scanner ∧
    (s.closeTach).table = s.table ∧ (s.closeTach).seq = s.seq ∧ (s.closeTach).reg = s.reg ∧
    (s.closeTach).alloc = s.alloc ∧ (s.closeTach).drive = s.drive ∧ (s.closeTach).locks = s.locks ∧
    (s.closeTach).limit = s.limit ∧ (s.closeTach).link = s.link ∧ (s.closeTach).mail = s.mail ∧
    (s.closeTach).free = s.free :=
  ⟨rfl, rfl, rfl, rfl, rfl, rfl, rfl, rfl, rfl, rfl, rfl, rfl, rfl, rfl, rfl, rfl⟩

@[simp] theorem State.stallTest_frame (s : State) (rpm : Nat) :
    (s.stallTest rpm).pending = s.pending ∧ (s.stallTest rpm).clock = s.clock ∧ (s.stallTest rpm).pins = s.pins ∧
    (s.stallTest rpm).appliance = s.appliance ∧ (s.stallTest rpm).profiles = s.profiles ∧
    (s.stallTest rpm).scanner = s.scanner ∧ (s.stallTest rpm).table = s.table ∧ (s.stallTest rpm).seq = s.seq ∧
    (s.stallTest rpm).reg = s.reg ∧ (s.stallTest rpm).locks = s.locks ∧ (s.stallTest rpm).free = s.free := by
  refine ⟨?_, ?_, ?_, ?_, ?_, ?_, ?_, ?_, ?_, ?_, ?_⟩ <;> (simp only [State.stallTest]; (repeat' split) <;> simp)

@[simp] theorem State.recoveryTest_frame (s : State) (rpm : Nat) :
    (s.recoveryTest rpm).pending = s.pending ∧ (s.recoveryTest rpm).clock = s.clock ∧
    (s.recoveryTest rpm).pins = s.pins ∧ (s.recoveryTest rpm).appliance = s.appliance ∧
    (s.recoveryTest rpm).profiles = s.profiles ∧ (s.recoveryTest rpm).scanner = s.scanner ∧
    (s.recoveryTest rpm).table = s.table ∧ (s.recoveryTest rpm).seq = s.seq ∧ (s.recoveryTest rpm).reg = s.reg ∧
    (s.recoveryTest rpm).alloc = s.alloc ∧ (s.recoveryTest rpm).drive = s.drive ∧
    (s.recoveryTest rpm).locks = s.locks ∧ (s.recoveryTest rpm).limit = s.limit ∧
    (s.recoveryTest rpm).mail = s.mail ∧ (s.recoveryTest rpm).free = s.free := by
  refine ⟨?_, ?_, ?_, ?_, ?_, ?_, ?_, ?_, ?_, ?_, ?_, ?_, ?_, ?_, ?_⟩ <;>
    (simp only [State.recoveryTest]; (repeat' split) <;> simp)

@[simp] theorem State.speedTest_frame (s : State) (rpm : Nat) :
    (s.speedTest rpm).pending = s.pending ∧ (s.speedTest rpm).clock = s.clock ∧ (s.speedTest rpm).pins = s.pins ∧
    (s.speedTest rpm).appliance = s.appliance ∧ (s.speedTest rpm).profiles = s.profiles ∧
    (s.speedTest rpm).scanner = s.scanner ∧ (s.speedTest rpm).table = s.table ∧ (s.speedTest rpm).seq = s.seq ∧
    (s.speedTest rpm).reg = s.reg ∧ (s.speedTest rpm).locks = s.locks ∧ (s.speedTest rpm).free = s.free := by
  refine ⟨?_, ?_, ?_, ?_, ?_, ?_, ?_, ?_, ?_, ?_, ?_⟩ <;> (simp only [State.speedTest]; split <;> simp)

@[simp] theorem State.formDemand_frame (s : State) :
    (s.formDemand).pending = s.pending ∧ (s.formDemand).clock = s.clock ∧ (s.formDemand).pins = s.pins ∧
    (s.formDemand).appliance = s.appliance ∧ (s.formDemand).profiles = s.profiles ∧
    (s.formDemand).scanner = s.scanner ∧ (s.formDemand).table = s.table ∧ (s.formDemand).seq = s.seq ∧
    (s.formDemand).reg = s.reg ∧ (s.formDemand).alloc = s.alloc ∧ (s.formDemand).drive = s.drive ∧
    (s.formDemand).locks = s.locks ∧ (s.formDemand).limit = s.limit ∧ (s.formDemand).link = s.link ∧
    (s.formDemand).mail = s.mail ∧ (s.formDemand).free = s.free :=
  ⟨rfl, rfl, rfl, rfl, rfl, rfl, rfl, rfl, rfl, rfl, rfl, rfl, rfl, rfl, rfl, rfl⟩

@[simp] theorem evaluateFan_frame (s : State) :
    (evaluateFan s).pending = s.pending ∧ (evaluateFan s).clock = s.clock ∧ (evaluateFan s).pins = s.pins ∧
    (evaluateFan s).appliance = s.appliance ∧ (evaluateFan s).profiles = s.profiles ∧
    (evaluateFan s).scanner = s.scanner ∧ (evaluateFan s).table = s.table ∧ (evaluateFan s).seq = s.seq ∧
    (evaluateFan s).reg = s.reg ∧ (evaluateFan s).locks = s.locks ∧ (evaluateFan s).free = s.free := by
  refine ⟨?_, ?_, ?_, ?_, ?_, ?_, ?_, ?_, ?_, ?_, ?_⟩ <;> (simp [evaluateFan])

@[simp] theorem State.disableFan_frame (s : State) (c : Cavity) :
    (s.disableFan c).pending = s.pending ∧ (s.disableFan c).clock = s.clock ∧ (s.disableFan c).pins = s.pins ∧
    (s.disableFan c).appliance = s.appliance ∧ (s.disableFan c).profiles = s.profiles ∧
    (s.disableFan c).scanner = s.scanner ∧ (s.disableFan c).table = s.table ∧ (s.disableFan c).seq = s.seq ∧
    (s.disableFan c).reg = s.reg ∧ (s.disableFan c).alloc = s.alloc ∧ (s.disableFan c).drive = s.drive ∧
    (s.disableFan c).locks = s.locks ∧ (s.disableFan c).limit = s.limit ∧ (s.disableFan c).link = s.link ∧
    (s.disableFan c).mail = s.mail ∧ (s.disableFan c).free = s.free :=
  ⟨rfl, rfl, rfl, rfl, rfl, rfl, rfl, rfl, rfl, rfl, rfl, rfl, rfl, rfl, rfl, rfl⟩

@[simp] theorem State.enableFan_frame (s : State) (c : Cavity) :
    (s.enableFan c).pending = s.pending ∧ (s.enableFan c).clock = s.clock ∧ (s.enableFan c).pins = s.pins ∧
    (s.enableFan c).appliance = s.appliance ∧ (s.enableFan c).profiles = s.profiles ∧
    (s.enableFan c).scanner = s.scanner ∧ (s.enableFan c).table = s.table ∧ (s.enableFan c).seq = s.seq ∧
    (s.enableFan c).reg = s.reg ∧ (s.enableFan c).alloc = s.alloc ∧ (s.enableFan c).drive = s.drive ∧
    (s.enableFan c).locks = s.locks ∧ (s.enableFan c).limit = s.limit ∧ (s.enableFan c).link = s.link ∧
    (s.enableFan c).mail = s.mail ∧ (s.enableFan c).free = s.free :=
  ⟨rfl, rfl, rfl, rfl, rfl, rfl, rfl, rfl, rfl, rfl, rfl, rfl, rfl, rfl, rfl, rfl⟩

/-! ### Link -/

@[simp] theorem State.heard_frame (s : State) :
    (s.heard).pending = s.pending ∧ (s.heard).clock = s.clock ∧ (s.heard).pins = s.pins ∧
    (s.heard).appliance = s.appliance ∧ (s.heard).profiles = s.profiles ∧ (s.heard).scanner = s.scanner ∧
    (s.heard).table = s.table ∧ (s.heard).seq = s.seq ∧ (s.heard).reg = s.reg ∧ (s.heard).locks = s.locks ∧
    (s.heard).fan = s.fan ∧ (s.heard).limit = s.limit ∧ (s.heard).mail = s.mail ∧ (s.heard).free = s.free := by
  refine ⟨?_, ?_, ?_, ?_, ?_, ?_, ?_, ?_, ?_, ?_, ?_, ?_, ?_, ?_⟩ <;> (simp only [State.heard]; split <;> simp)

@[simp] theorem quietReached_frame (s : State) :
    (quietReached s).pending = s.pending ∧ (quietReached s).clock = s.clock ∧ (quietReached s).pins = s.pins ∧
    (quietReached s).appliance = s.appliance ∧ (quietReached s).profiles = s.profiles ∧
    (quietReached s).scanner = s.scanner ∧ (quietReached s).table = s.table ∧ (quietReached s).seq = s.seq ∧
    (quietReached s).reg = s.reg ∧ (quietReached s).locks = s.locks ∧ (quietReached s).fan = s.fan ∧
    (quietReached s).limit = s.limit ∧ (quietReached s).mail = s.mail ∧ (quietReached s).free = s.free := by
  refine ⟨?_, ?_, ?_, ?_, ?_, ?_, ?_, ?_, ?_, ?_, ?_, ?_, ?_, ?_⟩ <;> (simp only [quietReached]; split <;> simp)

@[simp] theorem takeBreak_frame (s : State) :
    (takeBreak s).pending = s.pending ∧ (takeBreak s).clock = s.clock ∧ (takeBreak s).pins = s.pins ∧
    (takeBreak s).appliance = s.appliance ∧ (takeBreak s).profiles = s.profiles ∧ (takeBreak s).scanner = s.scanner ∧
    (takeBreak s).table = s.table ∧ (takeBreak s).seq = s.seq ∧ (takeBreak s).reg = s.reg ∧
    (takeBreak s).locks = s.locks ∧ (takeBreak s).fan = s.fan ∧ (takeBreak s).limit = s.limit ∧
    (takeBreak s).mail = s.mail ∧ (takeBreak s).free = s.free := by
  refine ⟨?_, ?_, ?_, ?_, ?_, ?_, ?_, ?_, ?_, ?_, ?_, ?_, ?_, ?_⟩ <;> (simp only [takeBreak]; split <;> simp)

@[simp] theorem lineHigh_frame (s : State) :
    (lineHigh s).pending = s.pending ∧ (lineHigh s).clock = s.clock ∧ (lineHigh s).pins = s.pins ∧
    (lineHigh s).appliance = s.appliance ∧ (lineHigh s).profiles = s.profiles ∧ (lineHigh s).scanner = s.scanner ∧
    (lineHigh s).table = s.table ∧ (lineHigh s).seq = s.seq ∧ (lineHigh s).reg = s.reg ∧
    (lineHigh s).alloc = s.alloc ∧ (lineHigh s).drive = s.drive ∧ (lineHigh s).locks = s.locks ∧
    (lineHigh s).fan = s.fan ∧ (lineHigh s).limit = s.limit ∧ (lineHigh s).mail = s.mail ∧ (lineHigh s).free = s.free := by
  refine ⟨?_, ?_, ?_, ?_, ?_, ?_, ?_, ?_, ?_, ?_, ?_, ?_, ?_, ?_, ?_, ?_⟩ <;> (simp only [lineHigh]; split <;> simp)

@[simp] theorem characterGap_frame (s : State) :
    (characterGap s).pending = s.pending ∧ (characterGap s).clock = s.clock ∧ (characterGap s).pins = s.pins ∧
    (characterGap s).appliance = s.appliance ∧ (characterGap s).profiles = s.profiles ∧
    (characterGap s).scanner = s.scanner ∧ (characterGap s).table = s.table ∧ (characterGap s).seq = s.seq ∧
    (characterGap s).reg = s.reg ∧ (characterGap s).alloc = s.alloc ∧ (characterGap s).drive = s.drive ∧
    (characterGap s).locks = s.locks ∧ (characterGap s).fan = s.fan ∧ (characterGap s).limit = s.limit ∧
    (characterGap s).mail = s.mail ∧ (characterGap s).free = s.free := by
  refine ⟨?_, ?_, ?_, ?_, ?_, ?_, ?_, ?_, ?_, ?_, ?_, ?_, ?_, ?_, ?_, ?_⟩ <;>
    (simp only [characterGap]; split <;> simp)

@[simp] theorem completeReply_frame (s : State) :
    (completeReply s).pending = s.pending ∧ (completeReply s).clock = s.clock ∧ (completeReply s).pins = s.pins ∧
    (completeReply s).appliance = s.appliance ∧ (completeReply s).profiles = s.profiles ∧
    (completeReply s).scanner = s.scanner ∧ (completeReply s).table = s.table ∧ (completeReply s).seq = s.seq ∧
    (completeReply s).reg = s.reg ∧ (completeReply s).alloc = s.alloc ∧ (completeReply s).drive = s.drive ∧
    (completeReply s).locks = s.locks ∧ (completeReply s).fan = s.fan ∧ (completeReply s).limit = s.limit ∧
    (completeReply s).mail = s.mail ∧ (completeReply s).free = s.free := by
  refine ⟨?_, ?_, ?_, ?_, ?_, ?_, ?_, ?_, ?_, ?_, ?_, ?_, ?_, ?_, ?_, ?_⟩ <;>
    (simp only [completeReply]; split <;> simp)

@[simp] theorem State.answer_frame (s : State) (h : Header) (code : Nat) (cavity : Option Cavity) (r : Reply) :
    (s.answer h code cavity r).pending = s.pending ∧ (s.answer h code cavity r).clock = s.clock ∧
    (s.answer h code cavity r).pins = s.pins ∧ (s.answer h code cavity r).appliance = s.appliance ∧
    (s.answer h code cavity r).profiles = s.profiles ∧ (s.answer h code cavity r).scanner = s.scanner ∧
    (s.answer h code cavity r).table = s.table ∧ (s.answer h code cavity r).seq = s.seq ∧
    (s.answer h code cavity r).reg = s.reg ∧ (s.answer h code cavity r).alloc = s.alloc ∧
    (s.answer h code cavity r).drive = s.drive ∧ (s.answer h code cavity r).locks = s.locks ∧
    (s.answer h code cavity r).fan = s.fan ∧ (s.answer h code cavity r).limit = s.limit ∧
    (s.answer h code cavity r).mail = s.mail ∧ (s.answer h code cavity r).free = s.free := by
  refine ⟨?_, ?_, ?_, ?_, ?_, ?_, ?_, ?_, ?_, ?_, ?_, ?_, ?_, ?_, ?_, ?_⟩ <;>
    (simp only [State.answer]; (repeat' split) <;> simp)

@[simp] theorem takeUnknown_frame (h : Header) (code : Nat) (s : State) :
    (takeUnknown h code s).pending = s.pending ∧ (takeUnknown h code s).clock = s.clock ∧
    (takeUnknown h code s).pins = s.pins ∧ (takeUnknown h code s).appliance = s.appliance ∧
    (takeUnknown h code s).profiles = s.profiles ∧ (takeUnknown h code s).scanner = s.scanner ∧
    (takeUnknown h code s).table = s.table ∧ (takeUnknown h code s).seq = s.seq ∧
    (takeUnknown h code s).reg = s.reg ∧ (takeUnknown h code s).locks = s.locks ∧
    (takeUnknown h code s).fan = s.fan ∧ (takeUnknown h code s).limit = s.limit ∧
    (takeUnknown h code s).mail = s.mail ∧ (takeUnknown h code s).free = s.free := by
  refine ⟨?_, ?_, ?_, ?_, ?_, ?_, ?_, ?_, ?_, ?_, ?_, ?_, ?_, ?_⟩ <;> (simp only [takeUnknown]; split <;> simp)

/-! ### Profiles -/

@[simp] theorem disableCavity_frame (s : State) (c : Cavity) :
    (disableCavity s c).pending = s.pending ∧ (disableCavity s c).clock = s.clock ∧
    (disableCavity s c).pins = s.pins ∧ (disableCavity s c).appliance = s.appliance ∧
    (disableCavity s c).profiles = s.profiles ∧ (disableCavity s c).link = s.link ∧ (disableCavity s c).free = s.free := by
  refine ⟨?_, ?_, ?_, ?_, ?_, ?_, ?_⟩ <;> (simp [disableCavity])

@[simp] theorem enableCavity_frame (s : State) (c : Cavity) :
    (enableCavity s c).pending = s.pending ∧ (enableCavity s c).clock = s.clock ∧ (enableCavity s c).pins = s.pins ∧
    (enableCavity s c).appliance = s.appliance ∧ (enableCavity s c).profiles = s.profiles ∧
    (enableCavity s c).table = s.table ∧ (enableCavity s c).reg = s.reg ∧ (enableCavity s c).free = s.free := by
  refine ⟨?_, ?_, ?_, ?_, ?_, ?_, ?_, ?_⟩ <;> (simp [enableCavity])

@[simp] theorem State.acceptAppliance_frame (s : State) (a : ApplianceProfile) :
    (s.acceptAppliance a).pending = s.pending ∧ (s.acceptAppliance a).clock = s.clock ∧
    (s.acceptAppliance a).pins = s.pins ∧ (s.acceptAppliance a).profiles = s.profiles ∧
    (s.acceptAppliance a).free = s.free := by
  refine ⟨?_, ?_, ?_, ?_, ?_⟩ <;>
    (unfold State.acceptAppliance; dsimp only; (repeat' split) <;> (try simp) <;> (repeat (first | rfl | (refine (foldl_keeps _ _ (fun s x => by (try dsimp only); (repeat' split) <;> simp) _ _).trans ?_) | (simp; done))))

@[simp] theorem State.acceptProfile_frame (s : State) (c : Cavity) (x : CavityProfile) :
    (s.acceptProfile c x).pending = s.pending ∧ (s.acceptProfile c x).clock = s.clock ∧
    (s.acceptProfile c x).pins = s.pins ∧ (s.acceptProfile c x).appliance = s.appliance ∧
    (s.acceptProfile c x).scanner = s.scanner ∧ (s.acceptProfile c x).table = s.table ∧
    (s.acceptProfile c x).locks = s.locks ∧ (s.acceptProfile c x).fan = s.fan ∧
    (s.acceptProfile c x).limit = s.limit ∧ (s.acceptProfile c x).link = s.link ∧
    (s.acceptProfile c x).mail = s.mail ∧ (s.acceptProfile c x).free = s.free := by
  refine ⟨?_, ?_, ?_, ?_, ?_, ?_, ?_, ?_, ?_, ?_, ?_, ?_⟩ <;> (simp [State.acceptProfile])

/-! ### Requests -/

@[simp] theorem State.clearTrip_frame (s : State) (c : Cavity) :
    (s.clearTrip c).pending = s.pending ∧ (s.clearTrip c).clock = s.clock ∧ (s.clearTrip c).pins = s.pins ∧
    (s.clearTrip c).appliance = s.appliance ∧ (s.clearTrip c).profiles = s.profiles ∧
    (s.clearTrip c).scanner = s.scanner ∧ (s.clearTrip c).table = s.table ∧ (s.clearTrip c).reg = s.reg ∧
    (s.clearTrip c).alloc = s.alloc ∧ (s.clearTrip c).drive = s.drive ∧ (s.clearTrip c).locks = s.locks ∧
    (s.clearTrip c).fan = s.fan ∧ (s.clearTrip c).free = s.free := by
  refine ⟨?_, ?_, ?_, ?_, ?_, ?_, ?_, ?_, ?_, ?_, ?_, ?_, ?_⟩ <;> (simp only [State.clearTrip]; split <;> simp)

/-! ### PowerUp -/

@[simp] theorem State.poweredUp_frame (s : State) (pins : PowerUpPins) :
    (s.poweredUp pins).pending = s.pending ∧ (s.poweredUp pins).free = s.free :=
  ⟨rfl, rfl⟩

@[simp] theorem recoverCavity_frame (s : State) (c : Cavity) :
    (recoverCavity s c).pending = s.pending ∧ (recoverCavity s c).clock = s.clock ∧
    (recoverCavity s c).pins = s.pins ∧ (recoverCavity s c).appliance = s.appliance ∧
    (recoverCavity s c).profiles = s.profiles ∧ (recoverCavity s c).scanner = s.scanner ∧
    (recoverCavity s c).table = s.table ∧ (recoverCavity s c).reg = s.reg ∧ (recoverCavity s c).locks = s.locks ∧
    (recoverCavity s c).fan = s.fan ∧ (recoverCavity s c).free = s.free := by
  refine ⟨?_, ?_, ?_, ?_, ?_, ?_, ?_, ?_, ?_, ?_, ?_⟩ <;> (simp only [recoverCavity]; split <;> simp)

@[simp] theorem powerUp_frame (pins : PowerUpPins) (s : State) :
    (powerUp pins s).pending = s.pending ∧ (powerUp pins s).free = s.free := by
  refine ⟨?_, ?_⟩ <;> (simp [powerUp, Cavity.all])

end Sys2Proof.Machine
end

