-- ==== Sys2Proof/Laws/Operations.lean ====
section
/-! SUPPORT. What the shared operations do: for each, one lemma that names every case it has, so that a proof cites it in
place of unfolding the operation. -/

namespace Sys2Proof.Machine

/-! ### Relays and grants -/

/-- Opening a relay leaves it OPEN and touches no other (R113). -/
theorem openRelay_relays (s : State) (c d : Cavity) :
    (s.openRelay c).drive.relays.get d =
      if d = c then (if s.relayClosed c then SupplyRelay.opened else s.drive.relays.get c)
      else s.drive.relays.get d := by
  unfold State.openRelay State.setRelay
  split
  · simp
  · split
    · rename_i h
      rw [h]
    · rfl

theorem openRelay_open (s : State) (c : Cavity) : (s.openRelay c).relayClosed c = false := by
  unfold State.relayClosed
  rw [openRelay_relays, if_pos rfl]
  split
  · rfl
  · rename_i h
    simpa [State.relayClosed] using h

/-- Opening a relay changes nothing of the Drive but the relays. -/
theorem openRelay_outputs (s : State) (c : Cavity) :
    (s.openRelay c).drive.outputs = s.drive.outputs ∧ (s.openRelay c).drive.handed = s.drive.handed := by
  unfold State.openRelay State.setRelay
  split <;> exact ⟨rfl, rfl⟩

/-- Dropping a cavity's grants leaves the list without them, and nothing else of the Allocator changes (R103, R104). -/
theorem dropCavityGrants_alloc (s : State) (c : Cavity) :
    (s.dropCavityGrants c).alloc = { s.alloc with grants := s.alloc.grants.filter fun x => decide (x.1 ≠ c) } := by
  unfold State.dropCavityGrants State.setGrants
  split
  · rfl
  · rename_i h
    have hf : (s.alloc.grants.filter fun x => decide (x.1 ≠ c)) = s.alloc.grants := by
      rw [List.filter_eq_self]
      intro x hx
      simp only [List.any_eq_true, decide_eq_true_eq, not_exists, not_and] at h
      simpa using h x hx
    rw [hf]

/-- Dropping a cavity's grants switches outputs, and no supply relay (R111, R113). -/
@[simp] theorem dropCavityGrants_relays (s : State) (c : Cavity) :
    (s.dropCavityGrants c).drive.relays = s.drive.relays := by
  unfold State.dropCavityGrants
  split <;> rfl

/-- Dropping one element's grant leaves the list without it (R117). -/
theorem dropGrant_alloc (s : State) (x : CavityElement) :
    (s.dropGrant x).alloc = { s.alloc with grants := s.alloc.grants.filter fun y => decide (y ≠ x) } := by
  unfold State.dropGrant State.setGrants
  split
  · rfl
  · rename_i h
    have hf : (s.alloc.grants.filter fun y => decide (y ≠ x)) = s.alloc.grants := by
      rw [List.filter_eq_self]
      intro y hy
      simp only [decide_eq_true_eq]
      rintro rfl
      exact h (by simpa using hy)
    rw [hf]

/-- Grants that are set are followed by the Drive (R111). -/
theorem setGrants_drivesFollow (s : State) (g : List CavityElement) : (s.setGrants g).drivesFollow := by
  intro o ho
  simp only [State.setGrants, Drive.follow, Vector.toList_map, List.mem_map] at ho
  obtain ⟨o', _, rfl⟩ := ho
  rfl

/-! ### The budget -/

theorem keepFitting_suffix (watts : CavityElement → Nat) (budget : Nat) (l : List CavityElement) :
    keepFitting watts budget l <:+ l := by
  induction l with
  | nil => exact List.suffix_refl _
  | cons x l ih =>
    unfold keepFitting
    split
    · exact List.suffix_refl _
    · exact ih.trans (List.suffix_cons x l)

theorem keepFitting_fits (watts : CavityElement → Nat) (budget : Nat) (l : List CavityElement) :
    ((keepFitting watts budget l).map watts).sum ≤ budget := by
  induction l with
  | nil => exact Nat.zero_le _
  | cons x l ih =>
    unfold keepFitting
    split
    · assumption
    · exact ih

/-- The grants kept are the front of the list (R86). -/
theorem kept_prefix (a : Allocator) : a.kept <+: a.grants := by
  obtain ⟨l, hl⟩ := keepFitting_suffix a.watts a.available a.grants.reverse
  exact ⟨l.reverse, by rw [Allocator.kept, ← List.reverse_append, hl, List.reverse_reverse]⟩

theorem kept_fits (a : Allocator) : a.sumOf a.kept ≤ a.available := by
  unfold Allocator.sumOf Allocator.kept
  rw [List.map_reverse, List.sum_reverse]
  exact keepFitting_fits ..

/-! ### Supervision -/

/-- All that raising a cause can do (R157, R162, R163). -/
theorem raise_cases (s : State) (c : Cavity) (k : Cause) :
    s.raise c k = s ∨
    (k.applies (s.seq.get c).state = true ∧ (s.limit.cavity.get c).active = none ∧ s.raise c k = s.trip c k) ∨
    (k.applies (s.seq.get c).state = true ∧ ∃ r, (s.limit.cavity.get c).active = some r ∧
      s.raise c k = s.laterCause c r k) := by
  unfold State.raise
  split
  · rename_i h
    split <;> rename_i ha
    · exact .inr (.inl ⟨h, ha, rfl⟩)
    · exact .inr (.inr ⟨h, _, ha, rfl⟩)
  · exact .inl rfl

/-- A cause that applies leaves the cavity tripped; none clears a trip (R162, R163). -/
theorem raise_tripped (s : State) (c d : Cavity) (k : Cause) (h : s.tripped d = true) :
    (s.raise c k).tripped d = true := by
  unfold State.tripped at *
  rcases raise_cases s c k with e | ⟨_, ha, e⟩ | ⟨_, r, ha, e⟩ <;> rw [e]
  · exact h
  · by_cases hd : d = c
    · subst hd
      rw [ha] at h
      cases h
    · simp [State.trip, State.setLimit, hd, h]
  · unfold State.laterCause
    split
    · exact h
    · by_cases hd : d = c <;> simp [State.setLimit, hd, h]

theorem raise_trips (s : State) (c : Cavity) (k : Cause) (h : k.applies (s.seq.get c).state = true) :
    (s.raise c k).tripped c = true := by
  unfold State.raise State.tripped
  rw [if_pos h]
  split <;> rename_i ha
  · simp [State.trip, State.setLimit]
  · unfold State.laterCause
    split
    · rw [ha]; rfl
    · simp [State.setLimit]

/-- A cause that applies is the first cause of a new record, with the supply relay OPEN, or joins the record that stands
(R162, R163). -/
theorem raise_raises (s : State) (c : Cavity) (k : Cause) (h : k.applies (s.seq.get c).state = true) :
    CauseRaised s (s.raise c k) c k := by
  unfold State.raise
  rw [if_pos h]
  split <;> rename_i ha
  · have hr : ((s.trip c k).limit.cavity.get c).active = some (s.newTrip c k) := by
      simp [State.trip, State.setLimit]
    have ho : (s.trip c k).relayClosed c = false := by
      have := openRelay_open (s.setLimit c { s.limit.cavity.get c with active := some (s.newTrip c k) }) c
      simpa [State.trip, State.tripWithdraw, State.relayClosed] using this
    exact ⟨⟨_, hr, .inl rfl⟩, fun _ => ⟨ho, _, hr, rfl⟩, fun r hs => by rw [ha] at hs; cases hs⟩
  · rename_i r
    have ht : s.tripped c = true := by simp [State.tripped, ha]
    unfold State.laterCause
    split
    · rename_i hk
      exact ⟨⟨r, ha, hk⟩, fun n => by simp [ht] at n, fun r' hr => ⟨r', hr, rfl⟩⟩
    · refine ⟨⟨{ r with later := r.later ++ [k] }, by simp [State.setLimit], .inr (by simp)⟩,
        fun n => by simp [ht] at n, fun r' hr => ?_⟩
      rw [ha] at hr
      cases hr
      exact ⟨{ r with later := r.later ++ [k] }, by simp [State.setLimit], rfl⟩

/-- Raising a cause takes none from any record (R163). -/
theorem raise_holdsCause (s : State) (c d : Cavity) (j k : Cause) (h : s.holdsCause d j) :
    (s.raise c k).holdsCause d j := by
  obtain ⟨x, hx, hj⟩ := h
  unfold State.holdsCause
  rcases raise_cases s c k with e | ⟨_, ha, e⟩ | ⟨_, r, ha, e⟩ <;> rw [e]
  · exact ⟨x, hx, hj⟩
  · by_cases hd : d = c
    · subst hd
      rw [ha] at hx
      cases hx
    · exact ⟨x, by simp [State.trip, State.setLimit, hd, hx], hj⟩
  · unfold State.laterCause
    split
    · exact ⟨x, hx, hj⟩
    · by_cases hd : d = c
      · subst hd
        rw [ha] at hx
        cases hx
        exact ⟨{ x with later := x.later ++ [k] }, by simp [State.setLimit],
          hj.imp id (fun m => List.mem_append_left _ m)⟩
      · exact ⟨x, by simp [State.setLimit, hd, hx], hj⟩

/-- All that an order to close a supply relay can do (R112). -/
theorem closeRelay_cases (s : State) (c : Cavity) :
    s.closeRelay c = s ∨ s.closeRelay c = s.raise c .relayStuck ∨
    (s.tripped c = false ∧ s.hasStuck c = false ∧ s.relayClosed c = false ∧
      s.closeRelay c = (s.setRelay c { closedAt := some s.clock, sinceSlot := false }).sendRelayClosing c) := by
  unfold State.closeRelay
  split
  · exact .inl rfl
  · split
    · exact .inr (.inl rfl)
    · split
      · exact .inl rfl
      · rename_i h₁ h₂ h₃
        exact .inr (.inr ⟨by simpa using h₁, by simpa using h₂, by simpa using h₃, rfl⟩)

/-! ### The settling test -/

/-- All that the settling test can do (R54, R57). -/
theorem settlingTest_cases (s : State) (c : Cavity) :
    s.settlingTest c = s ∨
    s.settlingTest c = s.setSeq c { s.seq.get c with lockOwned := false }.leave ∨
    ((s.locks.get c).state = .jammed ∧ (s.seq.get c).lockOwned = true ∧ s.settlingTest c = s.giveUpLock c) ∨
    ((s.seq.get c).lockOwned = false ∧ s.settlingTest c = s.setSeq c (s.seq.get c).leave) := by
  unfold State.settlingTest
  dsimp only
  split <;> rename_i h
  · exact .inl rfl
  · exact .inl rfl
  · exact .inr (.inl rfl)
  · exact .inl rfl
  · rename_i hl
    exact .inr (.inr (.inl ⟨hl, h, rfl⟩))
  · rename_i ho _
    exact .inr (.inr (.inr ⟨ho, rfl⟩))

/-- The settling test as one table of lock state and lock-owned (R54, R57). -/
theorem settlingTest_eq (s : State) (c : Cavity) : s.settlingTest c = s.settledFrom c := by
  unfold State.settlingTest State.settledFrom State.giveUpLock State.orderGiveUp
  cases hl : (s.locks.get c).state <;> cases ho : (s.seq.get c).lockOwned <;>
    simp [hl, ho, Sequencer.leave, State.setSeq, State.setLock]

/-- What a phase begin writes into the Allocator: the element set, and for HEAT or SOAK the tier with its ring (R43,
R93). -/
theorem phaseBegin_alloc (s : State) (c : Cavity) (r : PhaseRecord) :
    (let s₁ := s.writeElements c r.elements
     if r.kind.heats then s₁.writeTier c r.tier else s₁).alloc = s.alloc.begun c r := by
  unfold State.writeElements State.writeTier State.setDemand State.setAlloc Allocator.begun
  cases r.kind.heats
  · simp
  · by_cases ht : (s.alloc.demand.get c).tier = r.tier
    · simp [ht]
    · have ht' : ¬ r.tier = (s.alloc.demand.get c).tier := fun h => ht h.symm
      cases hr : r.tier <;> simp_all [Allocator.leaveRings, Allocator.joinRing]

/-- The quiet time is reached exactly in ACTIVE with the timer at its last tenth (R178). -/
theorem quietExpires_iff (l : Link) : l.quietExpires = true ↔ l.state = .active ∧ l.quiet = some 49 := by
  rw [Link.quietExpires, Bool.and_eq_true]
  exact and_congr decide_eq_true_iff decide_eq_true_iff

/-- What QUIET_TIMEOUT can do: the link enters QUIET and the budget is worked out afresh, or nothing (R178). -/
theorem quietReached_cases (s : State) :
    (s.link.quietExpires = true ∧
      quietReached s = { s with link := { s.link with state := .quiet, quiet := none } }.rebudget) ∨
    (s.link.quietExpires = false ∧ quietReached s = s) := by
  cases h : s.link.quietExpires <;> simp [quietReached, h, State.setLink]

/-- Leaving SETTLING or RECOVERING, a Sequencer stands in FAULTED or IDLE by its outcome alone (R54). -/
theorem leave_state (q : Sequencer) :
    q.leave = { q with state := if q.outcome = some .tripped then .faulted else .idle } := rfl

end Sys2Proof.Machine
end

