-- ==== Sys2Proof/Tests/Slice0.lean ====
section
/-! SUPPORT. The model's own tests: terms that the well-formedness checks refuse, the reference's worked examples, one
step of many commands, and for each statement with hypotheses a state and operands that meet them. -/

namespace Sys2Proof.Tests

set_option Elab.async false

open Sys2Proof Sys2Proof.Machine

/-! ## Helpers -/

/-- A request's header: to this node, not posted. -/
def toNode : Header := ⟨false, false⟩

/-- A broadcast request's header. -/
def broadcast : Header := ⟨true, false⟩

/-- A HEAT record to 200.0 °C with two elements, its successor at position 1. -/
def heat : PhaseRecord :=
  { kind := .heat, target := some 2000, ramp := none, duration := none, limit := none, onLimit := .advance,
    elements := ⟨true, true, false, false⟩, convection := true, fanFloor := 1, locked := false, tier := .one,
    gate := none, next := some 1 }

/-- A COOL record to 60.0 °C that ends its chain. -/
def cool : PhaseRecord :=
  { heat with kind := .cool, target := some 600, elements := .empty, convection := false, next := none }

/-- A SOAK record of ten seconds, its successor at position 1. -/
def soak : PhaseRecord := { heat with kind := .soak, duration := some 10 }

/-- A DWELL record of ten seconds that ends its chain. -/
def dwell : PhaseRecord := { cool with kind := .dwell, target := none, duration := some 10 }

/-- A locked HEAT record that ends its chain. -/
def clean : PhaseRecord := { heat with target := some 4800, locked := true, next := none }

/-- A cavity reading of 200.0 °C with both probes VALID. -/
def warm : CavityReading :=
  { uptime := 10, probe := .valid, probeT := some 2000, probeTf := some 2000, catalyst := .valid,
    catalystT := some 1000, catalystTf := some 1000 }

/-- The same reading at another cavity temperature and grade. -/
def reads (probe : ChannelState) (t : Option Int) : CavityReading :=
  { warm with probe := probe, probeT := t, probeTf := t }

/-- Cavity 0 IDLE, bound to a profile with two elements on outputs 0 and 1, its latest reading VALID; records stand at
positions 0 to 3. -/
def ready : State :=
  { State.reset with
    table := (((State.reset.table.set 0 (some heat)).set 1 (some cool)).set 2 (some clean)).set 3 (some soak)
    profiles := State.reset.profiles.set .c0 { CavityProfile.default with
      outputs := ⟨some 0, some 1, none, none⟩, ratings := ⟨1200, 1100, 0, 0⟩ }
    seq := State.reset.seq.set .c0 { Sequencer.fresh .idle with bound := true }
    scanner := { Scanner.powerUp with latest := Scanner.powerUp.latest.set .c0 (some warm) }
    drive := { Drive.powerUp with
      outputs := (Drive.powerUp.outputs.set 0 { OutputRecord.unmapped with owner := some (.c0, .upper), rating := some 1200 }).set
        1 { OutputRecord.unmapped with owner := some (.c0, .lower), rating := some 1100 } } }

/-- `ready` with cavity 0's mailbox changed. -/
def withBox (s : State) (b : Mailbox) : State := { s with mail := { s.mail with cavity := s.mail.cavity.set .c0 b } }

/-- `ready` with cavity 0's Sequencer changed. -/
def withSeq (s : State) (q : Sequencer) : State := { s with seq := s.seq.set .c0 q }

/-- `ready` with cavity 0's lock changed. -/
def withLock (s : State) (l : DoorLock) : State := { s with locks := s.locks.set .c0 l }

/-- `ready` with cavity 0's limit record changed. -/
def withLimit (s : State) (l : LimitRecord) : State :=
  { s with limit := { s.limit with cavity := s.limit.cavity.set .c0 l } }

/-- The context of a Sequencer RUNNING the chain [0, 1] at its first position. -/
def runningContext : Sequencer :=
  { Sequencer.fresh .running with chain := [0, 1], current := some (0, .heat), bound := true }

/-- A trip record of first cause CUTOUT. -/
def tripRecord : TripRecord := { first := .cutout, uptime := 3, tf := none, position := none, later := [] }

/-- A request record of one element. -/
def requestOf (output watts : Nat) : RequestRecord :=
  { output := output, watts := watts, q := 15, g := 1, deferral := 0, overdue := false, held := false }

/-- Cavity 0 RUNNING its HEAT record under a supply of 3000 W, its first element granted, with the link ACTIVE. -/
def heating : State :=
  { ready with
    seq := ready.seq.set .c0 runningContext
    alloc := { Allocator.powerUp with
      supply := 3000, available := 3000, grants := [(.c0, .upper)], slot := 2, started := true
      demand := Allocator.powerUp.demand.set .c0 { u := 500, elements := heat.elements, tier := .one, withdraw := false }
      requests := Allocator.powerUp.requests.set .c0 ⟨some (requestOf 0 1200), some (requestOf 1 1100), none, none⟩ }
    drive := { ready.drive with
      outputs := ready.drive.outputs.set 0 { OutputRecord.unmapped with
        owner := some (.c0, .upper), rating := some 1200, drive := true }
      relays := ready.drive.relays.set .c0 { closedAt := some ⟨5, 0⟩, sinceSlot := true }
      handed := [(.c0, .upper)] }
    link := { ready.link with state := .active, quiet := some 0 } }

/-- A locked lock with its door closed. -/
def lockedLock : DoorLock :=
  { door := .closed, switch := .locked, state := .locked, owner := .cycle, timer := none, reversal := none }

/-- A lock in a moving state, its timer run for 3 s. -/
def moving (state : LockState) (switch : LockSwitch) : DoorLock :=
  { lockedLock with state := state, switch := switch, timer := some 30 }

/-- The state that a command leaves, or the state before it where there is none. -/
def after (i : Instr) (s : State) : State :=
  match exec i s with
  | .next t => t
  | _ => s

/-! ## Well-formedness refuses -/

theorem test_wellFormed_long_payload :
    (Instr.identify toNode (List.replicate 64 0#8)).wellFormed = false := by decide +kernel

theorem test_wellFormed_longest_payload :
    (Instr.identify toNode (List.replicate 63 0#8)).wellFormed = true := by decide +kernel

theorem test_wellFormed_known_kind : (Instr.unknownKind toNode 0x41#7 []).wellFormed = false := by decide +kernel

theorem test_wellFormed_no_characters : (Instr.frameDiscarded []).wellFormed = false := by decide +kernel

theorem test_wellFormed_own_broadcast :
    (Instr.frameForOtherNode (lineChars [0x0F#8, 1#8])).wellFormed = false := by decide +kernel

/-- No word spells a command: the table gives its rows no bits (log entry 26). -/
theorem test_decode_none : decodeTableWord 16 0x41 = none := by decide +kernel

/-! ## Worked examples of the reference -/

/-- Chapter 1, the conversion table's examples. -/
theorem test_conversion :
    [26100, 26460, 9500, 29749].map temperatureOf = [4407, 4513, -129, 5500] := by decide +kernel

/-- Chapter 1, the filter step: F16 70368 with T 4407 and shift 2 gives 70404 and Tf 4400. -/
theorem test_filter : filterStep 2 70368 4407 = 70404 ∧ filtered 70404 = 4400 := by decide +kernel

/-- Chapter 1, the readings after R3: three valid samples give 26100, two give 26099 and an invalid reading. -/
theorem test_raw_reading :
    rawReading [26100, 26102, 33500, 26099] = some 26100 ∧ measuredValid [26100, 26102, 33500, 26099] = true ∧
    rawReading [26100, 33500, 33500, 26099] = some 26099 ∧ measuredValid [26100, 33500, 33500, 26099] = false := by
  decide +kernel

/-- Chapter 10, the CRC of IDENTIFY for node 1. -/
theorem test_crc : frameBytes 1 toNode 0x01#7 [] = [0x01#8, 0x01#8, 0x01#8, 0x79#8] := by decide +kernel

/-- A request of chapter 4's first worked case, at a temperature. -/
def climb (ramp : Option Nat) (tf : Int) (gate : Option Int) (catalystTf : Int) (newPhase : Bool) : RegRequest :=
  { mode := .regulate, kind := some .heat, position := 0, newPhase := newPhase, target := some 4800, ramp := ramp,
    tf := some tf, probe := .valid, catalyst := .valid, catalystTf := some catalystTf, gate := gate }

/-- Chapter 4, from a reading to a slot count: I_acc 420020 and demand 424. -/
theorem test_regulate_climb :
    Regulation.regulate { s60 := some 264000, iAcc := 420000, u := 428, heatSent := false, capInForce := false }
        (climb (some 60) 4400 (some 2500) 2600 false) CavityProfile.default false =
      { s60 := some 264060, iAcc := 420020, u := 424, heatSent := false, capInForce := false } := by decide +kernel

/-- Chapter 4, the catalyst cap and the frozen integral: requests 1 and 2. -/
theorem test_regulate_cap :
    let x₁ := Regulation.regulate { s60 := some 150000, iAcc := 300000, u := 330, heatSent := true, capInForce := false }
      (climb (some 60) 2460 (some 2500) 2380 true) CavityProfile.default false
    x₁ = { s60 := some 147660, iAcc := 300020, u := 250, heatSent := false, capInForce := true } ∧
    x₁.regulate (climb (some 60) 2460 (some 2500) 2440 false) CavityProfile.default false =
      { s60 := some 147720, iAcc := 300020, u := 250, heatSent := false, capInForce := true } := by decide +kernel

/-- Chapter 4, the end of a climb: requests a and b. -/
theorem test_regulate_heat_complete :
    let x₁ := Regulation.regulate { s60 := some 287940, iAcc := 520000, u := 560, heatSent := false, capInForce := false }
      (climb (some 60) 4748 none 2600 false) CavityProfile.default false
    x₁ = { s60 := some 288000, iAcc := 521040, u := 729, heatSent := false, capInForce := false } ∧
    x₁.regulate (climb (some 60) 4751 none 2600 false) CavityProfile.default false =
      { s60 := some 288000, iAcc := 522020, u := 718, heatSent := true, capInForce := false } := by decide +kernel

/-- Chapter 2, the first start's walk, on records that stand at 10 and 11. -/
theorem test_chain_walk :
    chainCheck (fun n => if n = 10 then some { heat with next := some 11 } else if n = 11 then some cool else none)
      (ready.profiles.get .c0) 10 = .ok [10, 11] := by decide +kernel

/-- Chapter 2: a record that names an earlier position fails LOOP there; an unmapped element fails UNMAPPED (R26). -/
theorem test_chain_refused :
    chainCheck (fun n => if n = 1 then some { heat with next := some 1 } else none) (ready.profiles.get .c0) 1 =
      .error (1, .loop) ∧
    chainCheck (fun _ => some { heat with elements := ⟨true, false, true, false⟩ }) (ready.profiles.get .c0) 4 =
      .error (4, .unmapped) := by decide +kernel

/-! ## One step of a command -/

/-- Chapter 5's window with too little supply, at a slot, with the last slot's grants and the records of UPPER, LOWER and
RING; cavity 0 HEAT, cavity 1 SOAK. -/
def shortWindow (slot : Nat) (tier1 : List RingEntry) (grants : List CavityElement) (u l r : RequestRecord) : State :=
  { heating with
    seq := (heating.seq.set .c0 { runningContext with current := some (0, .heat) }).set .c1
      { runningContext with chain := [3, 1], current := some (3, .soak) }
    drive := { Drive.powerUp with relays := ⟨⟨some ⟨0, 0⟩, true⟩, ⟨some ⟨0, 0⟩, true⟩, SupplyRelay.opened⟩ }
    alloc := { Allocator.powerUp with
      supply := 9000, declared := 5500, available := 3500, slot := slot, started := true, tier1 := tier1, grants := grants
      demand := ⟨⟨1000, ⟨true, true, false, false⟩, .one, false⟩, ⟨500, ⟨false, false, true, false⟩, .one, false⟩,
        DemandEntry.powerUp⟩
      requests := ⟨⟨some u, some l, none, none⟩, ⟨none, none, some r, none⟩, noRecords⟩ } }

/-- A request record of the window: watts, Q, G and deferral count. -/
def counted (watts q g deferral : Nat) (overdue : Bool) : RequestRecord :=
  { output := 0, watts := watts, q := q, g := g, deferral := deferral, overdue := overdue, held := false }

/-- Chapter 5, slot 5: RING first as overdue, then UPPER; G 5 / 4 / 1; cavity 1 rotates. -/
theorem test_slot_five :
    let t := after .slotEvent (shortWindow 4 [.cavity .c1, .cavity .c2, .marker, .cavity .c0]
      [(.c0, .upper), (.c0, .lower)] (counted 1200 30 4 0 false) (counted 1100 30 4 0 false) (counted 2200 15 0 4 true))
    t.alloc.grants = [(.c1, .ring), (.c0, .upper)] ∧
    t.alloc.tier1 = [.cavity .c2, .marker, .cavity .c0, .cavity .c1] ∧
    [(Cavity.c0, Element.upper), (.c0, .lower), (.c1, .ring)].map (fun x => (t.alloc.record x).map fun r => (r.g, r.deferral)) =
      [some (5, 0), some (4, 1), some (1, 0)] := by decide +kernel

/-- Chapter 5, the window start after slot 30: POWER_LIMITED for cavity 0 with detail 14, then for cavity 1 with 1. -/
theorem test_window_end :
    let t := after .slotEvent (shortWindow 30 [.cavity .c2, .marker, .cavity .c0, .cavity .c1]
      [(.c0, .upper), (.c1, .ring)] (counted 1200 30 30 0 false) (counted 1100 30 16 2 false) (counted 2200 15 14 0 false))
    (t.link.queue.drop 1).map (fun e => (e.kind, e.cavity, e.detail)) =
      [(.powerLimited, some .c0, some 14), (.powerLimited, some .c1, some 1)] ∧
    t.alloc.slot = 1 ∧ t.alloc.grants = [(.c0, .upper), (.c1, .ring)] ∧
    (t.alloc.record (.c0, .lower)).map (fun r => (r.q, r.g, r.deferral)) = some (30, 0, 3) := by decide +kernel

/-- Chapter 5, the hob comes on: DECLARE LOAD 6500 sheds UPPER, whose G returns to 4. -/
theorem test_declare_load_sheds :
    let t := after (.declareLoad toNode (word 6500)) (shortWindow 5 [.cavity .c2, .marker, .cavity .c0, .cavity .c1]
      [(.c1, .ring), (.c0, .upper)] (counted 1200 30 5 0 false) (counted 1100 30 4 1 false) (counted 2200 15 1 0 false))
    t.alloc.available = 2500 ∧ t.alloc.grants = [(.c1, .ring)] ∧
    (t.alloc.record (.c0, .upper)).map (fun r => (r.g, r.deferral)) = some (4, 1) := by decide +kernel

/-- A start of an unlocked chain enters RUNNING at once and closes the supply relay (R39). -/
theorem test_start :
    let t := after (.startCycle toNode [0#8, 0#8]) ready
    (t.seq.get .c0).state = .running ∧ (t.seq.get .c0).chain = [0, 1] ∧ t.relayClosed .c0 = true ∧
    (t.link.owed.map fun o => o.reply.outcome) = some .done := by decide +kernel

/-- A start of a chain that holds a locked record engages the lock first (R39, R40). -/
theorem test_start_locked :
    let t := after (.startCycle toNode [0#8, 2#8]) ready
    (t.seq.get .c0).state = .locking ∧ (t.locks.get .c0).state = .engaging ∧ t.relayClosed .c0 = false := by
  decide +kernel

/-- A door forced open on a locked lock trips an IDLE cavity DOOR_BREACH (R133, R157). -/
theorem test_door_breach :
    let t := after (.doorChange .c0 .opened) (withLock ready lockedLock)
    ((t.limit.cavity.get .c0).active.map fun r => r.first) = some .doorBreach ∧
    (after (.tripNotice .c0) t |>.seq.get .c0).state = .faulted := by decide +kernel

/-- A raw frame with its CRC spoilt is discarded; the same frame whole is taken and answered (R173, R174). -/
theorem test_frames :
    (after (.frameDiscarded (lineChars [0x00#8, 0x01#8, 0x01#8, 0x00#8])) ready).link.owed = none ∧
    (after (.frameDiscarded (lineChars (frameBytes 0 toNode 0x01#7 []))) ready).link.owed.isSome = true ∧
    (after (.frameForOtherNode (lineChars (frameBytes 1 toNode 0x01#7 []))) ready).link.receiver = .skip := by
  decide +kernel

/-- A broadcast read is turned away POSTED_READ, which queues REQUEST_REFUSED (R175 to R177). -/
theorem test_posted_read :
    let t := after (.identify broadcast []) ready
    t.link.owed = none ∧ ((t.link.queue.drop 1).map fun e => e.kind) = [.requestRefused] := by decide +kernel

/-- POWER_UP takes the straps and enters RECOVERING where a lock switch reads LOCKED (R61, R172). -/
theorem test_power_up :
    let t := after (.powerUp ⟨true, false, ⟨⟨.closed, .locked, .closed⟩, ⟨.opened, .unlocked, .closed⟩,
      ⟨.closed, .unlocked, .closed⟩⟩⟩) heating
    t.link.node = 2 ∧ (t.seq.get .c0).state = .recovering ∧ (t.seq.get .c1).state = .idle := by decide +kernel

/-! ## The step and the invariants: what meets their hypotheses -/

theorem witness_StepTakesFront :
    ({ State.reset with pending := [.slotEvent, .tachPulse] } : State).pending = .slotEvent :: [.tachPulse] := rfl

theorem witness_EmptyQueuePassesTenth :
    State.reset.pending = [] ∧ State.reset.clock.tenths < 9 ∧
    ({ State.reset with clock := ⟨4294967294, 9⟩ } : State).pending = [] ∧ 4294967294 + 1 < 2 ^ 32 := by decide

theorem witness_PowerUpTakesStrapsAndSwitches :
    let pins : PerCavity SwitchPins :=
      ⟨⟨.closed, .locked, .closed⟩, ⟨.opened, .locked, .closed⟩, ⟨.closed, .unlocked, .opened⟩⟩
    ((pins.get .c0).lock = .locked ∧ (pins.get .c0).door = .closed) ∧
    ((pins.get .c1).lock = .locked ∧ (pins.get .c1).door = .opened) ∧ (pins.get .c2).lock = .unlocked := by decide

/-- The state of the invariants' witnesses: `heating` with a slot event waiting. -/
def slotWaits : State := { heating with pending := [.slotEvent] }

theorem slotWaits_steps : ∃ t, step slotWaits = .next t := ⟨_, rfl⟩

theorem slotWaits_records (n : Nat) (r : PhaseRecord) (h : slotWaits.recordAt n = some r) :
    r ∈ [heat, cool, clean, soak] := by
  have all : ∀ k : Fin 51, ∀ x ∈ slotWaits.recordAt k, x ∈ [heat, cool, clean, soak] := by decide +kernel
  by_cases hn : n < 51
  · exact all ⟨n, hn⟩ r h
  · simp [State.recordAt, hn] at h

theorem witness_BudgetNeverExceeded :
    slotWaits.withinBudget ∧ slotWaits.budgetStands ∧ ∃ t, step slotWaits = .next t :=
  ⟨by unfold State.withinBudget; decide +kernel, by unfold State.budgetStands; decide +kernel, slotWaits_steps⟩

theorem witness_DrivesFollowGrants : slotWaits.drivesFollow ∧ ∃ t, step slotWaits = .next t :=
  ⟨by unfold State.drivesFollow; decide +kernel, slotWaits_steps⟩

theorem witness_RelaysOnlyWhileRunning : slotWaits.relaysGuarded ∧ ∃ t, step slotWaits = .next t :=
  ⟨by intro c; cases c <;> decide +kernel, slotWaits_steps⟩

theorem witness_GrantsOnlyWhileHeating : slotWaits.grantsGuarded ∧ ∃ t, step slotWaits = .next t :=
  ⟨by intro c e; cases c <;> cases e <;> decide +kernel, slotWaits_steps⟩

theorem witness_RequestsStayBounded :
    slotWaits.requestsBounded ∧ slotWaits.regulationBounded ∧ ∃ t, step slotWaits = .next t := by
  refine ⟨⟨fun c => by cases c <;> decide +kernel, ?_, by decide +kernel⟩, ⟨?_, ?_⟩, slotWaits_steps⟩
  · rintro ⟨c, e⟩ r h
    cases c <;> cases e <;> cases h <;> exact ⟨by decide +kernel, by decide +kernel, by decide +kernel⟩
  · intro c
    refine ⟨fun n h => ?_, ?_, ?_, fun r h => ?_⟩ <;> cases c <;> first | decide +kernel | cases h
  · intro n r h
    have hr := slotWaits_records n r h
    clear h
    revert r
    decide +kernel

theorem witness_RingsStaySound : slotWaits.ringsSound ∧ ∃ t, step slotWaits = .next t :=
  ⟨⟨by decide +kernel, by intro c; cases c <;> decide +kernel⟩, slotWaits_steps⟩

theorem witness_ChainsStayHeld : slotWaits.chainsHeld ∧ ∃ t, step slotWaits = .next t := by
  refine ⟨⟨fun n r h k hk => ?_, fun c => ?_⟩, slotWaits_steps⟩
  · have hr := slotWaits_records n r h
    simp only [List.mem_cons, List.not_mem_nil, or_false] at hr
    obtain rfl | rfl | rfl | rfl := hr <;> cases hk <;> decide
  · cases c
    · intro q _
      refine ⟨⟨⟨heat, by decide +kernel, by decide +kernel, by decide +kernel⟩,
        ⟨cool, by decide +kernel, by decide +kernel, by decide +kernel⟩, trivial⟩, by decide +kernel, by decide +kernel,
        by decide +kernel, by decide +kernel, fun _ => ⟨0, heat, by decide +kernel, by decide +kernel, by decide +kernel⟩⟩
    all_goals (intro q hq; exact absurd hq (by decide +kernel))

theorem witness_LocksStaySound : slotWaits.locksSound ∧ ∃ t, step slotWaits = .next t := by
  refine ⟨fun c => ⟨⟨?_, ?_, ?_, ?_⟩, ?_, ?_⟩, slotWaits_steps⟩ <;> cases c <;> decide +kernel

theorem witness_TripsStaySound : slotWaits.tripsSound ∧ slotWaits.faultsTripped ∧ ∃ t, step slotWaits = .next t := by
  refine ⟨fun c => ⟨fun r h => ?_, fun r h => ?_, ?_, ?_⟩, fun c => ?_, slotWaits_steps⟩ <;> cases c <;>
    first | decide +kernel | cases h

theorem witness_FanStaysSound : slotWaits.fanSound ∧ ∃ t, step slotWaits = .next t := by
  refine ⟨⟨⟨?_, ?_, ?_, ?_, ?_, fun n h => ?_, ?_, ?_, ?_, ?_, ?_, ?_⟩, fun n r h => ?_⟩, slotWaits_steps⟩
  all_goals first
    | decide +kernel
    | cases h
    | (have hr := slotWaits_records n r h; clear h; revert r; decide +kernel)

theorem witness_AttentionStaysRight : slotWaits.link.sound ∧ ∃ t, step slotWaits = .next t := by
  refine ⟨⟨?_, ?_, ?_, fun n h => ?_, ?_⟩, slotWaits_steps⟩
  all_goals first | decide +kernel | (cases h; decide)

theorem witness_ChannelsStaySound : slotWaits.channelsSound ∧ ∃ t, step slotWaits = .next t := by
  refine ⟨fun c => ⟨⟨?_, ?_, ?_, ?_, ?_, ?_, ?_, fun n h => ?_⟩, ⟨?_, ?_, ?_, ?_, ?_, ?_, ?_, fun n h => ?_⟩⟩,
    slotWaits_steps⟩ <;> cases c <;> first | decide +kernel | cases h

/-! ## What meets the other statements' hypotheses -/

theorem witness_ConversionRoundsToNearest :
    [(8000, 0), (10000, 0), (26100, 8), (29748, 10), (29749, 11), (33000, 11)].all (fun x : Nat × Nat =>
      decide (8000 ≤ x.1 ∧ x.1 ≤ 33000 ∧ x.2 ≤ 11 ∧ (x.1 < 10000 → x.2 = 0) ∧ (29749 ≤ x.1 → x.2 = 11) ∧
        (10000 ≤ x.1 → x.1 < 29749 → breakpoint x.2 ≤ x.1 ∧ (x.1 : Int) < breakpoint (x.2 + 1)))) = true := by
  decide +kernel

/-- Three samples stand: a fourth is still taken. -/
def threeSamples : Channel := { Channel.powerUp with samples := [26100, 26100, 26100] }

/-- A channel with the four samples of its second. -/
def fourSamples : Channel := { Channel.powerUp with samples := [26100, 26100, 26100, 26100] }

/-- `ready` with cavity 0's two channels, and cavity 2 disabled. -/
def sampled (ch : Channel) : State :=
  { ready with
    appliance := { ready.appliance with enabled := ⟨true, true, false⟩ }
    scanner := { ready.scanner with
      probes := ready.scanner.probes.set .c0 ⟨ch, ch⟩, ref := { RefChannel.powerUp with samples := [15000, 15000, 15000] } } }

theorem witness_SampleInstantTaken :
    (sampled threeSamples).scanner.ref.samples.length < 4 ∧ (sampled threeSamples).enabled .c0 = true ∧
    ((sampled threeSamples).scanner.probes.get .c0).cavity.samples.length < 4 ∧
    (sampled threeSamples).enabled .c2 = false := by decide +kernel

theorem witness_WholeSecondDelivers :
    (sampled fourSamples).enabled .c0 = true ∧
    ((sampled fourSamples).scanner.probes.get .c0).cavity.samples.length = 4 ∧
    ((sampled fourSamples).scanner.probes.get .c0).catalyst.samples.length = 4 ∧
    (sampled fourSamples).enabled .c2 = false ∧
    -- a second of three samples
    (sampled threeSamples).enabled .c0 = true ∧
    ((sampled threeSamples).scanner.probes.get .c0).cavity.samples.length ≠ 4 ∧
    ((after (.wholeSecondReading 300) (sampled threeSamples)).box .c0).sequencerReadings = [] ∧
    ((after (.wholeSecondReading 300) (sampled fourSamples)).box .c0).sequencerReadings.length = 1 := by decide +kernel

theorem witness_ChannelFaultAndReturn :
    ({ Channel.powerUp with state := .valid, t := some 4407, tf := some 4400 } : Channel).t.isSome = true ∧
    measuredValid [26100, 26100, 33500, 33500] = false ∧
    (List.replicate 9 [26100, 26100, 26100, 33001]).length = 9 ∧ measuredValid [26100, 26100, 26100, 33001] = true ∧
    rawReading [26100, 26100, 26100, 33001] = some 26100 ∧
    ({ Channel.powerUp with state := .fault } : Channel).validRun = 0 ∧
    -- a channel that was never valid, one in SUSPECT, and one in FAULT, on a valid and an invalid second
    (Channel.powerUp.state = .unknown ∧ Channel.powerUp.invalidRun = 0 ∧ measuredValid fourSamples.samples = true ∧
      measuredValid ({ Channel.powerUp with samples := [26100, 26100, 33500, 33500] } : Channel).samples = false ∧
      ({ fourSamples with state := .suspect, invalidRun := 2 } : Channel).state = .suspect ∧
      ({ fourSamples with state := .fault, validRun := 8 } : Channel).validRun < 9) := by decide +kernel

theorem witness_ReferenceFilterAndSensorEvents :
    -- a good second at both edges of the mean, and a bad one just past each, or with two valid samples
    ([[14850, 14850, 14850], [15150, 15150, 15150, 40000]].all fun l =>
      let v := l.filter fun x => decide (8000 ≤ x ∧ x ≤ 33000)
      decide (3 ≤ v.length ∧ 14850 ≤ v.sum / v.length ∧ v.sum / v.length ≤ 15150)) = true ∧
    ([[14849, 14850, 14850], [15151, 15151, 15151], [15000, 15000, 40000]].all fun l =>
      let v := l.filter fun x => decide (8000 ≤ x ∧ x ≤ 33000)
      decide (¬ (3 ≤ v.length ∧ 14850 ≤ v.sum / v.length ∧ v.sum / v.length ≤ 15150))) = true ∧
    -- the counts at which each state is left
    ({ RefChannel.powerUp with badCount := 2 } : RefChannel).state = .ok ∧
    ({ RefChannel.powerUp with state := .fault, goodCount := 9 } : RefChannel).goodCount = 9 ∧
    -- a valid reading in VALID and in UNKNOWN, and an invalid one
    measuredValid fourSamples.samples = true ∧ rawReading fourSamples.samples = some 26100 ∧
    fourSamples.state = .unknown ∧ ({ fourSamples with state := .valid } : Channel).state = .valid ∧
    measuredValid [26100, 26100, 33500, 33500] = false := by decide +kernel

/-- The third bad second queues SENSOR_FAULT of channel 6, the tenth good one SENSOR_RECOVERED (R4, R13). -/
theorem test_reference_events :
    let s (r : RefChannel) : State := { ready with scanner := { ready.scanner with ref := r } }
    let kinds (u : State) := (after (.wholeSecondReading 300) u).link.queue.map fun e => (e.kind, e.cavity, e.detail)
    kinds (s { RefChannel.powerUp with badCount := 2 }) = [(.powerUp, none, none), (.sensorFault, none, some 6)] ∧
    kinds (s { RefChannel.powerUp with state := .fault, goodCount := 9, samples := [15000, 15000, 15000, 15000] }) =
      [(.powerUp, none, none), (.sensorRecovered, none, some 6)] := by decide +kernel

/-- READ SENSOR gives the filter shift in use at the last reading: absent before the first, and a shift of a profile just
accepted does not show in it (R10, R17). -/
theorem test_sensor_shift :
    let shift (s : State) : Option Byte := (after (.readSensor toNode [0#8]) s).link.owed.bind fun o => o.reply.payload[12]?
    let s := after (.wholeSecondReading 300) (sampled fourSamples)
    shift ready = some 0xFF#8 ∧ shift s = some 2#8 ∧
    shift { s with profiles := s.profiles.set .c0 { s.profiles.get .c0 with filterShift := 4 } } = some 2#8 := by
  decide +kernel

/-- The sixteen bytes of a DWELL record of 600 s that ends its chain, its fan floor 2. -/
def dwellBytes : List Byte := [4#8, 0#8] ++ word 0x8000 ++ word 0 ++ word 600 ++ word 0 ++ [0#8, 2#8, 1#8] ++ word 0 ++ [255#8]

/-- The sixteen bytes of a locked HEAT record to 480.0 °C that ends its chain. -/
def heatBytes : List Byte := [1#8, 2#8] ++ word 4800 ++ word 60 ++ word 0 ++ word 0 ++ [3#8, 2#8, 1#8] ++ word 0 ++ [255#8]

/-- The record that the bytes spell, or `heat` where they spell none. -/
def recordOf (p : List Byte) : PhaseRecord :=
  match (rawRecordAt p 0).check with
  | .ok r => r
  | .error _ => heat

theorem witness_WriteAndErasePhase :
    ready.link.owed = none ∧ (47#8 :: dwellBytes).length = 17 ∧ byteAt (47#8 :: dwellBytes) 0 < 48 ∧
    ((rawRecordAt (47#8 :: dwellBytes) 1).check.toOption = some (recordOf dwellBytes)) ∧ (ready.seq.get .c0).state = .idle ∧
    (heating.seq.get .c0).state = .running ∧ heating.link.owed = none ∧ 1 ∈ (heating.seq.get .c0).chain ∧
    ((rawRecordAt (1#8 :: dwellBytes) 1).check.toOption = some (recordOf dwellBytes)) ∧
    byteAt dwellBytes 1 < 8 ∧ byteAt dwellBytes 10 < 16 ∧ recordOf dwellBytes ≠ heat ∧
    -- an index from 48, and a record that fails at each field of the table in turn
    byteAt (48#8 :: dwellBytes) 0 = 48 ∧
    (let x := rawRecordAt dwellBytes 0
     [({ x with kind := 0 }, 1), ({ x with target := some 0 }, 2), ({ x with ramp := some 1 }, 3),
       ({ x with duration := none }, 4), ({ x with limit := some 1024 }, 5), ({ x with abort := true }, 6),
       ({ x with elements := ⟨true, false, false, false⟩ }, 7), ({ x with fanFloor := 4 }, 9), ({ x with tier := 3 }, 11),
       ({ x with gate := some 1000 }, 12), ({ x with next := 48 }, 13)].all fun (y : RawRecord × Nat) =>
        match y.1.check with
        | .error f => decide (f = y.2)
        | .ok _ => false) = true := by
  decide +kernel

/-- A reply is owed. -/
def owing : State := { ready with link := { ready.link with owed := some ⟨Reply.done [], false⟩ } }

theorem witness_RequestsCheckedAndAnswered :
    (owing.link.owed.isSome = true ∧ ready.link.owed = none ∧ requestCodes.contains (0x7F#7).toNat = false ∧
      ([] : List Byte).length ≠ RequestKind.lockDoor.length ∧ ([] : List Byte).length = RequestKind.identify.length ∧
      RequestKind.identify.isRead = true ∧ broadcast.broadcast = true ∧ [0#8].length = RequestKind.lockDoor.length ∧
      RequestKind.lockDoor.isRead = false ∧ (Reply.refuse .hot).outcome ≠ .done ∧ (Reply.done []).outcome = .done) ∧
    -- a start whose chain fails at its first position
    ((ready.seq.get .c0).state = .idle ∧ (ready.seq.get .c0).bound = true ∧ ready.probeValid .c0 = true ∧
      (match chainCheck ready.recordAt (ready.profiles.get .c0) 47 with
        | .error x => decide (x = (47, ChainCheck.empty))
        | .ok _ => false) = true) ∧
    -- each check of a record, at its boundary
    (let p := ready.profiles.get .c0
     p.hardLimit = 5300 ∧ p.ceiling = 2800 ∧ recordCheck p { heat with elements := ⟨true, false, true, false⟩ } = some .unmapped ∧
      recordCheck p { heat with target := some 5101 } = some .margin ∧
      recordCheck p { heat with target := some 5100, locked := true } = none ∧
      recordCheck p { heat with target := some 2801 } = some .ceiling ∧ recordCheck p { heat with target := some 2800 } = none ∧
      recordCheck p dwell = none) := by
  decide +kernel

/-- A profile of cavity 0 with two elements mapped at 1200 W and 1100 W, the settings at their defaults. -/
def profileBytes : List Byte :=
  [0#8, 4#8, 5#8, 255#8, 255#8] ++ word 1200 ++ word 1100 ++ word 0 ++ word 0 ++ [2#8] ++ word 40 ++ word 20 ++ word 50 ++
    word 80 ++ word 250 ++ word 2800 ++ word 2500 ++ word 5300 ++ word 6500

/-- An appliance profile that enables cavities 0 and 1, the settings at their defaults. -/
def applianceBytes : List Byte :=
  [3#8] ++ word 2000 ++ word 1200 ++ word 2500 ++ word 4000 ++ word 900 ++ word 1500 ++ word 2100 ++ [2#8]

/-- `ready` with cavity 1 absent: `applianceBytes` enables it and disables cavity 2. -/
def oneAbsent : State :=
  { ready with
    appliance := { ready.appliance with enabled := ⟨true, false, true⟩ }
    seq := ready.seq.set .c1 (Sequencer.fresh .absent) }

/-- The reply of a request's owner. -/
def replyTo (k : RequestKind) (p : List Byte) (s : State) : Reply := (ownerOf .active k p s).2

theorem witness_RefusedRequestChangesNothing :
    (ownerOf .active .lockDoor [3#8] ready).2.outcome ≠ .done ∧ RequestKind.readTrip.isRead = true ∧
    -- the cavity number and an ABSENT cavity
    replyTo .abortCycle [3#8] ready = Reply.range 0 ∧ (oneAbsent.seq.get .c1).state = .absent ∧
    replyTo .lockDoor [1#8] oneAbsent = Reply.refuse .absent ∧
    -- a start: each check of R39 fails in turn, and none
    [replyTo .startCycle [0#8, 0#8] heating, replyTo .startCycle [1#8, 0#8] ready,
      replyTo .startCycle [0#8, 0#8] { ready with scanner := Scanner.powerUp }, replyTo .startCycle [0#8, 48#8] ready,
      replyTo .startCycle [0#8, 47#8] ready, replyTo .startCycle [0#8, 0#8] (withLock ready (moving .engaging .unlocked)),
      replyTo .startCycle [0#8, 0#8] (withLock ready (moving .jammed .unlocked)),
      replyTo .startCycle [0#8, 2#8] (withLock ready { lockedLock with door := .opened }),
      replyTo .startCycle [0#8, 0#8] ready, replyTo .startInline (0#8 :: heatBytes.set 0 5#8) ready] =
      [Reply.refuse .state, Reply.refuse .unbound, Reply.refuse .sensor, Reply.range 0, Reply.chain 47 1, Reply.busy,
        Reply.refuse .lock, Reply.refuse .door, Reply.done [], Reply.range 1] ∧
    -- a cavity profile: STATE, an output that is no output, a filter shift of 5, an output named twice, and none
    [replyTo .cavityProfile profileBytes heating, replyTo .cavityProfile (profileBytes.set 1 12#8) ready,
      replyTo .cavityProfile (profileBytes.set 13 5#8) ready, replyTo .cavityProfile (profileBytes.set 2 4#8) ready,
      replyTo .cavityProfile profileBytes ready] =
      [Reply.refuse .state, Reply.range 1, Reply.range 3, Reply.refuse .map, Reply.done []] ∧
    -- an appliance profile: no cavity enabled, five pulses, a RUNNING cavity disabled, a lock not OPEN, and none
    [replyTo .applianceProfile (applianceBytes.set 0 0#8) ready, replyTo .applianceProfile (applianceBytes.set 15 5#8) ready,
      replyTo .applianceProfile (applianceBytes.set 0 2#8) heating,
      replyTo .applianceProfile (applianceBytes.set 0 2#8) (withLock ready lockedLock),
      replyTo .applianceProfile applianceBytes ready] =
      [Reply.range 1, Reply.range 9, Reply.refuse .state, Reply.refuse .lock, Reply.done []] ∧
    -- the last value in range and the first out of it
    ([(RequestKind.setSupply, word 11000), (.declareLoad, word 11000), (.setFanFloor, [3#8]), (.setAttention, [4#8]),
      (.readEvents, [1#8]), (.readEvents, [6#8]), (.readPhase, [50#8]), (.readSensor, [7#8]), (.readStatus, [2#8, 8#8]),
      (.readStatus, [15#8, 2#8])].all fun x => decide ((replyTo x.1 x.2 ready).outcome = .done)) = true ∧
    ([(RequestKind.setSupply, word 11001), (.declareLoad, word 11001), (.setFanFloor, [4#8]), (.setAttention, [5#8]),
      (.readEvents, [0#8]), (.readEvents, [7#8]), (.readPhase, [51#8]), (.readSensor, [8#8]), (.readStatus, [3#8, 1#8]),
      (.readStatus, [16#8, 1#8]), (.readStatus, [0#8, 0#8]), (.readStatus, [15#8, 9#8])].all fun x =>
        decide (replyTo x.1 x.2 ready = Reply.range 0)) = true ∧
    (oneAbsent.enabled .c1 = false ∧ replyTo .readSensor [4#8] oneAbsent = Reply.refuse .absent ∧
      replyTo .readStatus [1#8, 9#8] oneAbsent = Reply.refuse .absent) := by
  decide +kernel

theorem witness_ReadRequestsAreAnswered :
    toNode.posted = false ∧ toNode.broadcast = false ∧ heating.link.owed = none ∧ (heating.seq.get .c0).state ≠ .absent ∧
    heating.enabled .c2 = true ∧ Cavity.all.filter (sampled fourSamples).enabled = [.c0, .c1] := by decide +kernel

theorem witness_ValidFrameMakesActive : heating.withinBudget ∧ heating.budgetStands :=
  ⟨by unfold State.withinBudget; decide +kernel, by unfold State.budgetStands; decide +kernel⟩

theorem witness_EventJoinsQueue :
    ({ ready.link with queue := List.replicate 23 EventRecord.powerUp } : Link).queue.length < 24 ∧
    24 ≤ ({ ready.link with queue := List.replicate 24 EventRecord.powerUp } : Link).queue.length := by decide +kernel

theorem witness_ReceiverReadsBackFrames :
    3 ≤ 3 ∧ (List.replicate 63 0#8).length ≤ 63 ∧ ready.link.node ≤ 3 := by decide +kernel

theorem witness_OtherFramesPassedOver :
    ready.link.node ≤ 3 ∧ 0x00#8 ≠ crc8 (frameBytes ready.link.node toNode 0x01#7 []).dropLast ∧
    (0x10#8).toNat ≠ ready.link.node ∧ 0x10#8 ≠ 0x0F#8 ∧
    -- a frame in TAKE at its LENGTH, in its middle, and at its last character with a wrong CRC
    [0x00#8].length = 1 ∧ (0x00#8).toNat = 0 ∧ 64 < (0x41#8).toNat ∧ (0x40#8).toNat ≤ 64 ∧
    2 ≤ [0x00#8, 0x01#8].length ∧ [0x00#8, 0x01#8].length + 1 ≠ byteAt [0x00#8, 0x01#8] 1 + 3 ∧
    [0x00#8, 0x01#8, 0x01#8].length + 1 = byteAt [0x00#8, 0x01#8, 0x01#8] 1 + 3 ∧
    0x00#8 ≠ crc8 [0x00#8, 0x01#8, 0x01#8] := by
  decide +kernel

/-- `heating` with the quiet timer one tenth short of 5 s. -/
def quietSoon : State := { heating with link := { heating.link with quiet := some 49 } }

/-- The quiet time ends ACTIVE and brings the quiet budget back; an expiry taken behind a valid frame does not (R178). -/
theorem test_quiet_behind_frame :
    (after .quietTimeout quietSoon).link.state = .quiet ∧ (after .quietTimeout quietSoon).alloc.available = 2000 ∧
    (after .quietTimeout (after (.readPhase broadcast [0#8]) quietSoon)).link.state = .active ∧
    (after .quietTimeout (after (.readPhase broadcast [0#8]) quietSoon)).alloc.available = 3000 := by decide +kernel

theorem witness_LinkEventsTaken :
    heating.link.state = .active ∧ ready.link.state ≠ .active ∧ quietSoon.link.state = .active ∧
    quietSoon.link.quiet = some 49 ∧ heating.link.quiet ≠ some 49 ∧
    ({ ready.link with receiver := .waitHigh } : Link).receiver = .waitHigh ∧
    ({ ready.link with receiver := .take [0#8] } : Link).receiver = .take [0#8] ∧
    owing.link.owed = some ⟨Reply.done [], false⟩ ∧ (Reply.done []).reads = none ∧
    ({ Reply.done [] with reads := some 6 } : Reply).reads = some 6 ∧ ready.link.owed = none := by decide +kernel

theorem witness_CavityProfileBinds :
    ready.link.owed = none ∧ profileBytes.length = 32 ∧ byteAt profileBytes 0 = Cavity.c0.num ∧
    (ready.seq.get .c0).state = .idle ∧ ready.tripped .c0 = false ∧ (cavityProfileOf profileBytes).badField = none ∧
    (cavityProfileOf profileBytes).named = [4, 5] ∧ (cavityProfileOf profileBytes).named.Nodup ∧
    (∀ i ∈ (cavityProfileOf profileBytes).named, ready.ownedElsewhere .c0 i = false) ∧
    (7 : Fin 12).val ∉ (cavityProfileOf profileBytes).named ∧
    (let s : State := { ready with drive := { ready.drive with
        outputs := ready.drive.outputs.set 7 { OutputRecord.unmapped with owner := some (.c1, .upper) } } }
     (s.output 7).owner.map Prod.fst ≠ some .c0 ∧
      (∀ o ∈ s.drive.outputs.toList, o.drive = driven s.enabled s.alloc.grants o)) := by decide +kernel

/-- `oneAbsent` with cavity 0 granted, on a LISTEN link whose quiet budget holds it. -/
def twoHeating : State :=
  { oneAbsent with
    alloc := { heating.alloc with
      available := 2000, tier1 := [.cavity .c2, .marker, .cavity .c0], grants := [(.c0, .upper)] }
    drive := heating.drive }

theorem witness_ApplianceProfileActs :
    let pins : PerCavity SwitchPins :=
      ⟨⟨.closed, .unlocked, .closed⟩, ⟨.closed, .locked, .closed⟩, ⟨.closed, .unlocked, .closed⟩⟩
    (twoHeating.link.owed = none ∧ applianceBytes.length = 16 ∧ (applianceProfileOf applianceBytes).badField = none ∧
      (applianceProfileOf applianceBytes).enabled = ⟨true, true, false⟩ ∧ twoHeating.appliance.enabled = ⟨true, false, true⟩ ∧
      (pins.get .c1).lock = .locked) ∧
    (∀ c, (twoHeating.enabled c = true ↔ (twoHeating.seq.get c).state ≠ .absent)) ∧
    (∀ c, ((twoHeating.seq.get c).state = .idle ∨ (twoHeating.seq.get c).state = .absent) ∧
      twoHeating.tripped c = false ∧ (twoHeating.locks.get c).state = .opened) ∧
    twoHeating.withinBudget ∧ twoHeating.budgetStands ∧ twoHeating.drivesFollow := by
  refine ⟨by decide +kernel, ?_, ?_, by unfold State.withinBudget; decide +kernel,
    by unfold State.budgetStands; decide +kernel, by unfold State.drivesFollow; decide +kernel⟩ <;>
    intro c <;> cases c <;> decide +kernel

theorem witness_LockedStartEntersLocking :
    (ready.link.owed = none ∧ (ready.seq.get .c0).state = .idle ∧ (ready.seq.get .c0).bound = true ∧
      ready.probeValid .c0 = true ∧ 2 < 48 ∧
      (chainCheck ready.recordAt (ready.profiles.get .c0) 2).toOption = some [2] ∧
      holdsLocked ready.recordAt [2] = true ∧ (ready.locks.get .c0).state = .opened ∧
      (ready.locks.get .c0).door = .closed) ∧
    (0#8 :: heatBytes).length = 17 ∧ (rawRecordAt (0#8 :: heatBytes) 1).check.toOption = some (recordOf heatBytes) ∧
    (chainCheck (ready.tableWith (inlineSlot .c0) (recordOf heatBytes)) (ready.profiles.get .c0) (inlineSlot .c0)).toOption
      = some [48] ∧
    holdsLocked (ready.tableWith (inlineSlot .c0) (recordOf heatBytes)) [48] = true := by decide +kernel

/-- A state in which output 0, cavity 0's, is STUCK. -/
def stuckAt (s : State) : State :=
  { s with drive := { s.drive with outputs := s.drive.outputs.set 0 { s.output 0 with stuck := true } } }

theorem witness_StartEntersRunning :
    ((chainCheck ready.recordAt (ready.profiles.get .c0) 0).toOption = some [0, 1] ∧ ready.recordAt 0 = some heat ∧
      (ready.locks.get .c0).state = .opened ∧ holdsLocked ready.recordAt [0, 1] = false ∧ ready.tripped .c0 = false ∧
      ready.hasStuck .c0 = false ∧ ready.relayClosed .c0 = false) ∧
    ((withLock ready lockedLock).locks.get .c0).state = .locked ∧ lockedLock.door = .closed ∧
    holdsLocked ready.recordAt [2] = true ∧
    (rawRecordAt (0#8 :: dwellBytes) 1).check.toOption = some (recordOf dwellBytes) ∧
    (chainCheck (ready.tableWith (inlineSlot .c0) (recordOf dwellBytes)) (ready.profiles.get .c0) (inlineSlot .c0)).toOption
      = some [48] ∧
    holdsLocked (ready.tableWith (inlineSlot .c0) (recordOf dwellBytes)) [48] = false ∧
    -- an active trip record, and a STUCK output: the start is accepted and its closing order refused
    (withLimit ready { LimitRecord.powerUp .closed with active := some tripRecord }).tripped .c0 = true ∧
    (stuckAt ready).hasStuck .c0 = true ∧ (stuckAt ready).tripped .c0 = false ∧
    (let t := after (.startCycle toNode [0#8, 0#8]) (stuckAt ready)
     ((t.limit.cavity.get .c0).active.map fun r => r.first) = some .relayStuck ∧ t.relayClosed .c0 = false ∧
      (t.link.queue.drop 1).map (fun e => e.kind) = [.phaseBegun, .trip]) := by
  decide +kernel

theorem witness_AbortEndsCycle :
    heating.link.owed = none ∧ (heating.seq.get .c0).state = .running ∧ (heating.seq.get .c1).state = .idle := by
  decide +kernel

/-- Cavity 0 RUNNING a SOAK record with a reading waiting. -/
def soaking : State :=
  withBox (withSeq heating { runningContext with chain := [3, 1], current := some (3, .soak), soakProgress := 8 })
    { Mailbox.empty with sequencerReadings := [warm] }

theorem witness_SoakReadingCounts :
    (soaking.box .c0).sequencerReadings = warm :: [] ∧ (soaking.seq.get .c0).state = .running ∧
    (soaking.seq.get .c0).entry = some 3 ∧ soaking.recordAt 3 = some soak ∧
    (soaking.seq.get .c0).current = some (3, .soak) ∧ soak.kind = .soak ∧ soak.target = some 2000 ∧
    soak.duration = some 10 ∧ (soaking.seq.get .c0).soakProgress + 1 ≠ 10 ∧ (soaking.seq.get .c0).phaseElapsed < 65535 ∧
    (soaking.seq.get .c0).cycleElapsed + 1 < 2 ^ 32 ∧ soak.limit = none ∧
    -- a paused reading at one second less than the duration
    (let s := withBox (withSeq soaking { soaking.seq.get .c0 with soakProgress := 9 })
      { Mailbox.empty with sequencerReadings := [reads .fault none] }
     (s.box .c0).sequencerReadings = reads .fault none :: [] ∧ (s.seq.get .c0).soakProgress ≠ 10) := by
  decide +kernel

/-- Cavity 0 RUNNING at its COOL record, a reading at the target waiting, and at a DWELL record in its last second. -/
def cooled : State :=
  withBox (withSeq heating { runningContext with position := 1, current := some (1, .cool) })
    { Mailbox.empty with sequencerReadings := [reads .valid (some 600)] }

/-- Cavity 0 RUNNING at a DWELL record in its last second, a COOL record after it. -/
def dwelt : State :=
  withBox (withSeq { heating with table := heating.table.set 0 (some { dwell with next := some 1 }) }
    { runningContext with current := some (0, .dwell), phaseElapsed := 9 })
    { Mailbox.empty with sequencerReadings := [reads .fault none] }

/-- Cavity 0 RUNNING, at the first position of the chain [0, 1], a record with a limit of one minute, which the waiting
reading, of 150.0 °C, runs out. -/
def ranOut (r : PhaseRecord) (onLimit : OnLimit) : State :=
  withBox (withSeq { heating with
      table := heating.table.set 0 (some { r with next := some 1, limit := some 1, onLimit := onLimit }) }
    { runningContext with current := some (0, r.kind), phaseElapsed := 59 })
    { Mailbox.empty with sequencerReadings := [reads .valid (some 1500)] }

theorem witness_ReadingEndsPhase :
    -- met: COOL with END, DWELL, and SOAK one second short of its duration, within the band
    ((cooled.box .c0).sequencerReadings = reads .valid (some 600) :: [] ∧ (cooled.seq.get .c0).entry = some 1 ∧
      cooled.recordAt 1 = some cool ∧ (cooled.seq.get .c0).current = some (1, cool.kind) ∧ cool.kind = .cool ∧
      cool.target = some 600 ∧ (reads .valid (some 600)).probeTf = some 600 ∧ cool.next = none) ∧
    ((dwelt.box .c0).sequencerReadings = reads .fault none :: [] ∧ (dwelt.seq.get .c0).entry = some 0 ∧
      dwelt.recordAt 0 = some { dwell with next := some 1 } ∧ dwell.kind = .dwell ∧
      dwell.duration = some ((dwelt.seq.get .c0).phaseElapsed + 1) ∧
      (dwelt.seq.get .c0).chain[(dwelt.seq.get .c0).position + 1]? = some 1 ∧ dwelt.recordAt 1 = some cool) ∧
    (let s := withSeq soaking { soaking.seq.get .c0 with soakProgress := 9 }
     (s.box .c0).sequencerReadings = warm :: [] ∧ s.recordAt 3 = some soak ∧ warm.probeTf = some 2000 ∧
      soak.target = some 2000 ∧ soak.duration = some ((s.seq.get .c0).soakProgress + 1) ∧ soak.next = some 1 ∧
      (s.seq.get .c0).chain[(s.seq.get .c0).position + 1]? = some 1) ∧
    -- unmet with the limit run out, for a HEAT phase: the next phase, or the cycle's end
    ([OnLimit.advance, .abort].all fun o =>
      decide ((ranOut heat o).seq.get .c0 = { runningContext with phaseElapsed := 59 } ∧
        (ranOut heat o).recordAt 0 = some { heat with limit := some 1, onLimit := o } ∧ 59 + 1 = 60 * 1 ∧
        (ranOut heat o).recordAt 1 = some cool)) = true ∧
    -- a HEAT phase short of its limit, or with none
    ((withBox heating { Mailbox.empty with sequencerReadings := [warm] }).recordAt 0 = some heat ∧ heat.limit = none ∧
      (heating.seq.get .c0).phaseElapsed < 65535 ∧ (heating.seq.get .c0).cycleElapsed + 1 < 2 ^ 32) ∧
    -- a COOL phase above its target, and a DWELL phase short of its duration
    (let s := withBox cooled { Mailbox.empty with sequencerReadings := [reads .valid (some 601)] }
     (s.box .c0).sequencerReadings = reads .valid (some 601) :: [] ∧ s.recordAt 1 = some cool ∧ ¬ (601 : Int) ≤ 600 ∧
      cool.limit = none ∧ ((after (.sequencerCavityReading .c0) s).box .c0).regulation.map (fun r => (r.mode, r.kind)) =
        [(.off, some .cool)]) ∧
    (let s := withSeq dwelt { dwelt.seq.get .c0 with phaseElapsed := 8 }
     s.recordAt 0 = some { dwell with next := some 1 } ∧ dwell.duration ≠ some ((s.seq.get .c0).phaseElapsed + 1)) := by
  decide +kernel

/-- A reading that runs out a limit with ABORT ends the cycle ABORTED, with PHASE_TIMEOUT before CYCLE_ABORTED (R50). -/
theorem test_phase_timeout :
    let t := after (.sequencerCavityReading .c0) (ranOut soak .abort)
    (t.seq.get .c0).outcome = some .aborted ∧ (t.seq.get .c0).state = .idle ∧
    (t.link.queue.drop 1).map (fun e => (e.kind, e.severity, e.detail)) =
      [(.phaseTimeout, 2, some 0), (.cycleAborted, 2, some 2)] := by decide +kernel

/-- Cavity 0 SETTLING with its lock LOCKED and owned, a reading waiting. -/
def settling (x : CavityReading) (blind : Nat) : State :=
  withBox (withLock (withSeq heating { runningContext with
    state := .settling, lockOwned := true, blindCool := blind, outcome := some .done }) lockedLock)
    { Mailbox.empty with sequencerReadings := [x] }

theorem witness_ReleaseOnlyWhenCool :
    let s := settling (reads .valid (some 2500)) 0
    (s.box .c0).sequencerReadings = reads .valid (some 2500) :: [] ∧ (s.seq.get .c0).state = .settling ∧
    (s.seq.get .c0).lockOwned = true ∧ (s.locks.get .c0).state = .locked ∧ (s.seq.get .c0).blindCool ≤ 65535 ∧
    (2500 : Int) ≤ (s.profiles.get .c0).releaseThreshold ∧
    5400 ≤ ((settling (reads .fault none) 5399).seq.get .c0).blindCool + 1 ∧
    ¬ (5400 ≤ ((settling (reads .valid (some 2501)) 5399).seq.get .c0).blindCool) ∧
    -- the other states, the other locks, and a lock that is not owned
    ([SeqState.faulted, .locking, .idle, .absent].all fun k =>
      let u := withSeq s { s.seq.get .c0 with state := k }
      decide ((u.box .c0).sequencerReadings = reads .valid (some 2500) :: [] ∧ (u.seq.get .c0).state = k)) = true ∧
    ([LockState.opened, .engaging, .releasing, .jammed].all fun k =>
      decide (((withLock s { lockedLock with state := k }).locks.get .c0).state ≠ .locked)) = true ∧
    ((withSeq s { s.seq.get .c0 with lockOwned := false }).seq.get .c0).lockOwned = false ∧
    ((after (.sequencerCavityReading .c0) (withLock s { lockedLock with state := .jammed })).seq.get .c0).state =
      .faulted := by
  decide +kernel

theorem witness_HeatCompleteEndsPhase :
    let s := withBox heating { Mailbox.empty with heatComplete := [0] }
    (s.box .c0).heatComplete = 0 :: [] ∧ (s.seq.get .c0).state = .running ∧ (s.seq.get .c0).current = some (0, .heat) ∧
    (s.seq.get .c0).position = 0 ∧ (s.seq.get .c0).entry = some 0 ∧ s.recordAt 0 = some heat ∧ heat.next = some 1 ∧
    (s.seq.get .c0).chain[1]? = some 1 ∧ s.recordAt 1 = some cool ∧
    ((withBox heating { Mailbox.empty with heatComplete := [1] }).box .c0).heatComplete = 1 :: [] ∧
    ({ heating with table := heating.table.set 0 (some clean) } : State).recordAt 0 = some clean ∧ clean.kind = .heat ∧
    clean.next = none := by
  decide +kernel

/-- Cavity 0 in a state of the Sequencer, with a lock notice waiting. -/
def noticed (state : SeqState) (k : LockNotice) : State :=
  withBox (withSeq ready { runningContext with state := state, current := none }) { Mailbox.empty with lockNotices := [k] }

theorem witness_LockNoticeMoves :
    let s := noticed .locking .atRestLocked
    (s.box .c0).lockNotices = .atRestLocked :: [] ∧ (s.seq.get .c0).state = .locking ∧ (s.seq.get .c0).entry = some 0 ∧
    s.recordAt 0 = some heat ∧ s.tripped .c0 = false ∧ s.hasStuck .c0 = false ∧ s.relayClosed .c0 = false ∧
    ((noticed .locking .doorOpenedEngaging).box .c0).lockNotices = .doorOpenedEngaging :: [] ∧
    ((noticed .settling .atRestOpen).seq.get .c0).state = .settling ∧
    ((noticed .settling .atRestOpen).locks.get .c0).state = .opened ∧
    ((noticed .idle .atRestOpen).seq.get .c0).state = .idle ∧
    -- a jam and a rest in OPEN, the settling states with every lock, and a closing order refused
    ([LockNotice.atRestJammed, .atRestOpen].all fun k => [SeqState.locking, .settling, .recovering].all fun q =>
      [LockState.opened, .engaging, .locked, .releasing, .jammed].all fun l =>
        let u := withLock (noticed q k) { lockedLock with state := l }
        decide ((u.box .c0).lockNotices = k :: [] ∧ (u.seq.get .c0).state = q ∧ (u.locks.get .c0).state = l)) = true ∧
    (stuckAt s).hasStuck .c0 = true ∧
    (withLimit s { LimitRecord.powerUp .closed with active := some tripRecord }).tripped .c0 = true := by
  decide +kernel

theorem witness_TripNoticeMoves :
    [SeqState.locking, .running, .settling, .recovering, .idle, .faulted].all (fun x =>
      let s := withBox (withSeq heating { runningContext with state := x }) { Mailbox.empty with tripNotices := 1 }
      decide (0 < (s.box .c0).tripNotices ∧ (s.seq.get .c0).state = x)) = true := by decide +kernel

/-- An OFF request. -/
def off : RegRequest :=
  { climb none 4400 none 0 false with mode := .off, kind := none, target := none }

theorem witness_OffRequestResets :
    ((withBox heating { Mailbox.empty with regulation := [off] }).box .c0).regulation = off :: [] ∧ off.mode = .off := by
  decide +kernel

theorem witness_RegulateRunsTheLaw :
    let r := climb (some 60) 4400 (some 2500) 2600 false
    ((withBox heating { Mailbox.empty with regulation := [r] }).box .c0).regulation = r :: [] ∧ r.mode = .regulate ∧
    r.kind = some .heat ∧ r.target = some ((4800 : Nat) : Int) ∧
    -- frozen, capped and unreadable cases of the same request
    ({ r with tf := none } : RegRequest).tf = none ∧ ({ r with catalystTf := some 2499 } : RegRequest).capped = true ∧
    (withSeq heating runningContext).alloc.powerLimited.get .c0 = false := by decide +kernel

theorem witness_SlotEventGrants :
    (State.reset.alloc.started = false ∧ heating.alloc.started = true ∧ 1 ≤ heating.alloc.slot ∧ heating.alloc.slot < 30 ∧
      heating.alloc.window + 1 < 2 ^ 32 ∧ heating.alloc.record (.c0, .upper) = some (requestOf 0 1200)) ∧
    -- a window end with a shortfall in both cavities that ask, and one that ends a limitation
    (let s := shortWindow 30 [.cavity .c2, .marker, .cavity .c0, .cavity .c1] [(.c0, .upper), (.c1, .ring)]
      (counted 1200 30 30 0 false) (counted 1100 30 16 2 false) (counted 2200 15 14 0 false)
     s.alloc.started = true ∧ s.alloc.slot = 30 ∧ s.alloc.powerLimited.get .c0 = false) ∧
    (let s := shortWindow 30 [.cavity .c2, .marker, .cavity .c0, .cavity .c1] []
      (counted 1200 30 30 0 false) (counted 1100 30 30 0 false) (counted 2200 15 15 0 false)
     let t := after .slotEvent { s with alloc := { s.alloc with powerLimited := ⟨true, false, false⟩ } }
     t.alloc.powerLimited.get .c0 = false ∧
      (t.link.queue.drop 1).map (fun e => (e.kind, e.cavity)) = [(.powerRestored, some .c0)]) ∧
    -- a first grant of pass 1, of pass 3, and no grant at all
    (let pass (s : State) := s.closeSlot.advanceSlot.slotWithdrawals.windowWork (!s.alloc.started)
     let rings : List RingEntry := [.cavity .c1, .cavity .c2, .marker, .cavity .c0]
     let one := pass (shortWindow 4 rings [(.c0, .upper), (.c0, .lower)] (counted 1200 30 4 0 false)
      (counted 1100 30 4 0 false) (counted 2200 15 0 4 true))
     let three := pass (shortWindow 4 rings [] (counted 1200 30 4 0 false) (counted 1100 30 4 0 false)
      (counted 2200 15 0 0 false))
     let zero := pass State.reset
     one.passOne.granted = [(.c1, .ring)] ∧
      (three.passOne.granted = [] ∧ three.passThree.granted = three.passTwo.granted ++ three.passThree.granted ∧
        three.passThree.granted ≠ []) ∧
      zero.passOne.granted = [] ∧ zero.passThree.granted = zero.passTwo.granted) := by decide +kernel

/-- A slot of chapter 5's window in which LOWER is passed over, the withdraw mark of cavity 0 as given. -/
def tightSlot (withdraw : Bool) : State :=
  let s := shortWindow 4 [.cavity .c1, .cavity .c2, .marker, .cavity .c0] [(.c0, .upper)] (counted 1200 30 4 2 true)
    (counted 1100 30 4 3 false) (counted 2200 15 0 4 true)
  { s with alloc := { s.alloc with demand := s.alloc.demand.set .c0 { s.alloc.demand.get .c0 with withdraw := withdraw } } }

/-- A record withdrawn in mid-window, one that is granted, and one passed over for the fourth time (R97, R101). -/
theorem witness_SlotEventGrants_records :
    let record (withdraw : Bool) (e : Element) := (after .slotEvent (tightSlot withdraw)).alloc.record (.c0, e)
    record true .upper = some { counted 1200 4 4 0 false with held := true } ∧
    record false .upper = some { counted 1200 30 5 0 false with held := true } ∧
    record false .lower = some (counted 1100 30 4 4 true) := by decide +kernel

theorem witness_PassesAreFirstFit :
    let s := shortWindow 4 [.cavity .c1, .cavity .c2, .marker, .cavity .c0]
      [(.c0, .upper), (.c0, .lower)] (counted 1200 30 4 3 true) (counted 1100 30 4 3 true) (counted 2200 15 0 4 true)
    s.eligible (.c0, .lower) = true ∧ Cavity.c0 ∈ s.alloc.priority ∧ (.c0, .lower) ∉ s.grantSlot.alloc.grants := by
  decide +kernel

theorem witness_WindowStartSetsRequests :
    let s := { heating with alloc := { heating.alloc with slot := 30 } }
    s.alloc.started = true ∧ s.alloc.slot = 30 ∧ s.enabled .c0 = true ∧
    s.alloc.record (.c0, .upper) = some (requestOf 0 1200) := by decide +kernel

theorem witness_WithdrawNoticeDropsGrants :
    let s := withBox heating { Mailbox.empty with withdrawNotices := 1 }
    0 < (s.box .c0).withdrawNotices ∧ s.alloc.grants ≠ [] := by decide +kernel

theorem witness_SupplyAndLoadSetBudget :
    heating.link.owed = none ∧ 11000 ≤ 11000 ∧ 0 ≤ 11000 ∧ heating.alloc.grants.Nodup := by decide +kernel

/-- `heating` with output 0's counts, and its grant taken away where `granted` is false. -/
def sensed (miss stuck : Nat) (granted : Bool) : State :=
  let o := { heating.output 0 with missCount := miss, stuckCount := stuck, drive := granted }
  { heating with
    drive := { heating.drive with
      outputs := heating.drive.outputs.set 0 o, handed := if granted then [(.c0, .upper)] else [] }
    alloc := { heating.alloc with grants := if granted then [(.c0, .upper)] else [] } }

theorem witness_SenseCheckFindsFailures :
    let s := sensed 2 0 true
    let t := sensed 0 1 false
    (s.output 0).owner = some (.c0, .upper) ∧ s.enabled .c0 = true ∧ s.relayClosed .c0 = true ∧
    (s.drive.relays.get .c0).sinceSlot = true ∧ (s.output 0).stuck = false ∧ (.c0, .upper) ∈ s.drive.handed ∧
    (.c0, .upper) ∈ s.alloc.grants ∧ (0#12).getLsbD 0 = false ∧ (s.output 0).missCount = 2 ∧ (s.output 0).dead = false ∧
    (.c0, .upper) ∉ t.drive.handed ∧ (.c0, .upper) ∉ t.alloc.grants ∧ (1#12).getLsbD 0 = true ∧
    (t.output 0).stuckCount = 1 ∧ (t.seq.get .c0).state ≠ .absent ∧
    -- the first miss, the third with room in the queue, the first current, an ungranted dark check, and a STUCK output
    (sensed 0 0 true).link.queue.length + 0 < 24 ∧ ((sensed 0 0 true).output 0).missCount < 2 ∧
    ((sensed 0 0 false).output 0).stuckCount = 0 ∧ ((stuckAt s).output 0).stuck = true ∧
    ((after (.senseCheck 0#12) s).link.queue.drop 1).map (fun e => (e.kind, e.detail)) = [(.elementDead, some 0)] ∧
    -- an output of an open relay, of one closed since the slot event, of a disabled cavity, and one skipped
    (ready.relayClosed .c0 = false ∧ (ready.output 0).owner = some (.c0, .upper) ∧
      (SupplyRelay.opened).sinceSlot = false ∧ (sampled fourSamples).enabled .c2 = false ∧
      (.c0, .upper) ∈ s.drive.handed ∧ (.c0, .upper) ∉ ({ s.alloc with grants := [] } : Allocator).grants) := by
  decide +kernel

theorem witness_SwitchChangesMoveLock :
    (ready.enabled .c0 = true ∧ (ready.seq.get .c0).state ≠ .absent ∧
      (sampled fourSamples).enabled .c2 = false) ∧
    -- a lock in each of its five states meets the clauses of a switch at either value, the door at either value
    ([LockState.opened, .engaging, .locked, .releasing, .jammed].all fun k =>
      [LockSwitch.locked, .unlocked].all fun w => [DoorSwitch.closed, .opened].all fun d =>
        let s := withLock ready { moving k w with door := d }
        decide (s.enabled .c0 = true ∧ (s.locks.get .c0).state = k ∧ (s.locks.get .c0).switch = w ∧
          (s.locks.get .c0).door = d)) = true := by decide +kernel

/-- An OPEN lock whose switch goes LOCKED jams, and LOCK_LOST trips the cavity (R133, R157). -/
theorem test_lock_lost :
    let t := after (.lockSwitchChange .c0 .locked) ready
    (t.locks.get .c0).state = .jammed ∧ ((t.limit.cavity.get .c0).active.map fun r => r.first) = some .lockLost := by
  decide +kernel

theorem witness_TravelsRunOut :
    ((withLock ready (moving .engaging .unlocked)).locks.get .c0).state = .engaging ∧
    ((withLock ready (moving .releasing .locked)).locks.get .c0).state = .releasing ∧
    (ready.seq.get .c0).state ≠ .absent ∧
    ({ moving .releasing .unlocked with reversal := some 10 } : DoorLock).reversal.isSome = true ∧
    -- no trip, a trip of another cause, and a trip that holds LOCK_JAM: the events queued behind POWER_UP
    (let s (later : List Cause) : State := withLimit (withLock ready (moving .engaging .unlocked))
       { LimitRecord.powerUp .closed with active := some { tripRecord with later := later } }
     let events (u : State) := ((after (.engageTravelTimeout .c0) u).link.queue.drop 1).map fun e =>
       (e.kind, e.detail, e.additional)
     events (withLock ready (moving .engaging .unlocked)) = [(.lockJam, some 1, false), (.trip, some 9, false)] ∧
      events (s []) = [(.lockJam, some 1, false), (.trip, some 9, true)] ∧
      events (s [.lockJam]) = [(.lockJam, some 1, false)]) := by decide +kernel

theorem witness_LockAndUnlockDoor :
    ready.link.owed = none ∧ (ready.seq.get .c0).state ≠ .absent ∧ (ready.locks.get .c0).state = .opened ∧
    (ready.locks.get .c0).door = .closed ∧ (ready.seq.get .c0).state = .idle ∧
    ({ lockedLock with owner := .request } : DoorLock).owner ≠ .cycle ∧ ready.permission .c0 = true ∧
    ({ ready with scanner := { ready.scanner with
      latest := ready.scanner.latest.set .c0 (some (reads .valid (some 2501))) } } : State).permission .c0 = false ∧
    -- every lock state with every owner, and the permission given by the count alone
    ([LockState.opened, .engaging, .locked, .releasing, .jammed].all fun k =>
      [LockOwner.none, .request, .cycle, .recovery].all fun w =>
        let u := withLock ready { moving k .unlocked with owner := w }
        decide ((u.locks.get .c0).state = k ∧ (u.locks.get .c0).owner = w ∧ (u.locks.get .c0).switch = .unlocked ∧
          u.permission .c0 = true)) = true ∧
    (moving .jammed .locked).switch = .locked ∧ ({ lockedLock with door := .opened } : DoorLock).door = .opened ∧
    (withSeq { ready with scanner := Scanner.powerUp } { ready.seq.get .c0 with blindCool := 5400 }).permission .c0 = true ∧
    (withSeq { ready with scanner := Scanner.powerUp } { ready.seq.get .c0 with blindCool := 5399 }).permission .c0 = false ∧
    (heating.seq.get .c0).state ≠ .idle := by
  decide +kernel

/-- `heating` with the fan on at a level. -/
def cooling (level hold stall : Nat) (state : FanState) : State :=
  { heating with fan := { Fan.powerUp with
      level := level, duty := dutyOf level, holdDown := hold, stallCount := stall, recoveryCount := stall, state := state } }

theorem witness_FanLevelFollowsDemand :
    (cooling 3 59 0 .on).fan.holdDown < 60 ∧ (cooling 3 59 0 .on).fan.duty = dutyOf (cooling 3 59 0 .on).fan.level ∧
    ((after .fanEvaluation (cooling 3 59 0 .on)).fan.demand < 3) ∧
    ((after .fanEvaluation (cooling 0 0 0 .off)).fan.demand = 0 ∨ 0 < (after .fanEvaluation (cooling 0 0 0 .off)).fan.demand)
    := by decide +kernel

/-- The fan of a state that `cooling` gives is sound, where its level and state suit each other. -/
theorem cooling_fanSound (s : State) (hf : s.fan.sound) (ht : s.table = heating.table) : s.fanSound := by
  refine ⟨hf, fun n r h => ?_⟩
  have hr := slotWaits_records n r (by simpa [State.recordAt, slotWaits, ht] using h)
  clear h
  revert r
  decide +kernel

/-- `heating` with the fan at level 3 in SPINUP, with evaluations remaining. -/
def spinning (n : Nat) : State :=
  { cooling 3 0 0 .spinup with fan := { (cooling 3 0 0 .spinup).fan with spinup := some n } }

theorem witness_StallTripsHeatingCavities :
    let s := cooling 3 0 9 .on
    let r := { cooling 3 0 9 .stalled with fan := { (cooling 3 0 9 .stalled).fan with tachCount := 70 } }
    (s.fanSound ∧ r.fanSound ∧ (cooling 3 0 8 .on).fanSound) ∧
    (after .fanEvaluation (cooling 3 0 8 .on)).fan.stallCount = 9 ∧
    (s.fan.state = .on ∧ s.fan.stallCount = 9 ∧ (cooling 3 0 8 .on).fan.stallCount < 9 ∧
      (s.fan.level ≠ 0 ∧ 2 * (s.fan.tachCount * 60 / s.appliance.pulsesPerRev) < s.appliance.nominal s.fan.level) ∧
      s.enabled .c0 = true ∧ (s.seq.get .c0).state = .running ∧ (s.seq.get .c1).state = .idle) ∧
    (s.link.queue.length < 24 ∧ r.link.queue.length ≤ 20 ∧ r.fan.state = .stalled ∧ r.fan.recoveryCount = 9 ∧
      (cooling 3 0 8 .stalled).fan.recoveryCount < 9 ∧
      ¬ (2 * (r.fan.tachCount * 60 / r.appliance.pulsesPerRev) < r.appliance.nominal r.fan.level)) ∧
    -- OFF, and SPINUP in its last evaluation but one and its last
    ((cooling 0 0 0 .off).fanSound ∧ (spinning 2).fanSound ∧ (spinning 1).fanSound ∧ (cooling 0 0 0 .off).fan.state ≠ .stalled ∧
      (spinning 2).fan.spinup = some 2 ∧ (spinning 1).fan.spinup = some 1 ∧
      (after .fanEvaluation (spinning 2)).fan.spinup = some 1 ∧ (after .fanEvaluation (spinning 1)).fan.state = .on ∧
      (after .fanEvaluation (cooling 0 0 0 .off)).fan.spinup = some 5) := by
  refine ⟨⟨cooling_fanSound _ ?_ rfl, cooling_fanSound _ ?_ rfl, cooling_fanSound _ ?_ rfl⟩, by decide +kernel,
    by decide +kernel, by decide +kernel,
    cooling_fanSound _ ?_ rfl, cooling_fanSound _ ?_ rfl, cooling_fanSound _ ?_ rfl, by decide +kernel⟩ <;>
    refine ⟨?_, ?_, ?_, ?_, ?_, fun n h => ?_, ?_, ?_, ?_, ?_, ?_, ?_⟩ <;> first | decide +kernel | (cases h; try decide)

/-- The stall queues FAN_STALL ahead of the TRIP that it raises; the recovery is ON at level 3 (R148, R149). -/
theorem test_fan_stall :
    let t := after .fanEvaluation (cooling 3 0 9 .on)
    let r := after .fanEvaluation { cooling 3 0 9 .stalled with
      fan := { (cooling 3 0 9 .stalled).fan with tachCount := 70 } }
    (t.link.queue.drop 1).map (fun e => e.kind) = [.fanStall, .trip] ∧ t.fan.demand = 3 ∧
    r.fan.state = .on ∧ r.fan.level = 3 ∧ (r.link.queue.drop 1).map (fun e => e.kind) = [.trip, .fanRecovered] := by
  decide +kernel

theorem witness_FanInputsTaken :
    ((withBox heating { Mailbox.empty with fanReadings := [warm] }).box .c0).fanReadings = warm :: [] ∧
    ({ heating with mail := { heating.mail with fanBoard := [400] } } : State).mail.fanBoard = 400 :: [] ∧
    heating.link.owed = none ∧ 3 ≤ 3 := by decide +kernel

theorem witness_FirstCauseTrips :
    (Cause.overtemp.applies (heating.seq.get .c0).state = true ∧ (heating.limit.cavity.get .c0).active = none ∧
      Cause.noHeat.applies .idle = false ∧ (heating.output 0).owner.map Prod.fst = some .c0 ∧
      (heating.output 0).drive = true) ∧
    slotWaits.drivesFollow ∧
    (let l := { LimitRecord.powerUp .closed with active := some tripRecord }
     ((withLimit heating l).limit.cavity.get .c0).active = some tripRecord ∧ Cause.cutout = tripRecord.first ∧
     Cause.overtemp ≠ tripRecord.first ∧ Cause.overtemp ∉ tripRecord.later) ∧
    -- every element of the cavity's set DEAD after the check, and one of them not
    (let dead (s : State) : State := { s with drive := { s.drive with outputs := s.drive.outputs.map fun o =>
      { o with dead := o.owner.isSome } } }
     let t := after (.senseCheck 0#12) (dead heating)
     t.dead (.c0, .upper) = true ∧ t.dead (.c0, .lower) = true ∧ (dead heating).heating .c0 = true ∧
      ((t.limit.cavity.get .c0).active.map fun r => r.first) = some .noHeat ∧
      (after (.senseCheck 0#12) heating).dead (.c0, .lower) = false) := by
  refine ⟨by decide +kernel, ?_, by decide +kernel, by decide +kernel⟩
  unfold State.drivesFollow
  decide +kernel

theorem witness_SupervisorReadingRaises :
    let s (x : CavityReading) (hot catalyst : Nat) (k : Cutout) : State :=
      withBox (withLimit heating { LimitRecord.powerUp k with overtempCount := hot, catalystCount := catalyst })
        { Mailbox.empty with supervisorReadings := [x] }
    let first (u : State) : Option Cause := (after (.supervisorCavityReading .c0) u |>.limit.cavity.get .c0).active.map
      fun r => r.first
    ((s warm 0 0 .closed).box .c0).supervisorReadings = warm :: [] ∧ (heating.seq.get .c0).state = .running ∧
    (heating.limit.cavity.get .c0).active = none ∧ heating.relayClosed .c0 = true ∧
    -- the third reading at each limit, a probe in FAULT, an OPEN cut-out, and none of them
    first (s (reads .valid (some 5300)) 2 0 .closed) = some .overtemp ∧
    first (s (reads .valid (some 5299)) 2 0 .closed) = none ∧
    first (s { warm with catalystT := some 6500 } 0 2 .closed) = some .catalystOvertemp ∧
    first (s (reads .fault none) 2 2 .opened) = some .probeFault ∧
    first (s warm 0 0 .opened) = some .cutout ∧ first (s warm 0 0 .closed) = none ∧
    -- an OPEN cut-out with the relay OPEN, and one with the cavity IDLE
    (let u := { s warm 0 0 .opened with drive := ready.drive }
     u.relayClosed .c0 = false ∧ (u.limit.cavity.get .c0).cutout = .opened ∧ first u = none) ∧
    (let u := withSeq (s (reads .fault none) 0 0 .opened) (ready.seq.get .c0)
     (u.seq.get .c0).state = .idle ∧ u.relayClosed .c0 = true ∧ first u = none) := by decide +kernel

theorem witness_BoardAndCutoutTrip :
    ({ heating with mail := { heating.mail with supervisorBoard := [850] } } : State).mail.supervisorBoard = 850 :: [] ∧
    heating.enabled .c0 = true ∧ (heating.limit.cavity.get .c0).cutout = .closed ∧ heating.relayClosed .c0 = true ∧
    (heating.seq.get .c0).state = .running ∧ ready.relayClosed .c0 = false ∧
    0 < ((withBox heating { Mailbox.empty with relayClosings := 1 }).box .c0).relayClosings ∧
    ((withLimit heating (LimitRecord.powerUp .opened)).limit.cavity.get .c0).cutout = .opened ∧
    ready.enabled .c2 = true ∧ (sampled fourSamples).enabled .c2 = false ∧ (ready.seq.get .c0).state = .idle ∧
    ((after .supervisorBoardReading { heating with mail := { heating.mail with supervisorBoard := [850] } }
      |>.limit.cavity.get .c0).active.map fun r => r.first) = some .boardOvertemp ∧
    ((after (.cutoutChange .c0 .opened) heating |>.limit.cavity.get .c0).active.map fun r => r.first) = some .cutout ∧
    ((after (.supplyRelayClosed .c0) (withBox (withLimit heating (LimitRecord.powerUp .opened))
      { Mailbox.empty with relayClosings := 1 }) |>.limit.cavity.get .c0).active.map fun r => r.first) = some .cutout := by
  decide +kernel

theorem witness_ClearTripClears :
    let x : LimitReading := ⟨.valid, some 5299, some 5299, .valid, some 6499⟩
    let s := withLimit (withSeq ready { Sequencer.fresh .faulted with bound := true })
      { LimitRecord.powerUp .closed with active := some tripRecord, reading := some x }
    s.link.owed = none ∧ (s.seq.get .c0).state = .faulted ∧ (s.limit.cavity.get .c0).active = some tripRecord ∧
    (s.limit.cavity.get .c0).reading = some x ∧ x.probe = .valid ∧ x.probeT = some 5299 ∧
    (5299 : Int) < (s.profiles.get .c0).hardLimit ∧ x.catalystT = some 6499 ∧
    (6499 : Int) < (s.profiles.get .c0).catalystLimit ∧ (s.limit.cavity.get .c0).cutout = .closed ∧
    s.fan.state ≠ .stalled ∧ s.limit.board = none ∧ (s.locks.get .c0).state = .opened ∧
    -- each check of R165 fails in turn
    (let reply (u : State) : Reply := replyTo .clearTrip [0#8] u
     let l := s.limit.cavity.get .c0
     [reply ready, reply (withLimit s { l with reading := none }),
       reply (withLimit s { l with reading := some { x with probeT := some 5300 } }),
       reply (withLimit s { l with reading := some { x with catalystT := some 6500 } }),
       reply (withLimit s { l with cutout := .opened }), reply { s with fan := { s.fan with state := .stalled } },
       reply { s with limit := { s.limit with board := some 800 } }, reply (withLock s lockedLock)] =
       [Reply.refuse .state, Reply.tripPresent .probeFault, Reply.tripPresent .overtemp,
         Reply.tripPresent .catalystOvertemp, Reply.tripPresent .cutout, Reply.tripPresent .fanStall,
         Reply.tripPresent .boardOvertemp, Reply.refuse .lock]) := by
  decide +kernel

end Sys2Proof.Tests
end

section
/-! PROOF. The chain check accepts exactly the well-formed chains (R25, R26, R29): one equation for each visit of the
walk, and an induction on its fuel. -/

namespace Sys2Proof.Machine

/-! ### A record at the front of a chain -/

section
variable {table : Nat → Option PhaseRecord} {p : CavityProfile} {position : Nat} {r : PhaseRecord}

/-- A record that names END is followed by nothing. -/
theorem chainHolds_end_iff (hr : table position = some r) (hk : recordCheck p r = none) (hn : r.next = none)
    (rest : List Nat) : chainHolds table p (position :: rest) ↔ rest = [] := by
  cases rest <;> simp [chainHolds, hr, hk, hn]

/-- A record that names an index is followed by it. -/
theorem chainHolds_link_iff {n : Nat} (hr : table position = some r) (hk : recordCheck p r = none)
    (hn : r.next = some n) (rest : List Nat) :
    chainHolds table p (position :: rest) ↔ ∃ rest', rest = n :: rest' ∧ chainHolds table p (n :: rest') := by
  cases rest with
  | nil => simp [chainHolds, hr, hk, hn]
  | cons m rest =>
    constructor
    · rintro ⟨⟨r', hr', _, hm⟩, h⟩
      cases hr.symm.trans hr'
      cases hn.symm.trans hm
      exact ⟨rest, rfl, h⟩
    · rintro ⟨_, ⟨rfl, rfl⟩, h⟩
      exact ⟨⟨r, hr, hk, hn⟩, h⟩

/-! ### A visit of the walk -/

/-- The walk ends, accepting its list, at a record that passes the cavity's checks and names END (R26). -/
theorem walk_at_end {fuel : Nat} {walked : List Nat} (hr : table position = some r) (hk : recordCheck p r = none)
    (hn : r.next = none) : walk table p (fuel + 1) walked position = .ok walked := by
  simp only [walk, hr, hk, hn]

/-- At a record that passes the cavity's checks and names an index the walk looks for LOOP, then for LENGTH, and goes on
(R26). -/
theorem walk_at_link {fuel n : Nat} {walked : List Nat} (hr : table position = some r) (hk : recordCheck p r = none)
    (hn : r.next = some n) :
    walk table p (fuel + 1) walked position =
      if walked.contains n then .error (n, .loop)
      else if walked.length = chainLimit then .error (n, .length)
      else walk table p fuel (walked ++ [n]) n := by
  simp only [walk, hr, hk, hn]

/-- The walk accepts only where the position visited holds a record that passes the cavity's checks. -/
theorem passes_of_walk_ok {fuel : Nat} {walked w : List Nat} (h : walk table p fuel walked position = .ok w) :
    ∃ r, table position = some r ∧ recordCheck p r = none := by
  cases fuel with
  | zero => cases h
  | succ fuel =>
    rw [walk] at h
    split at h
    · cases h
    · rename_i r hr
      split at h
      · cases h
      · rename_i hk
        exact ⟨r, hr, hk⟩

end

/-! ### The whole walk -/

/-- The walk, its fuel the room left under the chain limit, accepts exactly the lists that carry on what it has walked by
the records' links, with no repetition, within the limit. -/
theorem walk_ok_iff (table : Nat → Option PhaseRecord) (p : CavityProfile) (fuel : Nat) (pre : List Nat)
    (position : Nat) (w : List Nat) (hfuel : fuel + pre.length = chainLimit) (hnodup : (pre ++ [position]).Nodup) :
    walk table p fuel (pre ++ [position]) position = .ok w ↔
      ∃ rest, w = pre ++ position :: rest ∧ w.Nodup ∧ w.length ≤ chainLimit ∧
        chainHolds table p (position :: rest) := by
  induction fuel generalizing pre position with
  | zero =>
    refine ⟨fun h => (by cases h), ?_⟩
    rintro ⟨rest, rfl, _, hlength, _⟩
    simp at hlength
    omega
  | succ fuel ih =>
    by_cases hpass : ∃ r, table position = some r ∧ recordCheck p r = none
    case neg =>
      refine ⟨fun h => absurd (passes_of_walk_ok h) hpass, ?_⟩
      rintro ⟨rest, _, _, _, ⟨r, hr, hk, _⟩, _⟩
      exact absurd ⟨r, hr, hk⟩ hpass
    obtain ⟨r, hr, hk⟩ := hpass
    cases hn : r.next with
    | none =>
      simp only [walk_at_end hr hk hn, chainHolds_end_iff hr hk hn, Except.ok.injEq]
      constructor
      · rintro rfl
        exact ⟨[], rfl, hnodup, by simp; omega, rfl⟩
      · rintro ⟨rest, rfl, _, _, rfl⟩
        rfl
    | some n =>
      simp only [walk_at_link hr hk hn, chainHolds_link_iff hr hk hn]
      split_ifs with hloop hfull
      · refine ⟨fun h => (by cases h), ?_⟩
        rintro ⟨_, rfl, hw, _, rest, rfl, _⟩
        rw [List.append_cons] at hw
        exact absurd rfl ((List.nodup_append.mp hw).2.2 n (by simpa using hloop) n (by simp))
      · refine ⟨fun h => (by cases h), ?_⟩
        rintro ⟨_, rfl, _, hlength, rest, rfl, _⟩
        simp at hlength hfull
        omega
      · have hnew : n ∉ pre ++ [position] := by simpa using hloop
        rw [ih (pre ++ [position]) n (by simp; omega) (hnodup.append (by simp) (by simpa using hnew))]
        constructor
        · rintro ⟨rest, rfl, hw, hlength, hrest⟩
          exact ⟨n :: rest, by simp, hw, hlength, rest, rfl, hrest⟩
        · rintro ⟨_, rfl, hw, hlength, rest, rfl, hrest⟩
          exact ⟨rest, by simp, hw, hlength, hrest⟩

/-- Settles O22: the walk from the first position alone, with the whole chain limit as its fuel. -/
theorem chainCheckIsExact : Obligations.ChainCheckIsExact := by
  intro table p first w
  rw [chainCheck, ← List.nil_append [first], walk_ok_iff table p chainLimit [] first w rfl (by simp)]
  constructor
  · rintro ⟨rest, rfl, hnodup, hlength, hholds⟩
    exact ⟨rfl, hnodup, hlength, hholds⟩
  · rintro ⟨hhead, hnodup, hlength, hholds⟩
    obtain ⟨rest, rfl⟩ := List.head?_eq_some_iff.mp hhead
    exact ⟨rest, rfl, hnodup, hlength, hholds⟩

end Sys2Proof.Machine
end

section
/-! PROOF. The fixed chains of running cycles go on passing the chain check (R29, R30): what the invariant reads of the
state, what each operation of the Sequencer and of the Phase Table does to it, and one lemma an owner of requests. -/

namespace Sys2Proof.Machine

/-! ### What the invariant reads -/

/-- Every next of a record names a table record (R19, R20). -/
def LinksBounded (table : Nat → Option PhaseRecord) : Prop :=
  ∀ n r, table n = some r → ∀ k, r.next = some k → k < 48

/-- A Sequencer's fixed chain passes the chain check, with the chain position on it (R29). -/
def ChainStands (table : Nat → Option PhaseRecord) (p : CavityProfile) (c : Cavity) (q : Sequencer) : Prop :=
  chainHolds table p q.chain ∧ q.chain.Nodup ∧ q.chain.length ≤ 16 ∧ q.position < q.chain.length ∧
    ∀ n ∈ q.chain, n < 48 ∨ n = inlineSlot c

/-- The Sequencer runs a cycle: LOCKING or RUNNING (R22). -/
def Sequencer.underWay (q : Sequencer) : Prop := q.state = .locking ∨ q.state = .running

/-- A cavity's part of the invariant: while its cycle is under way its chain stands, and in RUNNING the current record is
the one at the chain position. -/
def CycleHeld (table : Nat → Option PhaseRecord) (p : CavityProfile) (c : Cavity) (q : Sequencer) : Prop :=
  q.underWay → ChainStands table p c q ∧
    (q.state = .running → ∃ n r, q.entry = some n ∧ table n = some r ∧ q.current = some (n, r.kind))

theorem chainsHeld_iff (s : State) :
    s.chainsHeld ↔ LinksBounded s.recordAt ∧ ∀ c, CycleHeld s.recordAt (s.profiles.get c) c (s.seq.get c) := by
  simp only [State.chainsHeld, LinksBounded, CycleHeld, ChainStands, Sequencer.underWay, and_assoc]

/-- The two states agree in all that the invariant reads. -/
def SameCycles (s t : State) : Prop := t.table = s.table ∧ t.profiles = s.profiles ∧ t.seq = s.seq

theorem SameCycles.refl (s : State) : SameCycles s s := ⟨rfl, rfl, rfl⟩

theorem recordAt_congr {s t : State} (h : t.table = s.table) : t.recordAt = s.recordAt := by
  funext n
  rw [State.recordAt, h, State.recordAt]

theorem chainsHeld_of_same {s t : State} (hs : s.chainsHeld) (h : SameCycles s t) : t.chainsHeld := by
  obtain ⟨htable, hprofiles, hseq⟩ := h
  rw [chainsHeld_iff] at hs ⊢
  rw [recordAt_congr htable, hprofiles, hseq]
  exact hs

/-! ### One Sequencer replaced -/

theorem cycleHeld_of_not_underWay {table : Nat → Option PhaseRecord} {p : CavityProfile} {c : Cavity} {q : Sequencer}
    (h : ¬ q.underWay) : CycleHeld table p c q := fun hq => absurd hq h

/-- The invariant is kept where one Sequencer alone is replaced, by one whose part of it holds. -/
theorem chainsHeld_of_seq_set {s t : State} {c : Cavity} {q : Sequencer} (hs : s.chainsHeld)
    (htable : t.table = s.table) (hprofiles : t.profiles = s.profiles) (hseq : t.seq = s.seq.set c q)
    (hq : CycleHeld s.recordAt (s.profiles.get c) c q) : t.chainsHeld := by
  rw [chainsHeld_iff] at hs ⊢
  rw [recordAt_congr htable, hprofiles, hseq]
  refine ⟨hs.1, fun d => ?_⟩
  rw [PerCavity.get_set]
  split
  · rename_i hd
    exact hd ▸ hq
  · exact hs.2 d

theorem setSeq_chainsHeld {s : State} {c : Cavity} {q : Sequencer} (hs : s.chainsHeld)
    (hq : CycleHeld s.recordAt (s.profiles.get c) c q) : (s.setSeq c q).chainsHeld :=
  chainsHeld_of_seq_set hs rfl rfl rfl hq

/-- A Sequencer outside LOCKING and RUNNING may replace any other. -/
theorem setSeq_chainsHeld_of_ended {s : State} {c : Cavity} {q : Sequencer} (hs : s.chainsHeld) (hq : ¬ q.underWay) :
    (s.setSeq c q).chainsHeld :=
  setSeq_chainsHeld hs (cycleHeld_of_not_underWay hq)

/-- A Sequencer may be replaced by one that differs in nothing that the invariant reads. -/
theorem setSeq_chainsHeld_of_same {s : State} {c : Cavity} {q : Sequencer} (hs : s.chainsHeld)
    (hstate : q.state = (s.seq.get c).state) (hchain : q.chain = (s.seq.get c).chain)
    (hposition : q.position = (s.seq.get c).position) (hcurrent : q.current = (s.seq.get c).current) :
    (s.setSeq c q).chainsHeld := by
  refine setSeq_chainsHeld hs ?_
  have h := ((chainsHeld_iff s).mp hs).2 c
  simpa only [CycleHeld, ChainStands, Sequencer.underWay, Sequencer.entry, hstate, hchain, hposition, hcurrent] using h

/-! ### Along a chain -/

/-- The record at an entry of a chain names the entry that follows. -/
theorem chainHolds_getElem? {table : Nat → Option PhaseRecord} {p : CavityProfile} {l : List Nat} {i n : Nat}
    (h : chainHolds table p l) (hn : l[i]? = some n) : ∃ r, table n = some r ∧ r.next = l[i + 1]? := by
  induction l generalizing i with
  | nil => simp at hn
  | cons m l ih =>
    obtain ⟨⟨r, hr, _, hnext⟩, hrest⟩ := h
    cases i with
    | zero =>
      obtain rfl : m = n := by simpa using hn
      exact ⟨r, hr, by simpa [List.head?_eq_getElem?] using hnext⟩
    | succ i => exact ih hrest (by simpa using hn)

/-- Past its first entry a chain holds table records only (R19). -/
theorem lt_of_mem_chain_tail {table : Nat → Option PhaseRecord} {p : CavityProfile} (hlinks : LinksBounded table)
    {l : List Nat} {n m : Nat} (h : chainHolds table p (n :: l)) (hm : m ∈ l) : m < 48 := by
  induction l generalizing n with
  | nil => cases hm
  | cons k l ih =>
    obtain ⟨⟨r, hr, _, hnext⟩, hrest⟩ := h
    rcases List.mem_cons.mp hm with rfl | hm
    · exact hlinks n r hr m hnext
    · exact ih hrest hm

/-- A chain reads the Phase Table at its own entries only. -/
theorem chainHolds_congr {table table' : Nat → Option PhaseRecord} {p : CavityProfile} {l : List Nat}
    (heq : ∀ n ∈ l, table' n = table n) (h : chainHolds table p l) : chainHolds table' p l := by
  induction l with
  | nil => trivial
  | cons n l ih =>
    obtain ⟨⟨r, hr, hk, hnext⟩, hrest⟩ := h
    exact ⟨⟨r, (heq n (by simp)).trans hr, hk, hnext⟩, ih (fun m hm => heq m (by simp [hm])) hrest⟩

/-- Where a chain stands, its position names an entry with a record, whose next is the entry that follows. -/
theorem ChainStands.record {table : Nat → Option PhaseRecord} {p : CavityProfile} {c : Cavity} {q : Sequencer}
    (h : ChainStands table p c q) :
    ∃ n r, q.entry = some n ∧ table n = some r ∧ r.next = q.chain[q.position + 1]? := by
  obtain ⟨hchain, _, _, hposition, _⟩ := h
  have hn : q.entry = some q.chain[q.position] := List.getElem?_eq_getElem hposition
  obtain ⟨r, hr, hnext⟩ := chainHolds_getElem? hchain hn
  exact ⟨_, r, hn, hr, hnext⟩

/-- The list that the chain check accepts stands as the fixed chain of the cycle it starts (R29). -/
theorem chainStands_of_check {table : Nat → Option PhaseRecord} {p : CavityProfile} {c : Cavity} {first : Nat}
    {q : Sequencer} (hlinks : LinksBounded table) (hcheck : chainCheck table p first = .ok q.chain)
    (hfirst : first < 48 ∨ first = inlineSlot c) (hposition : q.position = 0) : ChainStands table p c q := by
  obtain ⟨hhead, hnodup, hlength, hholds⟩ := (chainCheckIsExact table p first q.chain).mp hcheck
  obtain ⟨rest, hrest⟩ := List.head?_eq_some_iff.mp hhead
  refine ⟨hholds, hnodup, hlength, by simp [hposition, hrest], fun n hn => ?_⟩
  rw [hrest] at hn hholds
  rcases List.mem_cons.mp hn with rfl | hn
  · exact hfirst
  · exact .inl (lt_of_mem_chain_tail hlinks hholds hn)

/-! ### A record replaced -/

theorem recordAt_setRecord (s : State) {n : Nat} (hn : n < 51) (r : Option PhaseRecord) (m : Nat) :
    (s.setRecord n r).recordAt m = if m = n then r else s.recordAt m := by
  unfold State.recordAt State.setRecord
  by_cases hm : m = n
  · subst hm
    simp [hn]
  · simp [hm, Vector.getElem?_setIfInBounds_ne (Ne.symm hm)]

/-- A position that is on no fixed chain of a cycle under way may take any record whose next names a table record. -/
theorem setRecord_chainsHeld {s : State} {n : Nat} {r : Option PhaseRecord} (hs : s.chainsHeld) (hn : n < 51)
    (hnext : ∀ x, r = some x → ∀ k, x.next = some k → k < 48)
    (hfree : ∀ c, (s.seq.get c).underWay → n ∉ (s.seq.get c).chain) : (s.setRecord n r).chainsHeld := by
  rw [chainsHeld_iff] at hs ⊢
  obtain ⟨hlinks, hcycles⟩ := hs
  refine ⟨fun m x hx => ?_, fun c hc => ?_⟩
  · rw [recordAt_setRecord s hn] at hx
    split at hx
    · exact hnext x hx
    · exact hlinks m x hx
  · have hsame : ∀ m ∈ (s.seq.get c).chain, (s.setRecord n r).recordAt m = s.recordAt m := by
      intro m hm
      rw [recordAt_setRecord s hn, if_neg]
      rintro rfl
      exact hfree c hc hm
    obtain ⟨⟨hchain, hnodup, hlength, hposition, hslots⟩, hcurrent⟩ := hcycles c hc
    refine ⟨⟨chainHolds_congr hsame hchain, hnodup, hlength, hposition, hslots⟩, fun hrunning => ?_⟩
    obtain ⟨m, x, hm, hx, hcur⟩ := hcurrent hrunning
    exact ⟨m, x, hm, (hsame m (List.mem_of_getElem? hm)).trans hx, hcur⟩

theorem inlineSlot_injective {c d : Cavity} (h : inlineSlot c = inlineSlot d) : c = d := by
  revert c d
  rintro ⟨⟩ ⟨⟩ <;> simp [inlineSlot, Cavity.num]

theorem inlineSlot_lt (c : Cavity) : inlineSlot c < 51 := by cases c <;> decide

/-- An inline slot stands on no chain but its own cavity's (R19, R32). -/
theorem inlineSlot_not_mem_chain {s : State} (hs : s.chainsHeld) {c d : Cavity} (hc : ¬ (s.seq.get c).underWay)
    (hd : (s.seq.get d).underWay) : inlineSlot c ∉ (s.seq.get d).chain := by
  intro hmem
  obtain ⟨⟨_, _, _, _, hslots⟩, _⟩ := ((chainsHeld_iff s).mp hs).2 d hd
  rcases hslots _ hmem with hlt | hslot
  · exact absurd hlt (by simp [inlineSlot])
  · exact hc (inlineSlot_injective hslot ▸ hd)

/-! ### The Sequencer's operations -/

/-- The Sequencer that leaves SETTLING or RECOVERING stands in FAULTED or IDLE (R54). -/
theorem leave_not_underWay (q : Sequencer) : ¬ q.leave.underWay := by
  rw [leave_state, Sequencer.underWay]
  dsimp only
  split <;> simp

theorem settlingTest_chainsHeld {s : State} (hs : s.chainsHeld) (c : Cavity) : (s.settlingTest c).chainsHeld := by
  rcases settlingTest_cases s c with h | h | ⟨_, _, h⟩ | ⟨_, h⟩ <;> rw [h]
  · exact hs
  · exact setSeq_chainsHeld_of_ended hs (leave_not_underWay _)
  · have hfaulted := setSeq_chainsHeld_of_ended (c := c) (q := { s.seq.get c with
      outcome := some .tripped, abortReason := none, lockOwned := false, state := .faulted }) hs
      (by simp [Sequencer.underWay])
    exact chainsHeld_of_same hfaulted ⟨rfl, rfl, rfl⟩
  · exact setSeq_chainsHeld_of_ended hs (leave_not_underWay _)

theorem postRequest_chainsHeld {s : State} (hs : s.chainsHeld) (c : Cavity) (mode : RegMode)
    (reading : Option CavityReading) : (s.postRequest c mode reading).chainsHeld := by
  refine chainsHeld_of_same (s := s.setSeq c { s.seq.get c with newPhase := false }) ?_ ⟨rfl, rfl, rfl⟩
  exact setSeq_chainsHeld_of_same hs rfl rfl rfl rfl

/-- A cycle that ends stands in SETTLING before the settling test (R52). -/
theorem endCycle_chainsHeld {s : State} (hs : s.chainsHeld) (c : Cavity) (outcome : CycleOutcome)
    (reason : Option AbortReason) (reading : Option CavityReading) :
    (s.endCycle c outcome reason reading).chainsHeld := by
  unfold State.endCycle
  refine settlingTest_chainsHeld ?_ c
  have hsettling := setSeq_chainsHeld_of_ended (c := c) (q := { (s.postRequest c .off reading).seq.get c with
    outcome := some outcome, abortReason := reason, state := .settling })
    (postRequest_chainsHeld hs c .off reading) (by simp [Sequencer.underWay])
  refine chainsHeld_of_same hsettling ?_
  dsimp only
  split <;> simp [SameCycles]

/-- A phase that begins makes the record at the chain position the current one, and begins nothing else of the cycle
context but the phase's own counts (R43). -/
theorem beginPhase_seq {s : State} {c : Cavity} {n : Nat} {r : PhaseRecord} (entering : Bool)
    (hn : (s.seq.get c).entry = some n) (hr : s.recordAt n = some r) :
    (s.beginPhase c entering).seq = s.seq.set c { s.seq.get c with
      current := some (n, r.kind), phaseElapsed := 0, soakProgress := 0, newPhase := true } := by
  have hrecord : s.phaseRecord c = some r := by rw [State.phaseRecord, hn, Option.bind_some, hr]
  cases entering <;> cases hheats : r.kind.heats <;> simp [State.beginPhase, hn, hrecord, hheats]

/-- A phase that begins where the chain stands keeps the invariant, whatever was the current record before. -/
theorem beginPhase_chainsHeld {s : State} {c : Cavity} {q : Sequencer} (hs : s.chainsHeld) (entering : Bool)
    (hq : ChainStands s.recordAt (s.profiles.get c) c q) : ((s.setSeq c q).beginPhase c entering).chainsHeld := by
  obtain ⟨n, r, hn, hr, _⟩ := hq.record
  have hseq : ((s.setSeq c q).beginPhase c entering).seq = s.seq.set c { q with
      current := some (n, r.kind), phaseElapsed := 0, soakProgress := 0, newPhase := true } := by
    simpa using beginPhase_seq (s := s.setSeq c q) (c := c) entering (by simpa using hn) hr
  exact chainsHeld_of_seq_set hs (by simp) (by simp) hseq fun _ => ⟨hq, fun _ => ⟨n, r, hn, hr, rfl⟩⟩

/-- RUNNING is entered with the chain standing (R40, R41). -/
theorem enterRunning_chainsHeld {s : State} {c : Cavity} (hs : s.chainsHeld)
    (hq : ChainStands s.recordAt (s.profiles.get c) c (s.seq.get c)) : (s.enterRunning c).chainsHeld :=
  beginPhase_chainsHeld (q := { s.seq.get c with state := .running }) hs true hq

theorem chainStands_of_underWay {s : State} {c : Cavity} (hs : s.chainsHeld) (hc : (s.seq.get c).underWay) :
    ChainStands s.recordAt (s.profiles.get c) c (s.seq.get c) := (((chainsHeld_iff s).mp hs).2 c hc).1

/-- The phase that follows stands at the next entry of the chain, since the record that ends names one (R51). -/
theorem endPhase_chainsHeld {s : State} {c : Cavity} (hs : s.chainsHeld) (hc : (s.seq.get c).underWay)
    (reading : Option CavityReading) : (s.endPhase c reading).chainsHeld := by
  have hstands := chainStands_of_underWay hs hc
  obtain ⟨n, r, hn, hr, hnext⟩ := hstands.record
  have hrecord : s.phaseRecord c = some r := by rw [State.phaseRecord, hn, Option.bind_some, hr]
  simp only [State.endPhase, hrecord]
  split
  · refine endCycle_chainsHeld ?_ c .done none reading
    exact setSeq_chainsHeld_of_same hs rfl rfl rfl rfl
  · rename_i k hk
    obtain ⟨hchain, hnodup, hlength, _, hslots⟩ := hstands
    obtain ⟨hposition, _⟩ := List.getElem?_eq_some_iff.mp (hnext.symm.trans hk)
    refine beginPhase_chainsHeld hs false ?_
    exact ⟨hchain, hnodup, hlength, hposition, hslots⟩

theorem countTime_chainsHeld {s : State} (hs : s.chainsHeld) (c : Cavity) : (s.countTime c).chainsHeld :=
  setSeq_chainsHeld_of_same (chainsHeld_of_same hs (by simp [SameCycles])) (by simp) (by simp) (by simp) (by simp)

/-- The progress test changes nothing that the invariant reads (R46 to R49). -/
theorem progress_same (q : Sequencer) (r : PhaseRecord) (soakBand : Nat) (reading : CavityReading) :
    (q.progress r soakBand reading).state = q.state ∧ (q.progress r soakBand reading).chain = q.chain ∧
      (q.progress r soakBand reading).position = q.position ∧
      (q.progress r soakBand reading).current = q.current := by
  unfold Sequencer.progress
  split <;> exact ⟨rfl, rfl, rfl, rfl⟩

theorem limitReached_chainsHeld {s : State} {c : Cavity} (hs : s.chainsHeld) (hc : (s.seq.get c).underWay)
    (r : PhaseRecord) (reading : CavityReading) : (s.limitReached c r reading).chainsHeld := by
  unfold State.limitReached
  have hqueued (severity : Nat) :
      (s.queueEvent .phaseTimeout (some c) severity (s.seq.get c).entry).chainsHeld :=
    chainsHeld_of_same hs ⟨rfl, rfl, rfl⟩
  dsimp only
  split
  · exact endPhase_chainsHeld (hqueued 1) hc (some reading)
  · exact endCycle_chainsHeld (hqueued 2) c .aborted (some .phaseTimeout) (some reading)

theorem phaseTests_chainsHeld {s : State} {c : Cavity} (hs : s.chainsHeld) (hc : (s.seq.get c).underWay)
    (reading : CavityReading) : (s.phaseTests c reading).chainsHeld := by
  unfold State.phaseTests
  split
  · exact hs
  · rename_i r _
    obtain ⟨hstate, hchain, hposition, hcurrent⟩ :=
      progress_same (s.seq.get c) r (s.profiles.get c).soakBand reading
    have hprogress := setSeq_chainsHeld_of_same hs hstate hchain hposition hcurrent
    have hc' : ((s.setSeq c ((s.seq.get c).progress r (s.profiles.get c).soakBand reading)).seq.get c).underWay := by
      simpa [Sequencer.underWay, hstate] using hc
    dsimp only
    split_ifs
    · exact endPhase_chainsHeld hprogress hc' (some reading)
    · exact limitReached_chainsHeld hprogress hc' r reading
    · exact hprogress

theorem runningReading_chainsHeld {s : State} {c : Cavity} (hs : s.chainsHeld) (hc : (s.seq.get c).underWay)
    (reading : CavityReading) : (s.runningReading c reading).chainsHeld := by
  have htests : ((s.countTime c).phaseTests c reading).chainsHeld :=
    phaseTests_chainsHeld (countTime_chainsHeld hs c) (by simpa [State.countTime, Sequencer.underWay] using hc) reading
  unfold State.runningReading
  dsimp only
  split
  · exact postRequest_chainsHeld htests c _ (some reading)
  · exact htests

theorem countBlind_chainsHeld {s : State} (hs : s.chainsHeld) (c : Cavity) (reading : CavityReading) :
    (s.countBlind c reading).chainsHeld := by
  unfold State.countBlind
  dsimp only
  split
  · exact hs
  · exact setSeq_chainsHeld_of_same hs rfl rfl rfl rfl

theorem settlingReading_chainsHeld {s : State} (hs : s.chainsHeld) (c : Cavity) (reading : CavityReading) :
    (s.settlingReading c reading).chainsHeld :=
  settlingTest_chainsHeld (chainsHeld_of_same (countBlind_chainsHeld hs c reading) (by simp [SameCycles])) c

theorem sequenceReading_chainsHeld {s : State} (hs : s.chainsHeld) (c : Cavity) (reading : CavityReading) :
    (s.sequenceReading c reading).chainsHeld := by
  unfold State.sequenceReading
  split
  case h_1 hrunning => exact runningReading_chainsHeld hs (.inr hrunning) reading
  case h_2 | h_3 => exact settlingReading_chainsHeld hs c reading
  case h_4 => exact countBlind_chainsHeld hs c reading
  all_goals exact hs

/-! ### What the Sequencer takes from its mailbox -/

/-- A mailbox replaced changes nothing that the invariant reads. -/
theorem setMail_chainsHeld {s : State} (hs : s.chainsHeld) (c : Cavity) (x : Mailbox) : (s.setMail c x).chainsHeld :=
  chainsHeld_of_same hs ⟨rfl, rfl, rfl⟩

theorem takeSequencerReading_chainsHeld {s : State} (hs : s.chainsHeld) (c : Cavity) :
    (takeSequencerReading c s).chainsHeld := by
  unfold takeSequencerReading
  split
  · exact hs
  · exact sequenceReading_chainsHeld (setMail_chainsHeld hs c _) c _

theorem takeHeatComplete_chainsHeld {s : State} (hs : s.chainsHeld) (c : Cavity) :
    (takeHeatComplete c s).chainsHeld := by
  unfold takeHeatComplete
  split
  · exact hs
  · unfold State.heatCompleted
    dsimp only
    split
    · rename_i hrunning
      exact endPhase_chainsHeld (setMail_chainsHeld hs c _) (.inr hrunning.1) none
    · exact setMail_chainsHeld hs c _

/-- A lock notice at rest LOCKED enters RUNNING from LOCKING, where the chain stands (R41). -/
theorem lockNoticed_chainsHeld {s : State} (hs : s.chainsHeld) (c : Cavity) (n : LockNotice) :
    (s.lockNoticed c n).chainsHeld := by
  unfold State.lockNoticed
  split
  case h_1 _ hlocking => exact enterRunning_chainsHeld hs (chainStands_of_underWay hs (.inl hlocking))
  case h_2 => exact endCycle_chainsHeld hs c .aborted (some .doorOpened) none
  case h_3 | h_4 => exact settlingTest_chainsHeld hs c
  case h_5 => exact hs

theorem takeLockNotice_chainsHeld {s : State} (hs : s.chainsHeld) (c : Cavity) : (takeLockNotice c s).chainsHeld := by
  unfold takeLockNotice
  split
  · exact hs
  · exact lockNoticed_chainsHeld (setMail_chainsHeld hs c _) c _

theorem tripNoticed_chainsHeld {s : State} (hs : s.chainsHeld) (c : Cavity) : (s.tripNoticed c).chainsHeld := by
  unfold State.tripNoticed
  dsimp only
  split
  case h_1 | h_2 => exact endCycle_chainsHeld hs c .tripped none none
  case h_3 hsettling =>
    exact settlingTest_chainsHeld (setSeq_chainsHeld_of_ended hs (by simp [Sequencer.underWay, hsettling])) c
  case h_4 hrecovering => exact setSeq_chainsHeld_of_ended hs (by simp [Sequencer.underWay, hrecovering])
  case h_5 => exact setSeq_chainsHeld_of_ended hs (by simp [Sequencer.underWay])
  case h_6 | h_7 => exact hs

theorem takeTripNotice_chainsHeld {s : State} (hs : s.chainsHeld) (c : Cavity) : (takeTripNotice c s).chainsHeld := by
  unfold takeTripNotice
  split
  · exact hs
  · exact tripNoticed_chainsHeld (setMail_chainsHeld hs c _) c

end Sys2Proof.Machine
end

section
/-! PROOF. The records of the line (R20, R24, R187): the check of a record as a list of field checks, and the bytes that a
record is written out as. -/

namespace Sys2Proof.Machine

/-! ### The checks of a record -/

theorem firstFailing_cons {α : Type} (a : α) (fails : Bool) (l : List (α × Bool)) :
    firstFailing ((a, fails) :: l) = if fails then some a else firstFailing l := by
  cases fails <;> simp [firstFailing]

/-- The checks of the fields past the kind, for a record of a kind, in the order of the codes (R20). -/
def RawRecord.fieldChecks (x : RawRecord) (k : PhaseKind) : List (Nat × Bool) :=
  [(2, !x.targetOk k), (3, !x.rampOk k), (4, !x.durationOk k), (5, !optCount 1 1023 x.limit),
    (6, x.abort && x.limit.isNone), (7, !x.elementsOk k), (9, !decide (x.fanFloor ≤ 3)),
    (11, !(decide (x.tier = 1) || decide (x.tier = 2))), (12, !x.gateOk k),
    (13, decide (48 ≤ x.next) && decide (x.next ≠ 255))]

/-- A check in front of others refuses in the chain of checks as in the list of them. -/
theorem ite_error_iff {fails : Bool} {code f : Nat} {e : Except Nat PhaseRecord} {o : Option Nat}
    (h : e = .error f ↔ o = some f) :
    (if fails = true then .error code else e) = .error f ↔ (if fails = true then some code else o) = some f := by
  cases fails <;> simp [h]

theorem ite_ok_iff {fails : Bool} {code : Nat} {e : Except Nat PhaseRecord} {o : Option Nat} {r x : PhaseRecord}
    (h : e = .ok r ↔ o = none ∧ x = r) :
    (if fails = true then .error code else e) = .ok r ↔ (if fails = true then some code else o) = none ∧ x = r := by
  cases fails <;> simp [h]

/-- A record of one of the four kinds is refused by the first field check that fails. -/
theorem check_error_iff {x : RawRecord} {k : PhaseKind} (hk : phaseKindOf x.kind = some k) (f : Nat) :
    x.check = .error f ↔ firstFailing (x.fieldChecks k) = some f := by
  simp only [RawRecord.check, hk, RawRecord.fieldChecks, firstFailing_cons]
  iterate 10 refine ite_error_iff ?_
  simp [firstFailing]

/-- A record of one of the four kinds is taken when no field check fails. -/
theorem check_ok_iff {x : RawRecord} {k : PhaseKind} (hk : phaseKindOf x.kind = some k) (r : PhaseRecord) :
    x.check = .ok r ↔ firstFailing (x.fieldChecks k) = none ∧ x.toRecord k = r := by
  simp only [RawRecord.check, hk, RawRecord.fieldChecks, firstFailing_cons]
  iterate 10 refine ite_ok_iff ?_
  simp [firstFailing]

/-- In a list of checks none of which fails, each passes. -/
theorem passes_of_firstFailing {α : Type} {checks : List (α × Bool)} (h : firstFailing checks = none) {code : α}
    {fails : Bool} (hmem : (code, fails) ∈ checks) : fails = false := by
  simp only [firstFailing, Option.map_eq_none_iff, List.find?_eq_none] at h
  simpa using h _ hmem

theorem check_of_no_kind {x : RawRecord} (hk : phaseKindOf x.kind = none) : x.check = .error 1 := by
  simp only [RawRecord.check, hk]

/-- The kind that a code names, and its code again (R187). -/
theorem phaseKindOf_eq_some_iff (n : Nat) (k : PhaseKind) : phaseKindOf n = some k ↔ n = k.code := by
  constructor
  · intro h
    unfold phaseKindOf at h
    split at h <;> cases h <;> rfl
  · rintro rfl
    cases k <;> rfl

theorem phaseKindOf_eq_none_iff (n : Nat) : phaseKindOf n = none ↔ n < 1 ∨ 4 < n := by
  constructor
  · intro h
    by_contra hn
    obtain rfl | rfl | rfl | rfl : n = 1 ∨ n = 2 ∨ n = 3 ∨ n = 4 := by omega
    all_goals cases h
  · rintro (h | h)
    · obtain rfl : n = 0 := by omega
      rfl
    · obtain ⟨m, rfl⟩ := Nat.exists_eq_add_of_lt h
      rw [Nat.add_right_comm, Nat.add_comm]
      rfl

theorem inTenths_eq_any (lo hi : Int) (o : Option Int) :
    inTenths lo hi o = o.any fun t => decide (lo ≤ t ∧ t ≤ hi) := by
  cases o <;> simp [inTenths]

theorem inCount_eq_any (lo hi : Nat) (o : Option Nat) :
    inCount lo hi o = o.any fun n => !decide (n < lo ∨ hi < n) := by
  cases o with
  | none => rfl
  | some n =>
    simp only [inCount, Option.any_some, ← Bool.decide_and, ← decide_not, decide_eq_decide]
    omega

theorem optCount_eq_not_any (lo hi : Nat) (o : Option Nat) :
    optCount lo hi o = !o.any fun n => decide (n < lo ∨ hi < n) := by
  cases o with
  | none => rfl
  | some n => simp [optCount, inCount_eq_any]

theorem elementSet_isEmpty_eq (e : ElementSet) : e.isEmpty = decide (e = ElementSet.empty) := by
  obtain ⟨upper, lower, ring, grill⟩ := e
  revert upper lower ring grill
  decide

/-- What a record taken is made of, and the tiers and the next that it may name (R20). -/
theorem toRecord_of_check {x : RawRecord} {r : PhaseRecord} (h : x.check = .ok r) :
    ∃ k : PhaseKind, x.kind = k.code ∧ (x.tier = 1 ∨ x.tier = 2) ∧ (x.next < 48 ∨ x.next = 255) ∧
      r = x.toRecord k := by
  cases hk : phaseKindOf x.kind with
  | none =>
    rw [check_of_no_kind hk] at h
    cases h
  | some k =>
    obtain ⟨hpass, rfl⟩ := (check_ok_iff hk r).mp h
    have htier := passes_of_firstFailing hpass (code := 11) (fails := !(decide (x.tier = 1) || decide (x.tier = 2)))
      (by simp [RawRecord.fieldChecks])
    have hnext := passes_of_firstFailing hpass (code := 13) (fails := decide (48 ≤ x.next) && decide (x.next ≠ 255))
      (by simp [RawRecord.fieldChecks])
    refine ⟨k, (phaseKindOf_eq_some_iff _ k).mp hk, ?_, ?_, rfl⟩
    · simpa [or_iff_not_imp_left] using htier
    · simpa [or_iff_not_imp_left] using hnext

/-- A record that has passed its checks names a table record or END (R20, field 13). -/
theorem next_lt_of_check {x : RawRecord} {r : PhaseRecord} (h : x.check = .ok r) {n : Nat} (hn : r.next = some n) :
    n < 48 := by
  obtain ⟨k, _, _, hnext, rfl⟩ := toRecord_of_check h
  rcases hnext with hlt | hend
  · have hne : x.next ≠ 255 := by omega
    obtain rfl : x.next = n := by simpa [RawRecord.toRecord, hne] using hn
    exact hlt
  · simp [RawRecord.toRecord, hend] at hn

/-! ### The bytes of a record -/

theorem byte_byteAt (p : List Byte) (i : Nat) : byte (byteAt p i) = p.getD i 0 := by
  simp [byte, byteAt]

theorem byteAt_lt (p : List Byte) (i : Nat) : byteAt p i < 256 := (p.getD i 0).isLt

theorem wordAt_lt (p : List Byte) (i : Nat) : wordAt p i < 65536 := by
  have h0 := byteAt_lt p i
  have h1 := byteAt_lt p (i + 1)
  unfold wordAt
  omega

/-- A 16-bit field is written out as the two bytes that it was read from (R186). -/
theorem word_wordAt (p : List Byte) (i : Nat) : word (wordAt p i) = [p.getD i 0, p.getD (i + 1) 0] := by
  have hhigh : wordAt p i / 256 = byteAt p i := by
    have h1 := byteAt_lt p (i + 1)
    unfold wordAt
    omega
  have hlow : byte (wordAt p i) = byte (byteAt p (i + 1)) :=
    BitVec.eq_of_toNat_eq (by simp [byte, wordAt])
  rw [word, hhigh, hlow, byte_byteAt, byte_byteAt]

theorem nonzero_getD (n : Nat) : (nonzero n).getD 0 = n := by
  unfold nonzero
  split <;> simp_all

theorem nonzero_gate_toNat (n : Nat) : (((nonzero n).map fun g => (g : Int)).getD 0).toNat = n := by
  unfold nonzero
  split <;> simp_all

theorem signed16_toNat {n : Nat} (h : n < 65536) : (signed16 n % 65536).toNat = n := by
  unfold signed16
  split <;> omega

/-- A temperature is written out as the two bytes that it was read from, 0x8000 being the absent one (R186). -/
theorem tenthsField_wordAt (p : List Byte) (i : Nat) :
    tenthsField (if wordAt p i = 0x8000 then none else some (signed16 (wordAt p i))) =
      [p.getD i 0, p.getD (i + 1) 0] := by
  rw [← word_wordAt]
  split
  · rename_i h
    rw [h, tenthsField]
  · rw [tenthsField, signed16_toNat (wordAt_lt p i)]

theorem flagByte_bits {n : Nat} (h : n < 8) : flagByte [bitAt n 0, bitAt n 1, bitAt n 2] = n := by
  revert n
  decide

theorem elementSetOf_toByte {n : Nat} (h : n < 16) : (elementSetOf n).toByte = n := by
  revert n
  decide

theorem byteField_next (n : Nat) : byteField (if n = 255 then none else some n) = [byte n] := by
  split
  · rename_i h
    rw [h, byteField]
  · rfl

/-- The bytes of a list of sixteen. -/
theorem eq_sixteen_getD {p : List Byte} (h : p.length = 16) :
    p = [p.getD 0 0, p.getD 1 0, p.getD 2 0, p.getD 3 0, p.getD 4 0, p.getD 5 0, p.getD 6 0, p.getD 7 0, p.getD 8 0,
      p.getD 9 0, p.getD 10 0, p.getD 11 0, p.getD 12 0, p.getD 13 0, p.getD 14 0, p.getD 15 0] := by
  apply List.ext_getElem
  · simp [h]
  · intro i hi _
    have hi : i < 16 := h ▸ hi
    interval_cases i <;> simp [h]

/-- A written record's sixteen bytes, its tier by its code (R187). -/
theorem recordBytes_some (r : PhaseRecord) :
    recordBytes (some r) =
      [byte r.kind.code, byte (flagByte [r.convection, r.locked, decide (r.onLimit = .abort)])]
        ++ tenthsField r.target ++ word (r.ramp.getD 0) ++ word (r.duration.getD 0) ++ word (r.limit.getD 0)
        ++ [byte r.elements.toByte, byte r.fanFloor, byte r.tier.code]
        ++ word ((r.gate.getD 0).toNat) ++ byteField r.next := by
  rw [recordBytes]
  cases r.tier <;> rfl

/-- A record that has passed its checks is written out as the bytes that spelled it, where the bits that no field names
are 0 (R24, R187). -/
theorem recordBytes_of_check {p : List Byte} {r : PhaseRecord} (hlength : p.length = 16)
    (hcheck : (rawRecordAt p 0).check = .ok r) (hflags : byteAt p 1 < 8) (helements : byteAt p 10 < 16) :
    recordBytes (some r) = p := by
  obtain ⟨k, hkind, htier, _, rfl⟩ := toRecord_of_check hcheck
  have hkind : k.code = byteAt p 0 := hkind.symm
  have hflag : flagByte [bitAt (byteAt p 1) 0, bitAt (byteAt p 1) 1,
      decide ((if bitAt (byteAt p 1) 2 = true then OnLimit.abort else OnLimit.advance) = .abort)] = byteAt p 1 := by
    conv_rhs => rw [← flagByte_bits hflags]
    cases bitAt (byteAt p 1) 2 <;> rfl
  have htier : (if byteAt p 12 = 2 then Tier.two else Tier.one).code = byteAt p 12 := by
    rcases htier with h | h <;> simp only [rawRecordAt, Nat.zero_add] at h <;> rw [h] <;> rfl
  conv_rhs => rw [eq_sixteen_getD hlength]
  simp only [recordBytes_some, RawRecord.toRecord, rawRecordAt, Nat.zero_add, Nat.reduceAdd, hkind, hflag, htier,
    tenthsField_wordAt, nonzero_getD, nonzero_gate_toNat, word_wordAt, elementSetOf_toByte helements, byteField_next,
    byte_byteAt]
  rfl

end Sys2Proof.Machine
end

section
/-! PROOF. Every command keeps the fixed chains held (R29, R30): the requests by their owners, the events of the Sequencer
by its operations, and every other command because it leaves the Phase Table, the profiles and the Sequencers alone. -/

namespace Sys2Proof.Machine

/-! ### The requests -/

/-- The owner of a request keeps the fixed chains held. -/
def KeepsChains (f : Owner) : Prop := ∀ p s, s.chainsHeld → (f p s).1.chainsHeld

/-- An owner keeps the chains where it leaves alone all that the invariant reads. -/
theorem keepsChains_of_same {f : Owner} (h : ∀ p s, SameCycles s (f p s).1) : KeepsChains f :=
  fun p s hs => chainsHeld_of_same hs (h p s)

/-- An owner of a named cavity keeps the chains where its part of an enabled cavity does. -/
theorem keepsChains_ofCavity {f : Cavity → List Byte → State → State × Reply}
    (h : ∀ c, KeepsChains (f c)) : KeepsChains (ownerOfCavity f) := by
  intro p s hs
  unfold ownerOfCavity
  split
  · exact hs
  · exact h _ p s hs

theorem lockDoor_keepsChains : KeepsChains lockDoor :=
  keepsChains_ofCavity fun c => keepsChains_of_same fun p s => by
    dsimp only
    (repeat' split) <;> exact ⟨rfl, rfl, rfl⟩

theorem unlockDoor_keepsChains : KeepsChains unlockDoor :=
  keepsChains_ofCavity fun c => keepsChains_of_same fun p s => by
    dsimp only
    (repeat' split) <;> exact ⟨rfl, rfl, rfl⟩

theorem setSupply_keepsChains : KeepsChains setSupply :=
  keepsChains_of_same fun p s => by
    unfold setSupply State.budgetReply
    split <;> simp [SameCycles]

theorem declareLoad_keepsChains : KeepsChains declareLoad :=
  keepsChains_of_same fun p s => by
    unfold declareLoad State.budgetReply
    split <;> simp [SameCycles]

theorem setFanFloor_keepsChains : KeepsChains setFanFloor :=
  keepsChains_of_same fun p s => by
    unfold setFanFloor
    dsimp only
    split <;> exact ⟨rfl, rfl, rfl⟩

theorem setAttention_keepsChains : KeepsChains setAttention :=
  keepsChains_of_same fun p s => by
    unfold setAttention
    dsimp only
    split <;> exact ⟨rfl, rfl, rfl⟩

theorem readEvents_keepsChains : KeepsChains readEvents :=
  keepsChains_of_same fun p s => by
    unfold readEvents
    dsimp only
    split <;> exact SameCycles.refl s

theorem readPhase_keepsChains : KeepsChains readPhase :=
  keepsChains_of_same fun p s => by
    unfold readPhase
    dsimp only
    split <;> exact SameCycles.refl s

theorem readProfile_keepsChains : KeepsChains readProfile :=
  keepsChains_of_same fun p s => by
    unfold readProfile
    (repeat' split) <;> exact SameCycles.refl s

/-- A position is in use exactly while it stands on the fixed chain of a cavity in LOCKING or RUNNING (R22). -/
theorem inUse_eq_true_iff (s : State) (n : Nat) :
    s.inUse n = true ↔ ∃ c, (s.seq.get c).underWay ∧ n ∈ (s.seq.get c).chain := by
  simp only [State.inUse, List.any_eq_true, State.uses, Sequencer.underWay, Bool.and_eq_true, Bool.or_eq_true,
    decide_eq_true_eq, List.contains_iff_mem, Cavity.mem_all, true_and]

theorem not_mem_chain_of_not_inUse {s : State} {n : Nat} (h : ¬ s.inUse n = true) (c : Cavity)
    (hc : (s.seq.get c).underWay) : n ∉ (s.seq.get c).chain :=
  fun hmem => h ((inUse_eq_true_iff s n).mpr ⟨c, hc, hmem⟩)

theorem writePhase_keepsChains : KeepsChains writePhase := by
  intro p s hs
  unfold writePhase
  dsimp only
  split
  · exact hs
  · rename_i hindex
    have hindex : byteAt p 0 < 48 := Nat.lt_of_not_le hindex
    split
    · exact hs
    · rename_i r hcheck
      split
      · exact hs
      · rename_i hfree
        refine setRecord_chainsHeld hs (by omega) ?_ (not_mem_chain_of_not_inUse hfree)
        rintro _ ⟨rfl⟩ k hk
        exact next_lt_of_check hcheck hk

theorem erasePhase_keepsChains : KeepsChains erasePhase := by
  intro p s hs
  unfold erasePhase
  dsimp only
  split
  · exact hs
  · rename_i hindex
    have hindex : byteAt p 0 < 48 := Nat.lt_of_not_le hindex
    split
    · exact hs
    · rename_i hfree
      exact setRecord_chainsHeld hs (by omega) (by simp) (not_mem_chain_of_not_inUse hfree)

/-- An accepted start fixes a chain that passes the chain check (R29, R40). -/
theorem acceptStart_chainsHeld {s : State} {c : Cavity} {walked : List Nat} {first : Nat} (hs : s.chainsHeld)
    (hcheck : chainCheck s.recordAt (s.profiles.get c) first = .ok walked)
    (hfirst : first < 48 ∨ first = inlineSlot c) (locks : Bool) : (s.acceptStart c walked locks).chainsHeld := by
  have hstands (q : Sequencer) (hchain : q.chain = walked) (hposition : q.position = 0) :
      ChainStands s.recordAt (s.profiles.get c) c q :=
    chainStands_of_check ((chainsHeld_iff s).mp hs).1 (hchain ▸ hcheck) hfirst hposition
  unfold State.acceptStart
  dsimp only
  split
  · have hlocking := setSeq_chainsHeld (q := { Sequencer.fresh .locking with
      chain := walked, bound := (s.seq.get c).bound, lockOwned := true }) hs
      fun _ => ⟨hstands _ rfl rfl, by rintro ⟨⟩⟩
    exact chainsHeld_of_same hlocking ⟨rfl, rfl, rfl⟩
  · refine enterRunning_chainsHeld (setSeq_chainsHeld_of_ended hs ?_) ?_
    · simp [Sequencer.underWay, Sequencer.fresh]
    · exact hstands _ (by simp) (by simp [Sequencer.fresh])

/-- The end of a start keeps the chains: nothing changes at a refusal, and an accepted walk is fixed on the table that
holds what was walked. -/
theorem finishStart_chainsHeld {s : State} {c : Cavity} {table : Nat → Option PhaseRecord} {first : Nat}
    {write : State → State} (hs : s.chainsHeld) (hwrite : (write s).chainsHeld)
    (htable : (write s).recordAt = table) (hprofiles : (write s).profiles = s.profiles)
    (hfirst : first < 48 ∨ first = inlineSlot c) :
    (s.finishStart c table (chainCheck table (s.profiles.get c) first) write).1.chainsHeld := by
  unfold State.finishStart
  split
  · exact hs
  · rename_i walked hcheck
    split
    · exact hs
    · exact acceptStart_chainsHeld hwrite (by rw [htable, hprofiles]; exact hcheck) hfirst _

/-- No start is taken but in IDLE (R39 step 3). -/
theorem idle_of_startRefusal {s : State} {c : Cavity} (h : s.startRefusal c = none) :
    (s.seq.get c).state = .idle := by
  unfold State.startRefusal at h
  by_contra hne
  rw [if_pos hne] at h
  cases h

theorem startCycle_keepsChains : KeepsChains startCycle :=
  keepsChains_ofCavity fun c p s hs => by
    dsimp only
    split
    · exact hs
    · split
      · exact hs
      · rename_i hfirst
        exact finishStart_chainsHeld hs hs rfl rfl (.inl (Nat.lt_of_not_le hfirst))

/-- The table that a START INLINE walks is the one it leaves when accepted (R31). -/
theorem recordAt_setRecord_inlineSlot (s : State) (c : Cavity) (r : PhaseRecord) :
    (s.setRecord (inlineSlot c) (some r)).recordAt = s.tableWith (inlineSlot c) r := by
  funext n
  rw [recordAt_setRecord s (inlineSlot_lt c), State.tableWith]

theorem startInline_keepsChains : KeepsChains startInline :=
  keepsChains_ofCavity fun c p s hs => by
    dsimp only
    split
    · exact hs
    · rename_i hidle
      split
      · exact hs
      · rename_i r hcheck
        have hidle : ¬ (s.seq.get c).underWay := by simp [Sequencer.underWay, idle_of_startRefusal hidle]
        refine finishStart_chainsHeld hs ?_ (recordAt_setRecord_inlineSlot s c r) rfl (.inr rfl)
        refine setRecord_chainsHeld hs (inlineSlot_lt c) ?_ fun d hd => inlineSlot_not_mem_chain hs hidle hd
        rintro _ ⟨rfl⟩ k hk
        exact next_lt_of_check hcheck hk

theorem abortCycle_keepsChains : KeepsChains abortCycle :=
  keepsChains_ofCavity fun c p s hs => by
    split
    case h_1 | h_2 => exact endCycle_chainsHeld hs c .aborted (some .request) none
    case h_3 => exact hs

theorem clearTrip_keepsChains : KeepsChains clearTrip :=
  keepsChains_ofCavity fun c p s hs => by
    split
    · exact hs
    · refine chainsHeld_of_seq_set (c := c) (q := { s.seq.get c with state := .idle }) hs (by simp) (by simp) ?_
        (cycleHeld_of_not_underWay (by simp [Sequencer.underWay]))
      unfold State.clearTrip
      dsimp only
      split <;> simp

/-! ### The profiles -/

/-- A cavity that is disabled loses its chain with its inline slot (R34, R62). -/
theorem disableCavity_chainsHeld {s : State} (hs : s.chainsHeld) (c : Cavity) : (disableCavity s c).chainsHeld := by
  have habsent : ¬ (Sequencer.fresh .absent).underWay := by simp [Sequencer.underWay, Sequencer.fresh]
  have hdisabled : (s.disableSequencer c).chainsHeld := setSeq_chainsHeld_of_ended hs habsent
  have hemptied := setRecord_chainsHeld (r := none) hdisabled (inlineSlot_lt c) (by simp) fun d hd =>
    inlineSlot_not_mem_chain hdisabled (by simpa [State.disableSequencer] using habsent) hd
  have hsequenced : (((resetChannels s c).setRecord (inlineSlot c) none).disableSequencer c).chainsHeld :=
    chainsHeld_of_same hemptied ⟨rfl, rfl, rfl⟩
  unfold disableCavity
  extract_lets s₁ s₂ s₃
  have hallocated : s₂.chainsHeld := chainsHeld_of_same (s := s₁) hsequenced (by simp [SameCycles, s₂])
  have hlimited : s₃.chainsHeld := chainsHeld_of_same hallocated (by simp [SameCycles, s₃])
  exact setMail_chainsHeld hlimited c _

theorem enableCavity_chainsHeld {s : State} (hs : s.chainsHeld) (c : Cavity) : (enableCavity s c).chainsHeld := by
  have henabled : (s.enableSequencer c).chainsHeld :=
    setSeq_chainsHeld_of_ended hs (by simp [Sequencer.underWay, Sequencer.fresh])
  unfold enableCavity
  extract_lets s₁
  have hallocated : s₁.chainsHeld := chainsHeld_of_same henabled (by simp [SameCycles, s₁])
  exact chainsHeld_of_same hallocated (by simp [SameCycles])

theorem rebudget_chainsHeld {s : State} (hs : s.chainsHeld) : s.rebudget.chainsHeld :=
  chainsHeld_of_same hs (by simp [SameCycles])

theorem acceptAppliance_chainsHeld {s : State} (hs : s.chainsHeld) (a : ApplianceProfile) :
    (s.acceptAppliance a).chainsHeld := by
  have hboth (off on : List Cavity) :
      (on.foldl enableCavity (off.foldl disableCavity { s with appliance := a })).chainsHeld :=
    List.foldlRecOn on _
      (List.foldlRecOn off _ (chainsHeld_of_same hs ⟨rfl, rfl, rfl⟩) fun _ ht c _ => disableCavity_chainsHeld ht c)
      fun _ ht c _ => enableCavity_chainsHeld ht c
  unfold State.acceptAppliance
  dsimp only
  split
  · exact hboth _ _
  · exact rebudget_chainsHeld (hboth _ _)

theorem applianceProfile_keepsChains : KeepsChains applianceProfile := by
  intro p s hs
  unfold applianceProfile
  split
  · exact hs
  · exact acceptAppliance_chainsHeld hs _

/-- A cavity is bound to a new profile only in IDLE, where its chain is not checked (R35, R191). -/
theorem acceptProfile_chainsHeld {s : State} {c : Cavity} (hs : s.chainsHeld) (hidle : (s.seq.get c).state = .idle)
    (x : CavityProfile) : (s.acceptProfile c x).chainsHeld := by
  rw [chainsHeld_iff] at hs ⊢
  obtain ⟨hlinks, hcycles⟩ := hs
  have hseq : (s.acceptProfile c x).seq = s.seq.set c { s.seq.get c with bound := true } := by
    simp [State.acceptProfile]
  have hprofiles : (s.acceptProfile c x).profiles = s.profiles.set c x := by simp [State.acceptProfile]
  rw [recordAt_congr (show (s.acceptProfile c x).table = s.table by simp), hseq, hprofiles]
  refine ⟨hlinks, fun d => ?_⟩
  simp only [PerCavity.get_set]
  split
  · exact cycleHeld_of_not_underWay (by simp [Sequencer.underWay, hidle])
  · exact hcycles d

theorem idle_of_profileRefusal {s : State} {c : Cavity} {x : CavityProfile} (h : s.profileRefusal c x = none) :
    (s.seq.get c).state = .idle := by
  unfold State.profileRefusal at h
  by_contra hne
  rw [if_pos (.inl hne)] at h
  cases h

theorem cavityProfile_keepsChains : KeepsChains cavityProfile :=
  keepsChains_ofCavity fun c p s hs => by
    split
    · exact hs
    · rename_i hidle
      exact acceptProfile_chainsHeld hs (idle_of_profileRefusal hidle) _

/-! ### Frames -/

theorem ownerOf_keepsChains (before : LinkState) (k : RequestKind) : KeepsChains (ownerOf before k) := by
  cases k with
  | identify | readStatus | readSensor => exact keepsChains_of_same fun _ s => SameCycles.refl s
  | readTrip => exact keepsChains_ofCavity fun _ => keepsChains_of_same fun _ s => SameCycles.refl s
  | readEvents => exact readEvents_keepsChains
  | setAttention => exact setAttention_keepsChains
  | applianceProfile => exact applianceProfile_keepsChains
  | cavityProfile => exact cavityProfile_keepsChains
  | readProfile => exact readProfile_keepsChains
  | writePhase => exact writePhase_keepsChains
  | readPhase => exact readPhase_keepsChains
  | erasePhase => exact erasePhase_keepsChains
  | startCycle => exact startCycle_keepsChains
  | startInline => exact startInline_keepsChains
  | abortCycle => exact abortCycle_keepsChains
  | lockDoor => exact lockDoor_keepsChains
  | unlockDoor => exact unlockDoor_keepsChains
  | setSupply => exact setSupply_keepsChains
  | declareLoad => exact declareLoad_keepsChains
  | setFanFloor => exact setFanFloor_keepsChains
  | clearTrip => exact clearTrip_keepsChains

theorem heard_chainsHeld {s : State} (hs : s.chainsHeld) : s.heard.chainsHeld :=
  chainsHeld_of_same hs (by simp [SameCycles])

theorem answer_chainsHeld {s : State} (hs : s.chainsHeld) (h : Header) (code : Nat) (c : Option Cavity) (r : Reply) :
    (s.answer h code c r).chainsHeld :=
  chainsHeld_of_same hs (by simp [SameCycles])

/-- A request that ends keeps the chains where its owner does (R175 to R178). -/
theorem takeRequest_chainsHeld {s : State} (hs : s.chainsHeld) (k : RequestKind) (h : Header) (p : List Byte)
    {f : Owner} (hf : KeepsChains f) : (takeRequest k h p f s).chainsHeld := by
  unfold takeRequest
  split
  · exact heard_chainsHeld hs
  · refine answer_chainsHeld ?_ h _ _ _
    unfold dispatchRequest
    split_ifs
    · exact heard_chainsHeld hs
    · exact heard_chainsHeld hs
    · exact hf p _ (heard_chainsHeld hs)

theorem takeFrame_chainsHeld {s : State} (hs : s.chainsHeld) (h : Header) (code : Nat) (p : List Byte) :
    (takeFrame h code p s).chainsHeld := by
  unfold takeFrame
  split
  · exact takeRequest_chainsHeld hs _ h p (ownerOf_keepsChains _ _)
  · exact chainsHeld_of_same hs (by simp [SameCycles])

theorem takeChars_chainsHeld {s : State} (hs : s.chainsHeld) (chars : List LineChar) :
    (takeChars chars s).chainsHeld := by
  refine List.foldlRecOn chars takeChar hs fun t ht ch _ => ?_
  have hreceived (x : Link) : (t.setLink x).chainsHeld := chainsHeld_of_same ht ⟨rfl, rfl, rfl⟩
  unfold takeChar
  dsimp only
  split
  · split
    · exact takeFrame_chainsHeld (hreceived _) _ _ _
    · exact hreceived _
  · exact hreceived _

/-! ### Power-up -/

theorem poweredUp_chainsHeld (s : State) (pins : PowerUpPins) : (s.poweredUp pins).chainsHeld := by
  have hempty (n : Nat) : (s.poweredUp pins).recordAt n = none := by
    simp only [State.recordAt, State.poweredUp, State.reset, Vector.getElem?_replicate]
    split <;> rfl
  rw [chainsHeld_iff]
  refine ⟨fun n r hr => ?_, fun c => cycleHeld_of_not_underWay ?_⟩
  · rw [hempty n] at hr
    cases hr
  · simp [State.poweredUp, State.reset, Sequencer.underWay, Sequencer.fresh]

/-- Power-up leaves no cycle under way (R33, R61). -/
theorem powerUp_chainsHeld (pins : PowerUpPins) (s : State) : (powerUp pins s).chainsHeld := by
  refine List.foldlRecOn Cavity.all recoverCavity (poweredUp_chainsHeld s pins) fun t ht c _ => ?_
  unfold recoverCavity
  dsimp only
  split
  · have hrecovering := setSeq_chainsHeld_of_ended (c := c) (q := Sequencer.recovering) ht
      (by simp [Sequencer.underWay, Sequencer.recovering, Sequencer.fresh])
    exact chainsHeld_of_same hrecovering (by simp [SameCycles])
  · exact ht

/-! ### Every command -/

/-- A command with a part in the invariant keeps it by its own operation; any other leaves the Phase Table, the profiles
and the Sequencers alone. -/
theorem exec_chainsHeld {s t : State} {i : Instr} (hs : s.chainsHeld) (h : exec i s = .next t) : t.chainsHeld := by
  cases i <;> cases h
  case powerUp pins => exact powerUp_chainsHeld pins s
  case sequencerCavityReading c => exact takeSequencerReading_chainsHeld hs c
  case heatCompleteNotice c => exact takeHeatComplete_chainsHeld hs c
  case lockNotice c => exact takeLockNotice_chainsHeld hs c
  case tripNotice c => exact takeTripNotice_chainsHeld hs c
  case applianceProfile h p pins =>
    have hread : ({ s with pins := pins } : State).chainsHeld := chainsHeld_of_same hs ⟨rfl, rfl, rfl⟩
    exact takeRequest_chainsHeld hread _ h p applianceProfile_keepsChains
  case frameDiscarded chars | frameForOtherNode chars => exact takeChars_chainsHeld hs chars
  case unknownKind h code p | frameWhileReplyOwed h code p => exact takeFrame_chainsHeld hs h code.toNat p
  case identify h p => exact takeRequest_chainsHeld hs _ h p (ownerOf_keepsChains s.link.state .identify)
  case readStatus h p => exact takeRequest_chainsHeld hs _ h p (ownerOf_keepsChains s.link.state .readStatus)
  case readSensor h p => exact takeRequest_chainsHeld hs _ h p (ownerOf_keepsChains s.link.state .readSensor)
  case readTrip h p => exact takeRequest_chainsHeld hs _ h p (ownerOf_keepsChains s.link.state .readTrip)
  case readEvents h p => exact takeRequest_chainsHeld hs _ h p readEvents_keepsChains
  case setAttention h p => exact takeRequest_chainsHeld hs _ h p setAttention_keepsChains
  case cavityProfile h p => exact takeRequest_chainsHeld hs _ h p cavityProfile_keepsChains
  case readProfile h p => exact takeRequest_chainsHeld hs _ h p readProfile_keepsChains
  case writePhase h p => exact takeRequest_chainsHeld hs _ h p writePhase_keepsChains
  case readPhase h p => exact takeRequest_chainsHeld hs _ h p readPhase_keepsChains
  case erasePhase h p => exact takeRequest_chainsHeld hs _ h p erasePhase_keepsChains
  case startCycle h p => exact takeRequest_chainsHeld hs _ h p startCycle_keepsChains
  case startInline h p => exact takeRequest_chainsHeld hs _ h p startInline_keepsChains
  case abortCycle h p => exact takeRequest_chainsHeld hs _ h p abortCycle_keepsChains
  case lockDoor h p => exact takeRequest_chainsHeld hs _ h p lockDoor_keepsChains
  case unlockDoor h p => exact takeRequest_chainsHeld hs _ h p unlockDoor_keepsChains
  case setSupply h p => exact takeRequest_chainsHeld hs _ h p setSupply_keepsChains
  case declareLoad h p => exact takeRequest_chainsHeld hs _ h p declareLoad_keepsChains
  case setFanFloor h p => exact takeRequest_chainsHeld hs _ h p setFanFloor_keepsChains
  case clearTrip h p => exact takeRequest_chainsHeld hs _ h p clearTrip_keepsChains
  all_goals exact chainsHeld_of_same hs (by simp [SameCycles])

/-- Settles O11, by the command at the front of the queue; a tenth of a second changes nothing that the invariant reads. -/
theorem chainsStayHeld : Obligations.ChainsStayHeld := by
  intro s t hs h
  unfold step at h
  split at h
  · rename_i i rest _
    have htaken : ({ s with pending := rest } : State).chainsHeld := chainsHeld_of_same hs ⟨rfl, rfl, rfl⟩
    exact exec_chainsHeld htaken h
  · cases h
    exact chainsHeld_of_same hs ⟨rfl, rfl, rfl⟩

end Sys2Proof.Machine
end

section
/-! PROOF. WRITE PHASE and ERASE PHASE (R20 to R24): how a request reaches its owner, and what the two owners do. -/

namespace Sys2Proof.Machine

/-! ### The two requests -/

/-- A request frame of the right length that is no read, with no reply owed, reaches its owner and is answered (R175,
R176). -/
theorem takeRequest_of_taken {s : State} {k : RequestKind} {p : List Byte} (howed : s.link.owed = none)
    (hlength : p.length = k.length) (hread : k.isRead = false) (h : Header) (f : Owner) :
    takeRequest k h p f s = (f p s.heard).1.answer h k.code (k.cavityIn p) (f p s.heard).2 := by
  simp [takeRequest, dispatchRequest, howed, hlength, hread]

theorem exec_writePhase {s : State} {p : List Byte} (howed : s.link.owed = none) (hlength : p.length = 17)
    (h : Header) :
    exec (.writePhase h p) s =
      .next ((writePhase p s.heard).1.answer h 0x20 none (writePhase p s.heard).2) :=
  congrArg Host.Outcome.next (takeRequest_of_taken (k := .writePhase) howed hlength rfl h writePhase)

theorem exec_erasePhase {s : State} (howed : s.link.owed = none) (b : Byte) (h : Header) :
    exec (.erasePhase h [b]) s =
      .next ((erasePhase [b] s.heard).1.answer h 0x22 none (erasePhase [b] s.heard).2) :=
  congrArg Host.Outcome.next (takeRequest_of_taken (k := .erasePhase) howed rfl rfl h erasePhase)

theorem byteAt_byte {n : Nat} (h : n < 256) : byteAt [byte n] 0 = n := by
  simpa [byteAt, byte] using h

theorem inUse_heard (s : State) (n : Nat) : s.heard.inUse n = s.inUse n := by
  have huses (c : Cavity) : s.heard.uses n c = s.uses n c := by simp [State.uses]
  simp only [State.inUse, funext huses]

theorem inUse_eq_false_of {s : State} {n : Nat}
    (h : ∀ c, (s.seq.get c).state = .locking ∨ (s.seq.get c).state = .running → n ∉ (s.seq.get c).chain) :
    s.heard.inUse n = false := by
  rw [inUse_heard, ← Bool.not_eq_true, inUse_eq_true_iff]
  rintro ⟨c, hc, hn⟩
  exact h c hc hn

theorem inUse_eq_true_of {s : State} {n : Nat} {c : Cavity}
    (hc : (s.seq.get c).state = .locking ∨ (s.seq.get c).state = .running) (hn : n ∈ (s.seq.get c).chain) :
    s.heard.inUse n = true := by
  rw [inUse_heard, inUse_eq_true_iff]
  exact ⟨c, hc, hn⟩

/-- What WRITE PHASE makes of a well-formed record at a table index (R21). -/
theorem writePhase_of_check {s : State} {p : List Byte} {r : PhaseRecord} (hindex : byteAt p 0 < 48)
    (hcheck : (rawRecordAt p 1).check = .ok r) :
    writePhase p s = if s.inUse (byteAt p 0) then (s, Reply.refuse .inUse)
      else (s.setRecord (byteAt p 0) (some r), Reply.done []) := by
  simp only [writePhase, tableRecords, Nat.not_le.mpr hindex, if_false, hcheck]

/-- What ERASE PHASE makes of a table index (R23). -/
theorem erasePhase_of_lt {s : State} {n : Nat} (hindex : n < 48) :
    erasePhase [byte n] s = if s.inUse n then (s, Reply.refuse .inUse) else (s.setRecord n none, Reply.done []) := by
  simp only [erasePhase, tableRecords, byteAt_byte (show n < 256 by omega), Nat.not_le.mpr hindex, if_false]

/-- A record written or erased is all that changes, at its position alone (R21, R23). -/
theorem setRecord_heard (s : State) {n : Nat} (hn : n < 48) (r : Option PhaseRecord) :
    { s.heard.setRecord n r with table := s.table } = s.heard ∧ (s.heard.setRecord n r).recordAt n = r ∧
      ∀ m, m ≠ n → (s.heard.setRecord n r).recordAt m = s.recordAt m := by
  have htable : s.heard.table = s.table := by simp
  refine ⟨?_, ?_, fun m hm => ?_⟩
  · rw [← htable]
    rfl
  · rw [recordAt_setRecord _ (by omega), if_pos rfl]
  · rw [recordAt_setRecord _ (by omega), if_neg hm, recordAt_congr htable]

/-- Settles O21, clause by clause: an accepted write, an accepted erase, both refused IN_USE, the bytes read back, the
refusals RANGE, and the first failing field. -/
theorem writeAndErasePhase : Obligations.WriteAndErasePhase := by
  refine ⟨?_, ?_, ?_, fun p r => recordBytes_of_check, ?_, ?_, ?_⟩
  · intro s h p r howed hlength hindex hcheck hfree
    refine ⟨_, ?_, setRecord_heard s hindex (some r)⟩
    rw [exec_writePhase howed hlength, writePhase_of_check hindex hcheck, inUse_eq_false_of hfree]
    rfl
  · intro s h n howed hindex hfree
    refine ⟨_, ?_, setRecord_heard s hindex none⟩
    rw [exec_erasePhase howed, erasePhase_of_lt hindex, inUse_eq_false_of hfree]
    rfl
  · intro s h p r c howed hlength hindex hcheck hc hmem
    constructor
    · rw [exec_writePhase howed hlength, writePhase_of_check hindex hcheck, inUse_eq_true_of hc hmem]
      rfl
    · rw [exec_erasePhase howed, erasePhase_of_lt hindex, inUse_eq_true_of hc hmem]
      rfl
  · intro s h p howed hlength
    rw [exec_writePhase howed hlength]
    refine ⟨fun hindex => ?_, fun f hindex hcheck => ?_⟩
    · simp [writePhase, tableRecords, hindex]
    · simp [writePhase, tableRecords, Nat.not_le.mpr hindex, hcheck]
  · intro s h n howed hindex hn
    rw [exec_erasePhase howed]
    simp [erasePhase, tableRecords, byteAt_byte hn, hindex]
  · intro x f
    dsimp only
    cases hk : phaseKindOf x.kind with
    | none =>
      have houtside := (phaseKindOf_eq_none_iff _).mp hk
      rw [check_of_no_kind hk, firstFailing_cons, if_pos (by simpa using houtside)]
      simp
    | some k =>
      have hinside : ¬ (x.kind < 1 ∨ 4 < x.kind) := by
        rw [← phaseKindOf_eq_none_iff, hk]
        simp
      rw [check_error_iff hk, firstFailing_cons 1, if_neg (by simpa using hinside)]
      refine iff_of_eq (congrArg (fun l => firstFailing l = some f) ?_)
      have hkind := (phaseKindOf_eq_some_iff _ k).mp hk
      have hfan : decide (x.fanFloor ≤ 3) = !decide (3 < x.fanFloor) := by
        rw [← decide_not, decide_eq_decide]
        omega
      have htier : (decide (x.tier = 1) || decide (x.tier = 2)) = !decide (x.tier < 1 ∨ 2 < x.tier) := by
        rw [← Bool.decide_or, ← decide_not, decide_eq_decide]
        omega
      rw [RawRecord.fieldChecks, hfan, htier]
      cases k <;>
        simp [hkind, PhaseKind.code, RawRecord.targetOk, RawRecord.rampOk, RawRecord.durationOk,
          RawRecord.elementsOk, RawRecord.gateOk, inTenths_eq_any, inCount_eq_any, optCount_eq_not_any,
          elementSet_isEmpty_eq]

end Sys2Proof.Machine
end

section
/-! PROOF. The entry into RUNNING at a start that needs no engagement (R39, R40, R43, R93, R112): what each operation of a
phase begin leaves alone, what it leaves of the link, the Allocator, the Drive and the mail, and the start requests. -/

namespace Sys2Proof.Machine

/-! ### What an operation for one cavity leaves alone -/

theorem KeepsOthers.refl (s : State) (c : Cavity) : KeepsOthers s s c :=
  ⟨fun _ _ => ⟨rfl, rfl, rfl, rfl, rfl, rfl, rfl, rfl⟩, rfl, rfl, rfl, rfl, rfl, rfl, rfl, rfl, rfl, rfl,
    fun _ _ => rfl, rfl, rfl, rfl, rfl, rfl, rfl⟩

theorem KeepsOthers.trans {s t u : State} {c : Cavity} (hst : KeepsOthers s t c) (htu : KeepsOthers t u c) :
    KeepsOthers s u c := by
  obtain ⟨hcavity, hpending, hclock, hpins, happliance, hprofiles, hscanner, hboard, hsupervisor, hfanBoard, hfan,
    hconvection, hsupply, hdeclared, havailable, hwindow, hslot, hlimited⟩ := hst
  obtain ⟨hcavity', hpending', hclock', hpins', happliance', hprofiles', hscanner', hboard', hsupervisor', hfanBoard',
    hfan', hconvection', hsupply', hdeclared', havailable', hwindow', hslot', hlimited'⟩ := htu
  refine ⟨fun d hd => ?_, hpending'.trans hpending, hclock'.trans hclock, hpins'.trans hpins,
    happliance'.trans happliance, hprofiles'.trans hprofiles, hscanner'.trans hscanner, hboard'.trans hboard,
    hsupervisor'.trans hsupervisor, hfanBoard'.trans hfanBoard, ?_,
    fun d hd => (hconvection' d hd).trans (hconvection d hd), hsupply'.trans hsupply, hdeclared'.trans hdeclared,
    havailable'.trans havailable, hwindow'.trans hwindow, hslot'.trans hslot, hlimited'.trans hlimited⟩
  · obtain ⟨hseq, hreg, hlock, hlimit, hbox, hrelay, hdemand, hrequests⟩ := hcavity d hd
    obtain ⟨hseq', hreg', hlock', hlimit', hbox', hrelay', hdemand', hrequests'⟩ := hcavity' d hd
    exact ⟨hseq'.trans hseq, hreg'.trans hreg, hlock'.trans hlock, hlimit'.trans hlimit, hbox'.trans hbox,
      hrelay'.trans hrelay, hdemand'.trans hdemand, hrequests'.trans hrequests⟩
  · exact (congrArg (fun f : Fan => { f with convection := s.fan.convection }) hfan').trans hfan

section
variable (s : State) (c : Cavity)

theorem setSeq_keepsOthers (q : Sequencer) : KeepsOthers s (s.setSeq c q) c := by
  simp +contextual [KeepsOthers, State.box]

theorem setLimit_keepsOthers (l : LimitRecord) : KeepsOthers s (s.setLimit c l) c := by
  simp +contextual [KeepsOthers, State.box]

theorem setMail_keepsOthers (x : Mailbox) : KeepsOthers s (s.setMail c x) c := by
  simp +contextual [KeepsOthers, State.box]

theorem setRelay_keepsOthers (x : SupplyRelay) : KeepsOthers s (s.setRelay c x) c := by
  simp +contextual [KeepsOthers, State.box]

theorem setDemand_keepsOthers (d : DemandEntry) : KeepsOthers s (s.setDemand c d) c := by
  simp +contextual [KeepsOthers, State.box, State.setDemand]

theorem setConvection_keepsOthers (on : Bool) : KeepsOthers s (s.setConvection c on) c := by
  simp +contextual [KeepsOthers, State.box, State.setConvection]

theorem setLink_keepsOthers (l : Link) : KeepsOthers s (s.setLink l) c := by
  simp [KeepsOthers, State.box]

theorem queueEvent_keepsOthers (kind : EventKind) (cavity : Option Cavity) (severity : Nat) (detail : Option Nat)
    (additional : Bool) : KeepsOthers s (s.queueEvent kind cavity severity detail additional) c :=
  setLink_keepsOthers s c _

theorem openRelay_keepsOthers : KeepsOthers s (s.openRelay c) c := by
  unfold State.openRelay
  split
  · exact setRelay_keepsOthers s c _
  · exact KeepsOthers.refl s c

theorem dropCavityGrants_keepsOthers : KeepsOthers s (s.dropCavityGrants c) c := by
  simp [KeepsOthers, State.box, dropCavityGrants_alloc]

theorem withdrawRequests_keepsOthers : KeepsOthers s (s.withdrawRequests c) c := by
  simp +contextual [KeepsOthers, State.box, State.withdrawRequests]

theorem writeTier_keepsOthers (t : Tier) : KeepsOthers s (s.writeTier c t) c := by
  unfold State.writeTier
  dsimp only
  split
  · exact KeepsOthers.refl s c
  · refine KeepsOthers.trans ?_ (setDemand_keepsOthers _ c _)
    cases t <;> simp [KeepsOthers, State.box, Allocator.leaveRings, Allocator.joinRing]

/-- A first cause changes only its own cavity's parts (R162). -/
theorem trip_keepsOthers (k : Cause) : KeepsOthers s (s.trip c k) c :=
  ((((((setLimit_keepsOthers s c _).trans (openRelay_keepsOthers _ c)).trans
    (dropCavityGrants_keepsOthers _ c)).trans (withdrawRequests_keepsOthers _ c)).trans
    (queueEvent_keepsOthers _ c _ _ _ _ _)).trans (setMail_keepsOthers _ c _))

theorem laterCause_keepsOthers (r : TripRecord) (k : Cause) : KeepsOthers s (s.laterCause c r k) c := by
  unfold State.laterCause
  split
  · exact KeepsOthers.refl s c
  · exact (setLimit_keepsOthers s c _).trans (queueEvent_keepsOthers _ c _ _ _ _ _)

theorem raise_keepsOthers (k : Cause) : KeepsOthers s (s.raise c k) c := by
  rcases raise_cases s c k with h | ⟨_, _, h⟩ | ⟨_, r, _, h⟩ <;> rw [h]
  · exact KeepsOthers.refl s c
  · exact trip_keepsOthers s c k
  · exact laterCause_keepsOthers s c r k

theorem closeRelay_keepsOthers : KeepsOthers s (s.closeRelay c) c := by
  rcases closeRelay_cases s c with h | h | ⟨_, _, _, h⟩ <;> rw [h]
  · exact KeepsOthers.refl s c
  · exact raise_keepsOthers s c _
  · exact (setRelay_keepsOthers s c _).trans (setMail_keepsOthers _ c _)

end

/-! ### A phase begin up to the order to close the relay -/

/-- A phase begin up to its order to close the supply relay (R43, steps 1 to 3, R103). -/
def State.phaseWritten (s : State) (c : Cavity) (position : Nat) (r : PhaseRecord) : State :=
  let s₁ := s.setSeq c { s.seq.get c with current := some (position, r.kind), phaseElapsed := 0, soakProgress := 0 }
  let s₂ := (s₁.queueEvent .phaseBegun (some c) 0 (some position)).writeElements c r.elements
  if r.kind.heats then s₂.writeTier c r.tier else s₂.sendWithdrawNotice c

/-- The whole phase begin that enters RUNNING, by the part up to the order to close the supply relay (R43). -/
theorem beginPhase_entering {s : State} {c : Cavity} {n : Nat} {r : PhaseRecord}
    (hn : (s.seq.get c).entry = some n) (hr : s.recordAt n = some r) :
    s.beginPhase c true =
      let s' := ((s.phaseWritten c n r).closeRelay c).setConvection c r.convection
      s'.setSeq c { s'.seq.get c with newPhase := true } := by
  have hrecord : s.phaseRecord c = some r := by rw [State.phaseRecord, hn, Option.bind_some, hr]
  simp only [State.beginPhase, hn, hrecord, State.phaseWritten, if_true]

section
variable (s : State) (c : Cavity) (n : Nat) (r : PhaseRecord)

theorem phaseWritten_keepsOthers : KeepsOthers s (s.phaseWritten c n r) c := by
  have hwritten := ((setSeq_keepsOthers s c { s.seq.get c with
    current := some (n, r.kind), phaseElapsed := 0, soakProgress := 0 }).trans
    (queueEvent_keepsOthers _ c .phaseBegun (some c) 0 (some n) false)).trans
    (setDemand_keepsOthers _ c { s.alloc.demand.get c with elements := r.elements })
  unfold State.phaseWritten
  dsimp only
  split
  · exact hwritten.trans (writeTier_keepsOthers _ c r.tier)
  · exact hwritten.trans (setMail_keepsOthers _ c _)

/-- The parts that a phase begin leaves to its order to close the supply relay. -/
theorem phaseWritten_frame :
    (s.phaseWritten c n r).clock = s.clock ∧ (s.phaseWritten c n r).drive = s.drive ∧
    (s.phaseWritten c n r).limit = s.limit ∧ (s.phaseWritten c n r).fan = s.fan := by
  cases hheats : r.kind.heats <;> simp [State.phaseWritten, hheats]

theorem phaseWritten_link :
    (s.phaseWritten c n r).link = s.link.enqueue (s.event .phaseBegun (some c) 0 (some n) false) := by
  cases hheats : r.kind.heats <;> simp [State.phaseWritten, hheats, State.queueEvent, State.event]

theorem phaseWritten_alloc : (s.phaseWritten c n r).alloc = s.alloc.begun c r := by
  have hbegun := phaseBegin_alloc ((s.setSeq c { s.seq.get c with
    current := some (n, r.kind), phaseElapsed := 0, soakProgress := 0 }).queueEvent .phaseBegun (some c) 0 (some n)) c r
  refine Eq.trans ?_ hbegun
  unfold State.phaseWritten
  dsimp only
  split <;> simp

theorem phaseWritten_box :
    (s.phaseWritten c n r).box c = { s.box c with
      withdrawNotices := (s.box c).withdrawNotices + if r.kind.heats = true then 0 else 1 } := by
  cases hheats : r.kind.heats <;> simp [State.phaseWritten, hheats, State.sendWithdrawNotice, State.box]

theorem phaseWritten_state : ((s.phaseWritten c n r).seq.get c).state = (s.seq.get c).state := by
  cases hheats : r.kind.heats <;> simp [State.phaseWritten, hheats]

end

/-! ### The order to close the relay -/

/-- What a first cause leaves of the parts that a statement about it names (R104, R162). -/
theorem trip_parts (s : State) (c : Cavity) (k : Cause) :
    (s.trip c k).link = s.link.enqueue (s.event .trip (some c) 3 (some k.code) false) ∧
    { (s.trip c k).alloc with grants := s.alloc.grants, requests := s.alloc.requests } = s.alloc ∧
    (s.trip c k).alloc.grants = (s.alloc.grants.filter fun x => decide (x.1 ≠ c)) ∧
    (s.trip c k).box c = { s.box c with tripNotices := (s.box c).tripNotices + 1 } := by
  have halloc : (s.trip c k).alloc = { s.alloc with
      grants := s.alloc.grants.filter fun x => decide (x.1 ≠ c)
      requests := s.alloc.requests.set c ((s.alloc.requests.get c).map fun _ x => x.map RequestRecord.withdrawn) } := by
    simp [State.trip, State.tripWithdraw, State.sendTripNotice, State.withdrawRequests, dropCavityGrants_alloc]
  refine ⟨?_, ?_, ?_, ?_⟩
  · simp [State.trip, State.queueEvent, State.event]
  · rw [halloc]
  · rw [halloc]
  · simp [State.trip, State.sendTripNotice, State.box]

/-- The raising of a cause reads the Supervisor's records and the relays alone. -/
theorem causeRaised_congr {s s' t t' : State} {c : Cavity} {k : Cause} (hs : s'.limit = s.limit)
    (ht : t'.limit = t.limit) (hdrive : t'.drive = t.drive) (h : CauseRaised s t c k) : CauseRaised s' t' c k := by
  simpa only [CauseRaised, State.holdsCause, State.tripped, State.relayClosed, hs, ht, hdrive] using h

/-- The order to close is refused without an event on an active trip (R112). -/
theorem closeRelay_of_tripped {s : State} {c : Cavity} (h : s.tripped c = true) : s.closeRelay c = s := by
  simp [State.closeRelay, h]

/-- A STUCK output trips the cavity by RELAY_STUCK when the order to close comes (R112, R157). -/
theorem closeRelay_of_stuck {s : State} {c : Cavity} (ht : s.tripped c = false) (hstuck : s.hasStuck c = true)
    (hc : (s.seq.get c).state ≠ .absent) :
    s.closeRelay c = s.trip c .relayStuck ∧ CauseRaised s (s.closeRelay c) c .relayStuck := by
  have hraise : s.closeRelay c = s.raise c .relayStuck := by simp [State.closeRelay, ht, hstuck]
  have happlies : Cause.applies .relayStuck (s.seq.get c).state = true := by simpa [Cause.applies] using hc
  have hnone : (s.limit.cavity.get c).active = none := by simpa [State.tripped] using ht
  refine ⟨?_, hraise ▸ raise_raises s c .relayStuck happlies⟩
  rw [hraise, State.raise, if_pos happlies]
  simp only [hnone]

/-- The relay closes, with its closing instant, and the closing goes to the Supervisor (R112, R160). -/
theorem closeRelay_of_clear {s : State} {c : Cavity} (ht : s.tripped c = false) (hstuck : s.hasStuck c = false)
    (hopen : s.relayClosed c = false) :
    s.closeRelay c = (s.setRelay c { closedAt := some s.clock, sinceSlot := false }).sendRelayClosing c := by
  simp [State.closeRelay, ht, hstuck, hopen]

/-! ### The phase begin that enters RUNNING -/

section
variable {s : State} {c : Cavity} {n : Nat} {r : PhaseRecord}

theorem beginPhase_keepsOthers (hn : (s.seq.get c).entry = some n) (hr : s.recordAt n = some r) :
    KeepsOthers s (s.beginPhase c true) c := by
  rw [beginPhase_entering hn hr]
  exact (((phaseWritten_keepsOthers s c n r).trans (closeRelay_keepsOthers _ c)).trans
    (setConvection_keepsOthers _ c _)).trans (setSeq_keepsOthers _ c _)

/-- The parts of an entry into RUNNING that its order to close the relay decides. -/
theorem beginPhase_entering_parts (hn : (s.seq.get c).entry = some n) (hr : s.recordAt n = some r) :
    (s.beginPhase c true).link = ((s.phaseWritten c n r).closeRelay c).link ∧
    (s.beginPhase c true).alloc = ((s.phaseWritten c n r).closeRelay c).alloc ∧
    (s.beginPhase c true).drive = ((s.phaseWritten c n r).closeRelay c).drive ∧
    (s.beginPhase c true).limit = ((s.phaseWritten c n r).closeRelay c).limit ∧
    (s.beginPhase c true).box c = ((s.phaseWritten c n r).closeRelay c).box c ∧
    (s.beginPhase c true).fan.convection.get c = r.convection := by
  rw [beginPhase_entering hn hr]
  refine ⟨rfl, rfl, rfl, rfl, rfl, ?_⟩
  simp [State.setConvection]

/-- The phase begins and the relay closes (R43, R112). -/
theorem beginPhase_fed (hn : (s.seq.get c).entry = some n) (hr : s.recordAt n = some r) (ht : s.tripped c = false)
    (hstuck : s.hasStuck c = false) (hopen : s.relayClosed c = false) :
    PhaseBegun s (s.beginPhase c true) c n r ∧
      ((s.beginPhase c true).drive.relays.get c).closedAt = some s.clock ∧
      ((s.beginPhase c true).box c).relayClosings = (s.box c).relayClosings + 1 ∧
      (s.beginPhase c true).limit = s.limit := by
  obtain ⟨hclock, hdrive, hlimit, _⟩ := phaseWritten_frame s c n r
  obtain ⟨hlink', halloc', hdrive', hlimit', hbox', hconvection⟩ := beginPhase_entering_parts hn hr
  have hclose := closeRelay_of_clear (s := s.phaseWritten c n r) (c := c) (by simpa [State.tripped, hlimit] using ht)
    (by simpa [State.hasStuck, hdrive] using hstuck) (by simpa [State.relayClosed, hdrive] using hopen)
  rw [hclose] at hlink' halloc' hdrive' hlimit' hbox'
  have hbox : (s.beginPhase c true).box c = { (s.phaseWritten c n r).box c with
      relayClosings := ((s.phaseWritten c n r).box c).relayClosings + 1 } := by
    rw [hbox']
    simp [State.sendRelayClosing, State.box]
  refine ⟨⟨?_, ?_, ?_, hconvection⟩, ?_, ?_, ?_⟩
  · exact hlink'.trans (phaseWritten_link s c n r)
  · exact halloc'.trans (phaseWritten_alloc s c n r)
  · rw [hbox, phaseWritten_box]
  · rw [hdrive', hclock.symm]
    simp
  · rw [hbox, phaseWritten_box]
  · exact hlimit'.trans hlimit

/-- The phase begins with the relay OPEN where the Drive refuses the order to close (R43, R112). -/
theorem beginPhase_unfed (hn : (s.seq.get c).entry = some n) (hr : s.recordAt n = some r)
    (hc : (s.seq.get c).state ≠ .absent) (hrefused : s.tripped c = true ∨ s.hasStuck c = true) :
    BegunUnfed s (s.beginPhase c true) c n r := by
  obtain ⟨hclock, hdrive, hlimit, _⟩ := phaseWritten_frame s c n r
  obtain ⟨hlink', halloc', hdrive', hlimit', hbox', hconvection⟩ := beginPhase_entering_parts hn hr
  have htripped : (s.phaseWritten c n r).tripped c = s.tripped c := by simp [State.tripped, hlimit]
  have hbox := phaseWritten_box s c n r
  cases ht : s.tripped c with
  | true =>
    rw [closeRelay_of_tripped (htripped.trans ht)] at hlink' halloc' hdrive' hlimit' hbox'
    refine ⟨by rw [hbox', hbox], fun _ => ⟨⟨?_, ?_, ?_, hconvection⟩, ?_, ?_, ?_⟩, fun hfalse => ?_⟩
    · exact hlink'.trans (phaseWritten_link s c n r)
    · exact halloc'.trans (phaseWritten_alloc s c n r)
    · rw [hbox', hbox]
    · exact hdrive'.trans hdrive
    · exact hlimit'.trans hlimit
    · rw [hbox', hbox]
    · simp [ht] at hfalse
  | false =>
    have hstuck : s.hasStuck c = true := hrefused.resolve_left (by simp [ht])
    obtain ⟨hclose, hraised⟩ := closeRelay_of_stuck (s := s.phaseWritten c n r) (c := c) (htripped.trans ht)
      (by simpa [State.hasStuck, hdrive] using hstuck) (by rwa [phaseWritten_state])
    obtain ⟨htripLink, htripAlloc, htripGrants, htripBox⟩ := trip_parts (s.phaseWritten c n r) c .relayStuck
    have hraised := causeRaised_congr hlimit.symm hlimit' hdrive' hraised
    rw [hclose] at hlink' halloc' hbox'
    rw [phaseWritten_alloc] at htripAlloc htripGrants
    refine ⟨by rw [hbox', htripBox, hbox], fun htrue => by simp [ht] at htrue,
      fun _ _ => ⟨?_, hraised, fun d hd => ?_, ?_, ?_, ?_, ?_, hconvection⟩⟩
    · rw [hlink', htripLink, phaseWritten_link]
      simp [State.event, hclock, Cause.code]
    · obtain ⟨hcavity, _⟩ := beginPhase_keepsOthers hn hr
      obtain ⟨_, _, _, hother, _⟩ := hcavity d hd
      exact hother
    · rw [halloc']
      exact htripAlloc
    · rw [halloc']
      exact htripGrants
    · rw [hbox', htripBox, hbox]
    · rw [hbox', htripBox, hbox]

end

/-! ### The frame's end -/

/-- The Drive after shedding: as it was, or following a shorter grant list (R86, R111). -/
theorem shedGrants_drive (s : State) :
    s.shedGrants.drive = s.drive ∨ ∃ grants, s.shedGrants.drive = s.drive.follow s.enabled grants := by
  unfold State.shedGrants
  split
  · exact .inl rfl
  · exact .inr ⟨_, rfl⟩

/-- The end of a frame leaves the Drive as it was, or following a shorter grant list. -/
theorem heard_drive (s : State) :
    s.heard.drive = s.drive ∨ ∃ grants, s.heard.drive = s.drive.follow s.enabled grants := by
  unfold State.heard
  dsimp only
  split
  · exact .inl rfl
  · exact shedGrants_drive _

theorem follow_relays (d : Drive) (enabled : Cavity → Bool) (grants : List CavityElement) :
    (d.follow enabled grants).relays = d.relays := rfl

theorem heard_relays (s : State) : s.heard.drive.relays = s.drive.relays := by
  rcases heard_drive s with h | ⟨grants, h⟩ <;> rw [h]
  exact follow_relays _ _ _

/-- Following a grant list leaves every output its owner and its STUCK standing (R111). -/
theorem heard_hasStuck (s : State) (c : Cavity) : s.heard.hasStuck c = s.hasStuck c := by
  unfold State.hasStuck
  rcases heard_drive s with h | ⟨grants, h⟩ <;> rw [h]
  simp [Drive.follow, Vector.toList_map, List.any_map, Function.comp_def]

/-! ### The start requests -/

theorem cavityOf_num (c : Cavity) : cavityOf c.num = some c := by cases c <;> rfl

theorem num_lt (c : Cavity) : c.num < 256 := by cases c <;> decide

/-- The Sequencer that a start without an engagement enters RUNNING with, its first phase not yet begun (R40). -/
def Sequencer.started (walked : List Nat) : Sequencer :=
  { Sequencer.fresh .running with chain := walked, bound := true }

/-- Where no engagement is ordered, an accepted start enters RUNNING and begins the first phase (R40). -/
theorem acceptStart_entering {s : State} {c : Cavity} {walked : List Nat} {locks : Bool}
    (hbound : (s.seq.get c).bound = true) (hlocks : locks = true → (s.locks.get c).state ≠ .opened) :
    s.acceptStart c walked locks = (s.setSeq c (Sequencer.started walked)).beginPhase c true := by
  have hno : (locks && decide ((s.locks.get c).state = .opened)) = false := by
    cases locks
    · rfl
    · simpa using hlocks rfl
  simp [State.acceptStart, hno, State.enterRunning, State.setSeq, Sequencer.started, Sequencer.fresh, hbound]

/-- The start checks pass in IDLE, bound, with the cavity probe VALID, at a lock at rest that the chain can use (R39). -/
theorem finishStart_of_checks {s : State} {c : Cavity} {table : Nat → Option PhaseRecord} {walked : List Nat}
    {write : State → State}
    (hlock : (s.locks.get c).state = .locked ∨ ((s.locks.get c).state = .opened ∧ holdsLocked table walked = false))
    (hdoor : holdsLocked table walked = true → (s.locks.get c).door = .closed) :
    s.finishStart c table (.ok walked) write =
      ((write s).acceptStart c walked (holdsLocked table walked), Reply.done []) := by
  have hrefusal : s.startLockRefusal c (holdsLocked table walked) = none := by
    unfold State.startLockRefusal
    rcases hlock with h | ⟨h, hfree⟩
    · cases hl : holdsLocked table walked
      · simp [h]
      · simp [h, hdoor hl]
    · simp [h, hfree]
  simp only [State.finishStart, hrefusal]

/-- An accepted start that needs no engagement: RUNNING with the walked list fixed and the first phase begun, the relay
closed or the order refused (R40, R43, R112). -/
theorem acceptStart_enters {s : State} {c : Cavity} {walked : List Nat} {locks : Bool} {first : Nat} {r : PhaseRecord}
    (hbound : (s.seq.get c).bound = true) (hlocks : locks = true → (s.locks.get c).state ≠ .opened)
    (hhead : walked.head? = some first) (hr : s.recordAt first = some r) :
    let t := s.acceptStart c walked locks
    t.seq = s.seq.set c { Sequencer.started walked with current := some (first, r.kind), newPhase := true } ∧
    KeepsOthers s t c ∧ t.table = s.table ∧ t.locks = s.locks ∧ t.reg = s.reg ∧
    (s.tripped c = false → s.hasStuck c = false → s.relayClosed c = false →
      PhaseBegun s t c first r ∧ (t.drive.relays.get c).closedAt = some s.clock ∧
      (t.box c).relayClosings = (s.box c).relayClosings + 1 ∧ t.limit = s.limit) ∧
    (s.tripped c = true ∨ s.hasStuck c = true → BegunUnfed s t c first r) := by
  have hentry : ((s.setSeq c (Sequencer.started walked)).seq.get c).entry = some first := by
    simpa [Sequencer.entry, Sequencer.started, Sequencer.fresh, List.head?_eq_getElem?] using hhead
  have hrunning : ((s.setSeq c (Sequencer.started walked)).seq.get c).state ≠ .absent := by
    simp [Sequencer.started, Sequencer.fresh]
  have hrecord : (s.setSeq c (Sequencer.started walked)).recordAt first = some r := hr
  rw [acceptStart_entering hbound hlocks]
  refine ⟨?_, (setSeq_keepsOthers s c _).trans (beginPhase_keepsOthers hentry hrecord), by simp, by simp, by simp,
    beginPhase_fed hentry hrecord, beginPhase_unfed hentry hrecord hrunning⟩
  rw [beginPhase_seq true hentry hrecord]
  simp [Sequencer.started, Sequencer.fresh]

/-- What the end of a frame leaves of the standing that a start reads. -/
theorem heard_standing (s : State) (c : Cavity) :
    s.heard.seq = s.seq ∧ s.heard.locks = s.locks ∧ s.heard.profiles = s.profiles ∧ s.heard.recordAt = s.recordAt ∧
    s.heard.startRefusal c = s.startRefusal c := by
  have hscanner : s.heard.scanner = s.scanner := by simp
  have hprobe : s.heard.probeValid c = s.probeValid c := by rw [State.probeValid, hscanner, State.probeValid]
  refine ⟨by simp, by simp, by simp, recordAt_congr (by simp), ?_⟩
  simp [State.startRefusal, hprobe]

theorem startRefusal_eq_none {s : State} {c : Cavity} (hidle : (s.seq.get c).state = .idle)
    (hbound : (s.seq.get c).bound = true) (hprobe : s.probeValid c = true) : s.startRefusal c = none := by
  simp [State.startRefusal, hidle, hbound, hprobe]

theorem namedCavity_of_idle {s : State} {c : Cavity} (hidle : (s.seq.get c).state = .idle) :
    s.namedCavity c.num = .ok c := by
  simp [State.namedCavity, cavityOf_num, hidle]

/-- START CYCLE where the checks before the lock's pass (R39). -/
theorem exec_startCycle {s : State} {c : Cavity} {first : Nat} {walked : List Nat} (howed : s.link.owed = none)
    (hidle : (s.seq.get c).state = .idle) (hbound : (s.seq.get c).bound = true) (hprobe : s.probeValid c = true)
    (hfirst : first < 48) (hcheck : chainCheck s.recordAt (s.profiles.get c) first = .ok walked) (h : Header) :
    exec (.startCycle h [byte c.num, byte first]) s =
      let out := s.heard.finishStart c s.recordAt (.ok walked) id
      .next (out.1.answer h 0x30 (some c) out.2) := by
  obtain ⟨hseq, _, hprofiles, hrecord, hrefusal⟩ := heard_standing s c
  have hnum : byteAt [byte c.num, byte first] 0 = c.num := by simpa [byteAt, byte] using num_lt c
  have hbyte : byteAt [byte c.num, byte first] 1 = first := by
    simpa [byteAt, byte] using (show first < 256 by omega)
  have hcavity : RequestKind.cavityIn .startCycle [byte c.num, byte first] = some c := by
    simp [RequestKind.cavityIn, RequestKind.namesCavity, RequestKind.length, hnum, cavityOf_num]
  have howner : startCycle [byte c.num, byte first] s.heard = s.heard.finishStart c s.recordAt (.ok walked) id := by
    simp only [startCycle, ownerOfCavity, hnum, namedCavity_of_idle (hseq ▸ hidle), hrefusal,
      startRefusal_eq_none hidle hbound hprobe, hbyte, tableRecords, Nat.not_le.mpr hfirst, if_false, hrecord,
      hprofiles, hcheck]
  have htaken := takeRequest_of_taken (k := .startCycle) (p := [byte c.num, byte first]) howed rfl rfl h startCycle
  rw [howner, hcavity] at htaken
  exact congrArg Host.Outcome.next htaken

/-- START INLINE of a well-formed record where the checks before the lock's pass (R31, R39). -/
theorem exec_startInline {s : State} {c : Cavity} {p : List Byte} {r : PhaseRecord} {walked : List Nat}
    (howed : s.link.owed = none) (hidle : (s.seq.get c).state = .idle) (hbound : (s.seq.get c).bound = true)
    (hprobe : s.probeValid c = true) (hlength : p.length = 17) (hnum : byteAt p 0 = c.num)
    (hrecordOk : (rawRecordAt p 1).check = .ok r)
    (hcheck : chainCheck (s.tableWith (inlineSlot c) r) (s.profiles.get c) (inlineSlot c) = .ok walked) (h : Header) :
    exec (.startInline h p) s =
      let out := s.heard.finishStart c (s.tableWith (inlineSlot c) r) (.ok walked)
        fun s => s.setRecord (inlineSlot c) (some r)
      .next (out.1.answer h 0x31 (some c) out.2) := by
  obtain ⟨hseq, _, hprofiles, hrecord, hrefusal⟩ := heard_standing s c
  have hcavity : RequestKind.cavityIn .startInline p = some c := by
    simp [RequestKind.cavityIn, RequestKind.namesCavity, RequestKind.length, hlength, hnum, cavityOf_num]
  have htable : s.heard.tableWith (inlineSlot c) r = s.tableWith (inlineSlot c) r := by
    unfold State.tableWith
    rw [hrecord]
  have howner : startInline p s.heard = s.heard.finishStart c (s.tableWith (inlineSlot c) r) (.ok walked)
      fun s => s.setRecord (inlineSlot c) (some r) := by
    simp only [startInline, ownerOfCavity, hnum, namedCavity_of_idle (hseq ▸ hidle), hrefusal,
      startRefusal_eq_none hidle hbound hprobe, hrecordOk, htable, hprofiles, hcheck]
  have htaken := takeRequest_of_taken (k := .startInline) howed hlength rfl h startInline
  rw [howner, hcavity] at htaken
  exact congrArg Host.Outcome.next htaken

/-- The order to engage is not given on a lock already LOCKED, or for a chain with no locked record (R40). -/
theorem not_opened_of_locks {lock : LockState} {locks : Bool}
    (h : lock = .locked ∨ (lock = .opened ∧ locks = false)) (hlocks : locks = true) : lock ≠ .opened := by
  rcases h with rfl | ⟨_, hfree⟩
  · simp
  · simp [hlocks] at hfree

/-- The end of a frame leaves the standing of a cavity that the order to close reads. -/
theorem heard_feed (s : State) (c : Cavity) :
    s.heard.tripped c = s.tripped c ∧ s.heard.hasStuck c = s.hasStuck c ∧ s.heard.relayClosed c = s.relayClosed c ∧
    s.heard.clock = s.clock ∧ s.heard.box c = s.box c ∧ s.heard.limit = s.limit := by
  refine ⟨by simp [State.tripped], heard_hasStuck s c, ?_, by simp, by simp [State.box], by simp⟩
  rw [State.relayClosed, heard_relays, State.relayClosed]

/-- Settles O34, for START CYCLE on the table as it stands and for START INLINE on the table with its record written. -/
theorem startEntersRunning : Obligations.StartEntersRunning := by
  constructor
  · intro s h c first w r howed hidle hbound hprobe hfirst hcheck hr hlock hdoor
    obtain ⟨hseq, hlocks, _, hrecord, _⟩ := heard_standing s c
    obtain ⟨htripped, hstuck, hrelay, hclock, hbox, hlimit⟩ := heard_feed s c
    obtain ⟨hhead, _⟩ := (chainCheckIsExact _ _ _ _).mp hcheck
    obtain ⟨hseq', hkeeps, htable', hlocks', hreg', hfed, hunfed⟩ := acceptStart_enters (s := s.heard) (c := c)
      (hseq ▸ hbound) (fun hl => hlocks ▸ not_opened_of_locks hlock hl) hhead (hrecord ▸ hr)
    refine ⟨_, ?_, hseq'.trans (by rw [hseq]; rfl), hkeeps, htable'.trans (by simp), hlocks'.trans hlocks,
      hreg'.trans (by simp), ?_, ?_⟩
    · rw [exec_startCycle howed hidle hbound hprobe hfirst hcheck,
        finishStart_of_checks (hlocks ▸ hlock) (hlocks ▸ hdoor)]
      rfl
    · rw [← htripped, ← hstuck, ← hrelay, ← hclock, ← hbox, ← hlimit]
      exact hfed
    · rw [← htripped, ← hstuck]
      exact hunfed
  · intro s h c p r w howed hidle hbound hprobe hlength hnum hrecordOk hcheck hlock hdoor
    obtain ⟨hseq, hlocks, _, hrecord, _⟩ := heard_standing s c
    obtain ⟨htripped, hstuck, hrelay, hclock, hbox, hlimit⟩ := heard_feed s c
    obtain ⟨hhead, _⟩ := (chainCheckIsExact _ _ _ _).mp hcheck
    have hwritten (n : Nat) : (s.heard.setRecord (inlineSlot c) (some r)).recordAt n =
        if n = inlineSlot c then some r else s.recordAt n := by
      rw [recordAt_setRecord _ (inlineSlot_lt c), hrecord]
    obtain ⟨hseq', hkeeps, htable', hlocks', hreg', hfed, hunfed⟩ :=
      acceptStart_enters (s := s.heard.setRecord (inlineSlot c) (some r)) (c := c)
        (hseq ▸ hbound) (fun hl => hlocks ▸ not_opened_of_locks hlock hl) hhead (by rw [hwritten, if_pos rfl])
    refine ⟨_, ?_, hseq'.trans ?_, hkeeps, ?_, fun n hn => ?_, hlocks'.trans hlocks,
      hreg'.trans (by simp), ?_, ?_⟩
    · rw [exec_startInline howed hidle hbound hprobe hlength hnum hrecordOk hcheck,
        finishStart_of_checks (hlocks ▸ hlock) (hlocks ▸ hdoor)]
    · rw [State.setRecord_seq, hseq]
      rfl
    · rw [recordAt_congr htable', hwritten, if_pos rfl]
    · rw [recordAt_congr htable', hwritten, if_neg hn]
    · rw [← htripped, ← hstuck, ← hrelay, ← hclock, ← hbox, ← hlimit]
      exact hfed
    · rw [← htripped, ← hstuck]
      exact hunfed

end Sys2Proof.Machine
end

section
/-! PROOF. The end of a cycle (R52, R54, R57, R59): what stands before its settling test, what the settling test
makes of it, and the requests and notices that end a cycle. -/

namespace Sys2Proof.Machine

/-! ### What the end of a cycle leaves alone -/

section
variable (s : State) (c : Cavity)

theorem setLock_keepsOthers (l : DoorLock) : KeepsOthers s (s.setLock c l) c := by
  simp +contextual [KeepsOthers, State.box]

theorem postRequest_keepsOthers (mode : RegMode) (reading : Option CavityReading) :
    KeepsOthers s (s.postRequest c mode reading) c :=
  (setMail_keepsOthers s c _).trans (setSeq_keepsOthers _ c _)

theorem settlingTest_keepsOthers : KeepsOthers s (s.settlingTest c) c := by
  rcases settlingTest_cases s c with h | h | ⟨_, _, h⟩ | ⟨_, h⟩ <;> rw [h]
  · exact KeepsOthers.refl s c
  · exact setSeq_keepsOthers s c _
  · exact (setSeq_keepsOthers s c _).trans (setLock_keepsOthers _ c _)
  · exact setSeq_keepsOthers s c _

theorem cycleEvent_keepsOthers (outcome : CycleOutcome) (reason : Option AbortReason) :
    KeepsOthers s (s.cycleEvent c outcome reason) c := by
  unfold State.cycleEvent
  split
  · exact queueEvent_keepsOthers s c _ _ _ _ _
  · exact queueEvent_keepsOthers s c _ _ _ _ _
  · exact KeepsOthers.refl s c

end

/-! ### The settling test after a cycle end -/

/-- Is the lock a jammed one that the Sequencer owns, which the settling test gives up (R57)? -/
def Sequencer.givesUp (q : Sequencer) (lock : LockState) : Bool := q.lockOwned && decide (lock = .jammed)

/-- A Sequencer in SETTLING as the settling test leaves it, its cycle ended with an outcome and an abort reason (R54,
R57). -/
def Sequencer.settled (q : Sequencer) (lock : LockState) (outcome : CycleOutcome) (reason : Option AbortReason) :
    Sequencer :=
  { q with
    state := settledState lock q.lockOwned .settling outcome
    lockOwned := q.lockOwned && decide (lock = .engaging ∨ lock = .releasing ∨ lock = .locked)
    outcome := if q.givesUp lock then some .tripped else some outcome
    abortReason := if q.givesUp lock then none else reason }

/-- The settling test of a cycle that has ended: every lock state and lock-owned in one table (R54, R57). -/
theorem settlingTest_of_settling {s : State} {c : Cavity} {q : Sequencer} {outcome : CycleOutcome}
    {reason : Option AbortReason} (hq : s.seq.get c = { q with
      outcome := some outcome, abortReason := reason, state := .settling }) :
    (s.settlingTest c).seq.get c = q.settled (s.locks.get c).state outcome reason ∧
    (s.settlingTest c).locks.get c = if q.givesUp (s.locks.get c).state then
      { s.locks.get c with owner := .none } else s.locks.get c := by
  rw [settlingTest_eq]
  unfold State.settledFrom Sequencer.settled Sequencer.givesUp
  cases hlock : (s.locks.get c).state <;> cases howned : q.lockOwned <;> simp [hq, hlock, howned, settledState]

/-! ### The cycle end before the settling test -/

/-- A cycle end up to its settling test: the OFF request, the outputs, the outcome, the notice to the Allocator and the
event (R52, R59, R103). -/
def State.cycleClosed (s : State) (c : Cavity) (outcome : CycleOutcome) (reason : Option AbortReason)
    (reading : Option CavityReading) : State :=
  let s₁ := ((s.postRequest c .off reading).openRelay c).setConvection c false
  let s₂ := s₁.setSeq c { s₁.seq.get c with outcome := some outcome, abortReason := reason, state := .settling }
  let s₃ := if decide ((s.seq.get c).state = .running) then s₂.sendWithdrawNotice c else s₂
  s₃.cycleEvent c outcome reason

theorem endCycle_eq (s : State) (c : Cavity) (outcome : CycleOutcome) (reason : Option AbortReason)
    (reading : Option CavityReading) :
    s.endCycle c outcome reason reading = (s.cycleClosed c outcome reason reading).settlingTest c := rfl

section
variable (s : State) (c : Cavity) (outcome : CycleOutcome) (reason : Option AbortReason)
  (reading : Option CavityReading)

theorem cycleClosed_keepsOthers : KeepsOthers s (s.cycleClosed c outcome reason reading) c := by
  have hclosed := (((postRequest_keepsOthers s c .off reading).trans (openRelay_keepsOthers _ c)).trans
    (setConvection_keepsOthers _ c false)).trans (setSeq_keepsOthers _ c { s.seq.get c with
      newPhase := false, outcome := some outcome, abortReason := reason, state := .settling })
  have hseq : ((((s.postRequest c .off reading).openRelay c).setConvection c false).seq.get c) =
      { s.seq.get c with newPhase := false } := by simp [State.postRequest]
  unfold State.cycleClosed
  dsimp only
  rw [hseq]
  split
  · exact (hclosed.trans (setMail_keepsOthers _ c _)).trans (cycleEvent_keepsOthers _ c _ _)
  · exact hclosed.trans (cycleEvent_keepsOthers _ c _ _)

theorem endCycle_keepsOthers : KeepsOthers s (s.endCycle c outcome reason reading) c :=
  (cycleClosed_keepsOthers s c outcome reason reading).trans (settlingTest_keepsOthers _ c)

/-- The parts of a cycle end that its settling test reads. -/
theorem cycleClosed_seq_locks :
    (s.cycleClosed c outcome reason reading).seq.get c = { s.seq.get c with
      newPhase := false, outcome := some outcome, abortReason := reason, state := .settling } ∧
    (s.cycleClosed c outcome reason reading).locks = s.locks := by
  unfold State.cycleClosed
  dsimp only
  split <;> simp [State.postRequest]

/-- The parts of a cycle end that its settling test leaves alone: the relay, the convection fan, the request and the
notice. -/
theorem cycleClosed_outputs :
    (s.cycleClosed c outcome reason reading).relayClosed c = false ∧
    (s.cycleClosed c outcome reason reading).fan.convection.get c = false ∧
    (s.cycleClosed c outcome reason reading).box c = { s.box c with
      regulation := (s.box c).regulation ++ [s.regRequest c .off reading]
      withdrawNotices := (s.box c).withdrawNotices + if (s.seq.get c).state = .running then 1 else 0 } := by
  have hopen := openRelay_open (s.postRequest c .off reading) c
  unfold State.cycleClosed
  by_cases hrunning : (s.seq.get c).state = .running
  · simpa [hrunning, State.relayClosed, State.sendWithdrawNotice, State.box, State.postRequest,
      State.postRegulation, State.setConvection] using hopen
  · simpa [hrunning, State.relayClosed, State.box, State.postRequest, State.postRegulation,
      State.setConvection] using hopen

/-- A cycle end posts the OFF request and, out of RUNNING, sends the notice to the Allocator; no other mail of the
cavity changes (R52, R103). -/
theorem endCycle_box : (s.endCycle c outcome reason reading).box c = { s.box c with
    regulation := (s.box c).regulation ++ [s.regRequest c .off reading]
    withdrawNotices := (s.box c).withdrawNotices + if (s.seq.get c).state = .running then 1 else 0 } := by
  obtain ⟨_, _, hbox⟩ := cycleClosed_outputs s c outcome reason reading
  rw [← hbox]
  simp [endCycle_eq, State.box]

/-- The whole cycle end (R52, R54, R57, R59). -/
theorem endCycle_ends : CycleEnded s (s.endCycle c outcome reason reading) c outcome reason := by
  obtain ⟨hseq, hlocks⟩ := cycleClosed_seq_locks s c outcome reason reading
  obtain ⟨hrelay, hconvection, _⟩ := cycleClosed_outputs s c outcome reason reading
  obtain ⟨hseq', hlock'⟩ := settlingTest_of_settling (q := { s.seq.get c with newPhase := false }) hseq
  rw [hlocks, ← endCycle_eq] at hseq' hlock'
  refine ⟨by simpa [endCycle_eq, State.relayClosed] using hrelay, by simpa [endCycle_eq] using hconvection,
    ⟨s.regRequest c .off reading, rfl, rfl, rfl, by rw [endCycle_box]⟩, ?_⟩
  rw [hseq', hlock', endCycle_box]
  refine ⟨rfl, rfl, rfl, rfl, rfl, fun hkept => ?_, fun hgiven => ?_, rfl, rfl, rfl, rfl, rfl, rfl, rfl, rfl, by simp,
    by simp⟩
  · have hno : { s.seq.get c with newPhase := false }.givesUp (s.locks.get c).state = false := by
      rcases hkept with h | h <;> simp [Sequencer.givesUp, h]
    simp [Sequencer.settled, hno]
  · simp [Sequencer.settled, Sequencer.givesUp, hgiven]

/-- The event of a cycle end joins the queue, and the settling test queues none (R52, R59). -/
theorem endCycle_link : (s.endCycle c outcome reason reading).link = (s.cycleEvent c outcome reason).link := by
  rw [endCycle_eq, State.cycleClosed]
  cases outcome <;> by_cases hrunning : (s.seq.get c).state = .running <;>
    simp [hrunning, State.cycleEvent, State.queueEvent, State.postRequest]

end

/-! ### A request that names a cavity alone -/

/-- The owner's part of a request runs for the cavity that it names unless that is ABSENT (R38). -/
theorem ownerOfCavity_of_present {s : State} {c : Cavity} (hpresent : (s.seq.get c).state ≠ .absent)
    (f : Cavity → List Byte → State → State × Reply) :
    ownerOfCavity f [byte c.num] s = f c [byte c.num] s := by
  have hnamed : s.namedCavity c.num = .ok c := by simp [State.namedCavity, cavityOf_num, hpresent]
  simp only [ownerOfCavity, byteAt_byte (num_lt c), hnamed]

/-- A request whose payload is a cavity number alone, with no reply owed, is answered as its owner says (R175, R176). -/
theorem takeRequest_ofCavity {s t : State} {k : RequestKind} {c : Cavity} {f : Owner} {reply : Reply}
    (howed : s.link.owed = none) (hlength : k.length = 1) (hread : k.isRead = false) (hnames : k.namesCavity = true)
    (howner : f [byte c.num] s.heard = (t, reply)) (h : Header) :
    takeRequest k h [byte c.num] f s = t.answer h k.code (some c) reply := by
  have hcavity : k.cavityIn [byte c.num] = some c := by
    simp [RequestKind.cavityIn, hnames, hlength, byteAt_byte (num_lt c), cavityOf_num]
  rw [takeRequest_of_taken howed (by simp [hlength]) hread, howner, hcavity]

/-! ### ABORT CYCLE -/

theorem abortCycle_of_underWay {s : State} {c : Cavity} (hunderway : (s.seq.get c).underWay) :
    abortCycle [byte c.num] s = (s.endCycle c .aborted (some .request) none, Reply.done []) := by
  have hpresent : (s.seq.get c).state ≠ .absent := by rcases hunderway with hs | hs <;> simp [hs]
  rw [abortCycle, ownerOfCavity_of_present hpresent]
  rcases hunderway with hs | hs <;> simp only [hs]

theorem abortCycle_of_not_underWay {s : State} {c : Cavity} (hpresent : (s.seq.get c).state ≠ .absent)
    (hother : ¬ (s.seq.get c).underWay) : abortCycle [byte c.num] s = (s, Reply.refuse .state) := by
  rw [abortCycle, ownerOfCavity_of_present hpresent]
  cases hs : (s.seq.get c).state <;> simp_all [Sequencer.underWay]

/-- Settles O35: the request's answer by whether a cycle is under way, and the cycle end at the request. -/
theorem abortEndsCycle : Obligations.AbortEndsCycle := by
  intro s h c howed
  have hseq : s.heard.seq.get c = s.seq.get c := by simp
  refine ⟨fun hunderway => ?_, fun hother => ?_⟩
  · have howner := abortCycle_of_underWay (s := s.heard) (c := c) (hseq ▸ hunderway)
    refine ⟨_, congrArg Host.Outcome.next (takeRequest_ofCavity (k := .abortCycle) howed rfl rfl rfl howner h),
      endCycle_ends s.heard c .aborted (some .request) none, endCycle_keepsOthers s.heard c _ _ _, ?_⟩
    rw [endCycle_link]
    simp [State.cycleEvent, State.queueEvent, State.event, AbortReason.code]
  · have howner : abortCycle [byte c.num] s.heard = (s.heard, Reply.refuse .state) := by
      refine abortCycle_of_not_underWay ?_ ?_ <;> rw [hseq] <;>
        rcases hother with hs | hs | hs | hs <;> simp [hs, Sequencer.underWay]
    exact congrArg Host.Outcome.next (takeRequest_ofCavity (k := .abortCycle) howed rfl rfl rfl howner h)

/-! ### Trip notices -/

/-- Settles O41, along the table of R58. -/
theorem tripNoticeMoves : Obligations.TripNoticeMoves := by
  intro s c hsent q s'
  have hq : s'.seq.get c = q := rfl
  have htaken : exec (.tripNotice c) s = .next (s'.tripNoticed c) :=
    congrArg Host.Outcome.next (if_neg (Nat.ne_of_gt hsent))
  refine ⟨fun hunderway => ⟨s'.endCycle c .tripped none none, ?_, endCycle_ends s' c .tripped none none,
    (setMail_keepsOthers s c _).trans (endCycle_keepsOthers s' c .tripped none none), ?_⟩, fun hs => ?_, fun hs => ?_,
    fun hs => ?_, fun hs => ?_⟩
  · rw [htaken]
    rcases hunderway with hs | hs <;> simp only [State.tripNoticed, hq, hs]
  · rw [endCycle_link]
    rfl
  · rw [htaken, ← settlingTest_eq]
    simp only [State.tripNoticed, hq, hs]
    rfl
  · rw [htaken]
    simp only [State.tripNoticed, hq, hs]
    rfl
  · rw [htaken]
    simp only [State.tripNoticed, hq, hs]
    rfl
  · rw [htaken]
    simp only [State.tripNoticed, hq, hs]

end Sys2Proof.Machine
end

section
/-! PROOF. The phases of a cycle (R43, R46, R51): the phase begin and the phase end, the heat-complete notice and the
lock notices. -/

namespace Sys2Proof.Machine

/-! ### Statements that read part of a state -/

section
variable {s s' t : State} {c : Cavity}

/-- A cycle end reads the cavity's Sequencer, lock, requests and notices, the Allocator and the Phase Table alone. -/
theorem cycleEnded_congr {outcome : CycleOutcome} {reason : Option AbortReason}
    (h : CycleEnded s t c outcome reason) (hcavity : s'.seq.get c = s.seq.get c ∧ s'.locks.get c = s.locks.get c)
    (hbox : (s'.box c).regulation = (s.box c).regulation ∧ (s'.box c).withdrawNotices = (s.box c).withdrawNotices)
    (halloc : s'.alloc = s.alloc) (htable : s'.table = s.table) : CycleEnded s' t c outcome reason := by
  simpa only [CycleEnded, hcavity, hbox, halloc, htable] using h

/-- A phase begin reads the link, the clock, the Allocator and the notices alone. -/
theorem phaseBegun_congr {n : Nat} {r : PhaseRecord} (h : PhaseBegun s t c n r) (hlink : s'.link = s.link)
    (hclock : s'.clock = s.clock) (halloc : s'.alloc = s.alloc)
    (hbox : (s'.box c).withdrawNotices = (s.box c).withdrawNotices) : PhaseBegun s' t c n r := by
  simpa only [PhaseBegun, State.event, hlink, hclock, halloc, hbox] using h

/-- An unfed entry into RUNNING reads, beside what a phase begin reads, the Supervisor, the Drive and the counted
notices alone. -/
theorem begunUnfed_congr {n : Nat} {r : PhaseRecord} (h : BegunUnfed s t c n r) (hlink : s'.link = s.link)
    (hclock : s'.clock = s.clock) (halloc : s'.alloc = s.alloc) (hlimit : s'.limit = s.limit)
    (hdrive : s'.drive = s.drive)
    (hbox : (s'.box c).withdrawNotices = (s.box c).withdrawNotices ∧
      (s'.box c).relayClosings = (s.box c).relayClosings ∧ (s'.box c).tripNotices = (s.box c).tripNotices) :
    BegunUnfed s' t c n r := by
  simpa only [BegunUnfed, PhaseBegun, CauseRaised, State.holdsCause, State.tripped, State.hasStuck, State.event, hlink,
    hclock, halloc, hlimit, hdrive, hbox] using h

end

@[simp] theorem setMail_box (s : State) (c : Cavity) (x : Mailbox) : (s.setMail c x).box c = x := by
  simp [State.box]

@[simp] theorem setSeq_box (s : State) (c : Cavity) (q : Sequencer) : (s.setSeq c q).box = s.box := rfl

/-! ### The next phase begins -/

theorem phaseRecord_of_entry {s : State} {c : Cavity} {n : Nat} {r : PhaseRecord}
    (hentry : (s.seq.get c).entry = some n) (hr : s.recordAt n = some r) : s.phaseRecord c = some r :=
  (congrArg (·.bind s.recordAt) hentry).trans hr

section
variable {s : State} {c : Cavity} {n : Nat} {r : PhaseRecord}

/-- The phase begin of a cycle already in RUNNING, which leaves the relay as it is (R43). -/
theorem beginPhase_following (hn : (s.seq.get c).entry = some n) (hr : s.recordAt n = some r) :
    s.beginPhase c false =
      let s' := (s.phaseWritten c n r).setConvection c r.convection
      s'.setSeq c { s'.seq.get c with newPhase := true } := by
  simp only [State.beginPhase, hn, phaseRecord_of_entry hn hr, State.phaseWritten, Bool.false_eq_true, if_false]

/-- What the begin of the next phase of a cycle in RUNNING does and leaves (R43, R93, R103). -/
theorem beginPhase_next (hn : (s.seq.get c).entry = some n) (hr : s.recordAt n = some r) :
    PhaseBegun s (s.beginPhase c false) c n r ∧ KeepsOthers s (s.beginPhase c false) c ∧
    (s.beginPhase c false).box c = { s.box c with
      withdrawNotices := (s.box c).withdrawNotices + if r.kind.heats = true then 0 else 1 } ∧
    (s.beginPhase c false).drive = s.drive ∧ (s.beginPhase c false).limit = s.limit := by
  obtain ⟨_, hdrive, hlimit, _⟩ := phaseWritten_frame s c n r
  have hbox := phaseWritten_box s c n r
  rw [beginPhase_following hn hr]
  refine ⟨⟨phaseWritten_link s c n r, phaseWritten_alloc s c n r, congrArg Mailbox.withdrawNotices hbox, ?_⟩,
    ((phaseWritten_keepsOthers s c n r).trans (setConvection_keepsOthers _ c _)).trans (setSeq_keepsOthers _ c _),
    hbox, hdrive, hlimit⟩
  simp [State.setConvection]

end

/-! ### The phase end -/

section
variable {s : State} {c : Cavity} {r : PhaseRecord} (reading : Option CavityReading)

/-- A phase end with a next record in the chain: phases completed and the chain position add 1, and the phase there
begins (R51). -/
theorem endPhase_next {k m : Nat} {r' : PhaseRecord} (hr : s.phaseRecord c = some r) (hnext : r.next = some k)
    (hm : (s.seq.get c).chain[(s.seq.get c).position + 1]? = some m) (hr' : s.recordAt m = some r') :
    let t := s.endPhase c reading
    t.seq = s.seq.set c { s.seq.get c with
      position := (s.seq.get c).position + 1, current := some (m, r'.kind), phaseElapsed := 0, soakProgress := 0,
      completed := (s.seq.get c).completed + 1, newPhase := true } ∧
    PhaseBegun s t c m r' ∧ KeepsOthers s t c ∧
    t.box c = { s.box c with
      withdrawNotices := (s.box c).withdrawNotices + if r'.kind.heats = true then 0 else 1 } ∧
    t.drive = s.drive ∧ t.locks = s.locks ∧ t.limit = s.limit := by
  have hend : s.endPhase c reading = (s.setSeq c { s.seq.get c with
      completed := (s.seq.get c).completed + 1, position := (s.seq.get c).position + 1 }).beginPhase c false := by
    simp only [State.endPhase, hr, hnext]
  have hentry : ((s.setSeq c { s.seq.get c with
      completed := (s.seq.get c).completed + 1, position := (s.seq.get c).position + 1 }).seq.get c).entry =
      some m := by simpa [Sequencer.entry] using hm
  obtain ⟨hbegun, hkeeps, hbox, hdrive, hlimit⟩ := beginPhase_next hentry hr'
  rw [hend]
  refine ⟨?_, hbegun, (setSeq_keepsOthers s c _).trans hkeeps, hbox, hdrive, by simp, hlimit⟩
  rw [beginPhase_seq false hentry hr']
  simp

/-- A phase end with END next ends the cycle, phases completed adding 1 (R51, R52). -/
theorem endPhase_end (hr : s.phaseRecord c = some r) (hnext : r.next = none) :
    s.endPhase c reading = (s.setSeq c { s.seq.get c with
      completed := (s.seq.get c).completed + 1 }).endCycle c .done none reading := by
  simp only [State.endPhase, hr, hnext]

end

/-! ### The heat-complete notice -/

/-- Settles O39: the notice taken, by whether it names the HEAT phase in progress and by what the record names next. -/
theorem heatCompleteEndsPhase : Obligations.HeatCompleteEndsPhase := by
  intro s c k rest hbox q
  have htaken : exec (.heatCompleteNotice c) s =
      .next ((s.setMail c { s.box c with heatComplete := rest }).heatCompleted c k) := by
    refine congrArg Host.Outcome.next ?_
    simp only [takeHeatComplete, hbox]
  have hended {n : Nat} (hstate : q.state = .running) (hcurrent : q.current = some (n, .heat))
      (hposition : q.position = k) : exec (.heatCompleteNotice c) s =
        .next ((s.setMail c { s.box c with heatComplete := rest }).endPhase c none) := by
    rw [htaken, State.heatCompleted]
    exact congrArg Host.Outcome.next (if_pos ⟨hstate, congrArg (Option.map Prod.snd) hcurrent, hposition⟩)
  have hrecord {n : Nat} {r : PhaseRecord} (hentry : q.entry = some n) (hr : s.recordAt n = some r) :
      (s.setMail c { s.box c with heatComplete := rest }).phaseRecord c = some r :=
    phaseRecord_of_entry hentry hr
  refine ⟨fun n m j r r' hstate hcurrent hposition hentry hr hnext hm hr' => ?_,
    fun n r hstate hcurrent hposition hentry hr hnext => ?_, fun hother => ?_⟩
  · obtain ⟨hseq, hbegun, hkeeps, hbox', hdrive, hlocks, hlimit⟩ := endPhase_next
      (s := s.setMail c { s.box c with heatComplete := rest }) none (hrecord hentry hr) hnext
      (hposition.symm ▸ hm : q.chain[q.position + 1]? = some m) hr'
    refine ⟨_, hended hstate hcurrent hposition, ?_, phaseBegun_congr hbegun rfl rfl rfl (by simp),
      (setMail_keepsOthers s c _).trans hkeeps, ?_, ?_, hdrive, hlocks, by simp, hlimit, by simp⟩
    · rw [hseq, ← hposition]
      rfl
    · rw [hbox', setMail_box]
    · rw [hbox', setMail_box]
  · have hend := endPhase_end (s := s.setMail c { s.box c with heatComplete := rest }) none (hrecord hentry hr) hnext
    refine ⟨_, (hended hstate hcurrent hposition).trans (congrArg Host.Outcome.next hend),
      cycleEnded_congr (endCycle_ends _ c .done none none) ⟨rfl, rfl⟩ (by simp [State.box]) rfl rfl,
      ((setMail_keepsOthers s c _).trans (setSeq_keepsOthers _ c _)).trans (endCycle_keepsOthers _ c _ _ _), ?_,
      by simp, ?_⟩
    · rw [endCycle_box, setSeq_box, setMail_box]
    · rw [endCycle_link]
      simp [State.cycleEvent, State.queueEvent, State.event, q]
  · rw [htaken, State.heatCompleted]
    refine congrArg Host.Outcome.next (if_neg ?_)
    rintro ⟨hstate, hcurrent, hposition⟩
    exact hother.elim (· hstate) (·.elim (· hcurrent) (· hposition))

/-! ### The lock notices -/

/-- Raising a cause sends a trip notice at most. -/
theorem raise_lockNotices (s : State) (c : Cavity) (k : Cause) :
    ((s.raise c k).box c).lockNotices = (s.box c).lockNotices := by
  rcases raise_cases s c k with h | ⟨_, _, h⟩ | ⟨_, r, _, h⟩ <;> rw [h]
  · obtain ⟨_, _, _, hbox⟩ := trip_parts s c k
    rw [hbox]
  · simp [State.box]

theorem closeRelay_lockNotices (s : State) (c : Cavity) :
    ((s.closeRelay c).box c).lockNotices = (s.box c).lockNotices := by
  rcases closeRelay_cases s c with h | h | ⟨_, _, _, h⟩ <;> rw [h]
  · exact raise_lockNotices s c .relayStuck
  · simp [State.sendRelayClosing, State.box]

/-- An entry into RUNNING takes no lock notice. -/
theorem beginPhase_lockNotices {s : State} {c : Cavity} {n : Nat} {r : PhaseRecord}
    (hn : (s.seq.get c).entry = some n) (hr : s.recordAt n = some r) :
    ((s.beginPhase c true).box c).lockNotices = (s.box c).lockNotices := by
  obtain ⟨_, _, _, _, hbox, _⟩ := beginPhase_entering_parts hn hr
  rw [hbox, closeRelay_lockNotices, phaseWritten_box]

/-- Settles O40: the notice taken, by the Sequencer's state. -/
theorem lockNoticeMoves : Obligations.LockNoticeMoves := by
  intro s c k rest hbox q s'
  have hq : s'.seq.get c = q := rfl
  have htaken : exec (.lockNotice c) s = .next (s'.lockNoticed c k) := by
    refine congrArg Host.Outcome.next ?_
    simp only [takeLockNotice, hbox]
    rfl
  refine ⟨fun n r hstate hk hentry hr => ?_, fun hstate hk => ?_, fun hstate hk => ?_, fun hstate => ?_,
    fun hstate => ?_⟩
  · have hentry' : ((s'.setSeq c { q with state := .running }).seq.get c).entry = some n := by
      simpa [Sequencer.entry] using hentry
    have hr' : (s'.setSeq c { q with state := .running }).recordAt n = some r := hr
    have hmail : (s'.setSeq c { q with state := .running }).box c = { s.box c with lockNotices := rest } := by
      simp [s', State.box]
    refine ⟨(s'.setSeq c { q with state := .running }).beginPhase c true, ?_, ?_,
      ((setMail_keepsOthers s c _).trans (setSeq_keepsOthers _ c _)).trans (beginPhase_keepsOthers hentry' hr'), ?_,
      by simp [s'], by simp [s'], by simp [s'], fun htrip hstuck hopen => ?_, fun hrefused => ?_⟩
    · rw [htaken, hk]
      simp only [State.lockNoticed, hq, hstate]
      rfl
    · rw [beginPhase_seq true hentry' hr']
      simp [s']
    · rw [beginPhase_lockNotices hentry' hr', hmail]
    · obtain ⟨hbegun, hclosed, hclosings, hlimit⟩ := beginPhase_fed hentry' hr' htrip hstuck hopen
      exact ⟨phaseBegun_congr hbegun rfl rfl rfl (by rw [hmail]), hclosed, by rw [hclosings, hmail], hlimit⟩
    · refine begunUnfed_congr (beginPhase_unfed hentry' hr' (by simp) hrefused) rfl rfl rfl rfl rfl ?_
      rw [hmail]
      exact ⟨rfl, rfl, rfl⟩
  · refine ⟨s'.endCycle c .aborted (some .doorOpened) none, ?_, endCycle_ends s' c _ _ none,
      (setMail_keepsOthers s c _).trans (endCycle_keepsOthers s' c _ _ none), ?_, ?_⟩
    · rw [htaken, hk]
      simp only [State.lockNoticed, hq, hstate]
    · rw [endCycle_box]
      simp [s', State.box]
    · rw [endCycle_link]
      rfl
  · rw [htaken]
    rcases hk with rfl | rfl <;> simp only [State.lockNoticed, hq, hstate]
  · rw [htaken, ← settlingTest_eq]
    rcases hstate with hstate | hstate <;> simp only [State.lockNoticed, hq, hstate]
  · rw [htaken]
    rcases hstate with hstate | hstate | hstate | hstate <;> simp only [State.lockNoticed, hq, hstate]

end Sys2Proof.Machine
end

section
/-! PROOF. The cavity readings that the Sequencer takes (R44 to R50, R54 to R57): the counts, the phase's test and
limit, the request, and the release of the lock outside RUNNING. -/

namespace Sys2Proof.Machine

/-! ### The terms of a reading -/

theorem usable_eq (g : ChannelState) : g.usable = decide (g = .valid ∨ g = .suspect) := by cases g <;> rfl

/-- The soak progress of a record with a target, by the soak band (R47). -/
theorem soakAfter_of_target {r : PhaseRecord} {target : Int} (h : r.target = some target) (progress band : Nat)
    (x : CavityReading) : soakAfter progress r band x =
      if x.tfMeets (fun tf => decide (target - band ≤ tf)) then progress + 1 else progress := by
  simp [soakAfter, h]

/-- The Sequencer after a reading in RUNNING has counted, neither elapsed count at its end (R45, R47). -/
def Sequencer.counted (q : Sequencer) (r : PhaseRecord) (soakBand : Nat) (x : CavityReading) : Sequencer :=
  { q with
    phaseElapsed := q.phaseElapsed + 1
    cycleElapsed := q.cycleElapsed + 1
    soakProgress := if r.kind = .soak then soakAfter q.soakProgress r soakBand x else q.soakProgress }

theorem progress_eq (q : Sequencer) (r : PhaseRecord) (soakBand : Nat) (x : CavityReading) :
    q.progress r soakBand x = { q with
      soakProgress := if r.kind = .soak then soakAfter q.soakProgress r soakBand x else q.soakProgress } := by
  cases hkind : r.kind <;> simp [Sequencer.progress, hkind]

section
variable (q : Sequencer) (r : PhaseRecord) (soakBand : Nat) (x : CavityReading)

/-- The test of each kind: none for HEAT, the target for COOL, the duration for DWELL and SOAK (R46 to R49). -/
theorem counted_phaseOver_iff : (q.counted r soakBand x).phaseOver r x = true ↔
    (r.kind = .cool ∧ x.tfMeets (fun tf => decide (tf ≤ r.target.getD 0)) = true) ∨
    (r.kind = .dwell ∧ r.duration = some (q.phaseElapsed + 1)) ∨
    (r.kind = .soak ∧ r.duration = some (soakAfter q.soakProgress r soakBand x)) := by
  cases hkind : r.kind <;> simp [Sequencer.phaseOver, Sequencer.counted, hkind]

/-- The limit in seconds (R50). -/
theorem counted_limitOut_iff : (q.counted r soakBand x).limitOut r = true ↔
    ∃ m, r.limit = some m ∧ q.phaseElapsed + 1 = 60 * m := by
  cases hlimit : r.limit with
  | none => simp [Sequencer.limitOut, hlimit]
  | some m =>
    simp only [Sequencer.limitOut, hlimit, decide_eq_true_eq, Option.some.injEq, exists_eq_left', Nat.mul_comm 60]
    rfl

end

/-- The request that a reading posts for a phase in progress (R44). -/
def PhaseRecord.request (r : PhaseRecord) (q : Sequencer) (x : CavityReading) : RegRequest :=
  { mode := if r.kind.heats then .regulate else .off
    kind := some r.kind
    position := q.position
    newPhase := q.newPhase
    target := if r.kind.heats then r.target else none
    ramp := if r.kind = .heat then r.ramp else none
    tf := if x.probe.usable then x.probeTf else none
    probe := x.probe
    catalyst := x.catalyst
    catalystTf := if x.catalyst.usable then x.catalystTf else none
    gate := r.gate }

/-- Of the kinds other than SOAK, HEAT alone heats. -/
theorem heats_of_ne_soak {k : PhaseKind} (h : k ≠ .soak) : k.heats = decide (k = .heat) := by
  cases k <;> simp_all [PhaseKind.heats]

/-! ### The request of a reading -/

/-- The request that closes the taking of a reading in RUNNING (R44). -/
def State.requestInRunning (s : State) (c : Cavity) (x : CavityReading) : State :=
  if (s.seq.get c).state = .running then s.postRequest c (s.seq.get c).mode (some x) else s

section
variable {s : State} {c : Cavity} {n : Nat} {r : PhaseRecord}

theorem mode_of_current {q : Sequencer} (h : q.current = some (n, r.kind)) :
    q.mode = if r.kind.heats then .regulate else .off := by
  simp [Sequencer.mode, h]

/-- The posted request, by the record of the phase in progress (R44). -/
theorem regRequest_eq (hcurrent : (s.seq.get c).current = some (n, r.kind)) (hrecord : s.phaseRecord c = some r)
    (x : CavityReading) :
    s.regRequest c (s.seq.get c).mode (some x) = r.request (s.seq.get c) x := by
  simp [State.regRequest, PhaseRecord.request, mode_of_current hcurrent, hcurrent, hrecord]

theorem postRequest_box (mode : RegMode) (reading : Option CavityReading) : (s.postRequest c mode reading).box c =
    { s.box c with regulation := (s.box c).regulation ++ [s.regRequest c mode reading] } := by
  simp [State.postRequest, State.postRegulation]

end

/-! ### A reading in RUNNING -/

/-- Time is counted below the ends of both counts (R45). -/
theorem countTime_eq {s : State} {c : Cavity} (hphase : (s.seq.get c).phaseElapsed < 65535)
    (hcycle : (s.seq.get c).cycleElapsed + 1 < 2 ^ 32) : s.countTime c = s.setSeq c { s.seq.get c with
      phaseElapsed := (s.seq.get c).phaseElapsed + 1, cycleElapsed := (s.seq.get c).cycleElapsed + 1 } := by
  have hspend : s.spendCount (s.seq.get c).cycleElapsed = s := if_pos hcycle
  have hnext : s.nextCount (s.seq.get c).cycleElapsed = (s.seq.get c).cycleElapsed + 1 := if_pos hcycle
  have hheld : addHeld (s.seq.get c).phaseElapsed = (s.seq.get c).phaseElapsed + 1 := if_pos hphase
  simp only [State.countTime, hspend, hnext, hheld]

theorem setSeq_setSeq (s : State) (c : Cavity) (a b : Sequencer) : (s.setSeq c a).setSeq c b = s.setSeq c b := by
  simp [State.setSeq]

/-- The counts and the tests of a reading in RUNNING on a record that stands (R45). -/
theorem phaseTests_countTime {s : State} {c : Cavity} {r : PhaseRecord} (hphase : (s.seq.get c).phaseElapsed < 65535)
    (hcycle : (s.seq.get c).cycleElapsed + 1 < 2 ^ 32) (hr : s.phaseRecord c = some r) (x : CavityReading) :
    (s.countTime c).phaseTests c x =
      let q := (s.seq.get c).counted r (s.profiles.get c).soakBand x
      let s₁ := s.setSeq c q
      if q.phaseOver r x then s₁.endPhase c (some x) else if q.limitOut r then s₁.limitReached c r x else s₁ := by
  have hrecord : (s.countTime c).phaseRecord c = some r := by
    rw [countTime_eq hphase hcycle, ← hr]
    simp only [State.phaseRecord, State.setSeq_seq, PerCavity.get_set, if_true]
    rfl
  have hcounted : ((s.countTime c).seq.get c).progress r ((s.countTime c).profiles.get c).soakBand x =
      (s.seq.get c).counted r (s.profiles.get c).soakBand x := by
    rw [countTime_eq hphase hcycle, progress_eq]
    simp [Sequencer.counted]
  have hset (q : Sequencer) : (s.countTime c).setSeq c q = s.setSeq c q := by
    rw [countTime_eq hphase hcycle, setSeq_setSeq]
  simp only [State.phaseTests, hrecord, hcounted, hset]

/-- A cavity in RUNNING takes a reading in a phase whose record stands, neither elapsed count at its end. -/
structure ReadsPhase (s : State) (c : Cavity) (x : CavityReading) (rest : List CavityReading) (n : Nat)
    (r : PhaseRecord) : Prop where
  reading : (s.box c).sequencerReadings = x :: rest
  running : (s.seq.get c).state = .running
  entry : (s.seq.get c).entry = some n
  record : s.recordAt n = some r
  current : (s.seq.get c).current = some (n, r.kind)
  phase : (s.seq.get c).phaseElapsed < 65535
  cycle : (s.seq.get c).cycleElapsed + 1 < 2 ^ 32

/-- The reading taken and counted, its tests not yet made (R45, R47). -/
def State.readingCounted (s : State) (c : Cavity) (x : CavityReading) (rest : List CavityReading) (r : PhaseRecord) :
    State :=
  (s.setMail c { s.box c with sequencerReadings := rest }).setSeq c
    ((s.seq.get c).counted r (s.profiles.get c).soakBand x)

section
variable (s : State) (c : Cavity) (x : CavityReading) (rest : List CavityReading) (r : PhaseRecord)

theorem readingCounted_keepsOthers : KeepsOthers s (s.readingCounted c x rest r) c :=
  (setMail_keepsOthers s c _).trans (setSeq_keepsOthers _ c _)

theorem readingCounted_seq :
    (s.readingCounted c x rest r).seq.get c = (s.seq.get c).counted r (s.profiles.get c).soakBand x := by
  simp [State.readingCounted]

theorem readingCounted_box : (s.readingCounted c x rest r).box c = { s.box c with sequencerReadings := rest } := by
  simp [State.readingCounted]

end

section
variable {s : State} {c : Cavity} {x : CavityReading} {rest : List CavityReading} {n : Nat} {r : PhaseRecord}

theorem ReadsPhase.counted_entry (h : ReadsPhase s c x rest n r) :
    ((s.readingCounted c x rest r).seq.get c).entry = some n := by
  rw [readingCounted_seq]
  exact h.entry

theorem ReadsPhase.counted_phaseRecord (h : ReadsPhase s c x rest n r) :
    (s.readingCounted c x rest r).phaseRecord c = some r :=
  phaseRecord_of_entry h.counted_entry h.record

/-- A reading taken in RUNNING: the counts, then the phase's own test, then its limit, then the request (R45). -/
theorem ReadsPhase.exec_eq (h : ReadsPhase s c x rest n r) :
    exec (.sequencerCavityReading c) s = .next
      (let q := (s.seq.get c).counted r (s.profiles.get c).soakBand x
       let s₁ := s.readingCounted c x rest r
       (if q.phaseOver r x then s₁.endPhase c (some x) else if q.limitOut r then s₁.limitReached c r x
        else s₁).requestInRunning c x) := by
  have htests := phaseTests_countTime (s := s.setMail c { s.box c with sequencerReadings := rest }) h.phase h.cycle
    (phaseRecord_of_entry h.entry h.record) x
  have hstate : (s.setMail c { s.box c with sequencerReadings := rest }).sequenceReading c x =
      (((s.setMail c { s.box c with sequencerReadings := rest }).countTime c).phaseTests c x).requestInRunning c x := by
    simp only [State.sequenceReading, State.setMail_seq, h.running]
    rfl
  refine congrArg Host.Outcome.next ?_
  simp only [takeSequencerReading, h.reading]
  rw [hstate, htests]
  rfl

theorem ReadsPhase.exec_over (h : ReadsPhase s c x rest n r)
    (hover : ((s.seq.get c).counted r (s.profiles.get c).soakBand x).phaseOver r x = true) :
    exec (.sequencerCavityReading c) s =
      .next (((s.readingCounted c x rest r).endPhase c (some x)).requestInRunning c x) := by
  simp only [h.exec_eq, hover, if_true]

theorem ReadsPhase.exec_limit (h : ReadsPhase s c x rest n r)
    (hover : ((s.seq.get c).counted r (s.profiles.get c).soakBand x).phaseOver r x = false)
    (hlimit : ((s.seq.get c).counted r (s.profiles.get c).soakBand x).limitOut r = true) :
    exec (.sequencerCavityReading c) s =
      .next (((s.readingCounted c x rest r).limitReached c r x).requestInRunning c x) := by
  simp only [h.exec_eq, hover, hlimit, Bool.false_eq_true, if_false, if_true]

/-- A reading that neither meets the phase's test nor reaches its limit counts and posts the request, and changes
nothing else (R44, R45). -/
theorem ReadsPhase.exec_counts (h : ReadsPhase s c x rest n r)
    (hover : ((s.seq.get c).counted r (s.profiles.get c).soakBand x).phaseOver r x = false)
    (hlimit : ((s.seq.get c).counted r (s.profiles.get c).soakBand x).limitOut r = false) :
    exec (.sequencerCavityReading c) s = .next { s with
      seq := s.seq.set c { (s.seq.get c).counted r (s.profiles.get c).soakBand x with newPhase := false }
      mail := { s.mail with cavity := s.mail.cavity.set c { s.box c with
        sequencerReadings := rest
        regulation := (s.box c).regulation ++ [r.request (s.seq.get c) x] } } } := by
  have hseq := readingCounted_seq s c x rest r
  have hposts : (s.readingCounted c x rest r).requestInRunning c x =
      (s.readingCounted c x rest r).postRequest c ((s.readingCounted c x rest r).seq.get c).mode (some x) :=
    if_pos (hseq ▸ h.running)
  have hrequest : (s.readingCounted c x rest r).regRequest c ((s.readingCounted c x rest r).seq.get c).mode (some x) =
      r.request (s.seq.get c) x := by
    rw [regRequest_eq (n := n) (by rw [hseq]; exact h.current) h.counted_phaseRecord, hseq]
    rfl
  simp only [h.exec_eq, hover, hlimit, Bool.false_eq_true, if_false]
  rw [hposts, State.postRequest, hrequest, hseq, State.postRegulation, readingCounted_box]
  simp [State.setMail, State.setSeq, State.readingCounted]

end

/-! ### The end of a phase at a reading -/

section
variable {s : State} {c : Cavity} {x : CavityReading} {rest : List CavityReading} {n : Nat} {r : PhaseRecord}

/-- PHASE_TIMEOUT joins the queue when the limit runs out (R50). -/
def State.timeoutQueued (s : State) (c : Cavity) (n severity : Nat) : Link :=
  s.link.enqueue (s.event .phaseTimeout (some c) severity (some n) false)

theorem limitReached_advance (hentry : (s.seq.get c).entry = some n) (hlimit : r.onLimit = .advance) :
    s.limitReached c r x = (s.setLink (s.timeoutQueued c n 1)).endPhase c (some x) := by
  simp only [State.limitReached, hlimit, hentry]
  rfl

theorem limitReached_abort (hentry : (s.seq.get c).entry = some n) (hlimit : r.onLimit = .abort) :
    s.limitReached c r x =
      (s.setLink (s.timeoutQueued c n 2)).endCycle c .aborted (some .phaseTimeout) (some x) := by
  simp only [State.limitReached, hlimit, hentry]
  rfl

theorem settledState_ne_running (lock : LockState) (owned : Bool) (outcome : CycleOutcome) :
    settledState lock owned .settling outcome ≠ .running := by
  unfold settledState
  split
  case h_5 => split <;> simp
  all_goals simp

/-- A cycle that has ended is out of RUNNING, so that its reading posts no further request (R45, R54). -/
theorem requestInRunning_endCycle (s : State) (outcome : CycleOutcome) (reason : Option AbortReason) :
    (s.endCycle c outcome reason (some x)).requestInRunning c x = s.endCycle c outcome reason (some x) := by
  obtain ⟨_, _, _, hstate, _⟩ := endCycle_ends s c outcome reason (some x)
  exact if_neg (hstate ▸ settledState_ne_running _ _ outcome)

/-- The request of a reading that began a phase carries the new-phase mark and the new chain position (R44, R45). -/
theorem requestInRunning_begun {s' u : State} {q : Sequencer} {m : Nat} {r' : PhaseRecord}
    (hseq : u.seq = s.seq.set c q) (hrunning : q.state = .running) (hcurrent : q.current = some (m, r'.kind))
    (hbegun : PhaseBegun s' u c m r')
    (x : CavityReading) :
    (u.requestInRunning c x).seq = s.seq.set c { q with newPhase := false } ∧
    PhaseBegun s' (u.requestInRunning c x) c m r' ∧ KeepsOthers u (u.requestInRunning c x) c ∧
    (∃ g : RegRequest, (u.requestInRunning c x).box c = { u.box c with regulation := (u.box c).regulation ++ [g] } ∧
      g.newPhase = q.newPhase ∧ g.position = q.position ∧
      g.mode = if r'.kind.heats = true then .regulate else .off) ∧
    (u.requestInRunning c x).drive = u.drive ∧ (u.requestInRunning c x).locks = u.locks ∧
    (u.requestInRunning c x).limit = u.limit ∧ (u.requestInRunning c x).reg = u.reg ∧
    (u.requestInRunning c x).table = u.table := by
  have hq : u.seq.get c = q := by simp [hseq]
  have hposts : u.requestInRunning c x = u.postRequest c q.mode (some x) := by
    simp only [State.requestInRunning, hq, hrunning, if_true]
  obtain ⟨hlink, halloc, hnotices, hconvection⟩ := hbegun
  rw [hposts]
  refine ⟨?_, ⟨hlink, halloc, ?_, hconvection⟩, postRequest_keepsOthers u c _ _,
    ⟨u.regRequest c q.mode (some x), postRequest_box _ _, ?_, ?_, mode_of_current hcurrent⟩, rfl, rfl, rfl, rfl, rfl⟩
  · simp [State.postRequest, hseq]
  · rw [postRequest_box, ← hnotices]
  · exact congrArg Sequencer.newPhase hq
  · exact congrArg Sequencer.position hq

/-- A reading ends the phase and the next one begins, the queue being `l` at the phase end (R51). -/
theorem ReadsPhase.begins_next (h : ReadsPhase s c x rest n r) (l : Link) {k m : Nat} {r' : PhaseRecord}
    (hnext : r.next = some k) (hm : (s.seq.get c).chain[(s.seq.get c).position + 1]? = some m)
    (hr' : s.recordAt m = some r') :
    let t := (((s.readingCounted c x rest r).setLink l).endPhase c (some x)).requestInRunning c x
    t.seq = s.seq.set c { s.seq.get c with
      position := (s.seq.get c).position + 1, current := some (m, r'.kind), phaseElapsed := 0, soakProgress := 0,
      cycleElapsed := (s.seq.get c).cycleElapsed + 1, completed := (s.seq.get c).completed + 1, newPhase := false } ∧
    PhaseBegun { s with link := l } t c m r' ∧ KeepsOthers s t c ∧ (t.box c).sequencerReadings = rest ∧
    (∃ g : RegRequest, (t.box c).regulation = (s.box c).regulation ++ [g] ∧ g.newPhase = true ∧
      g.position = (s.seq.get c).position + 1 ∧ g.mode = (if r'.kind.heats = true then .regulate else .off)) ∧
    t.drive = s.drive ∧ t.locks = s.locks ∧ t.reg = s.reg ∧ t.limit = s.limit ∧ t.table = s.table := by
  intro t
  have hcounted : ((s.readingCounted c x rest r).setLink l).seq.get c =
    (s.seq.get c).counted r (s.profiles.get c).soakBand x :=
    readingCounted_seq s c x rest r
  obtain ⟨hseq, hbegun, hkeeps, hbox, hdrive, hlocks, hlimit⟩ :=
    endPhase_next (s := (s.readingCounted c x rest r).setLink l) (some x) h.counted_phaseRecord hnext
      (by rw [hcounted]; exact hm) hr'
  have hseq' : (((s.readingCounted c x rest r).setLink l).endPhase c (some x)).seq = s.seq.set c { s.seq.get c with
      position := (s.seq.get c).position + 1, current := some (m, r'.kind), phaseElapsed := 0, soakProgress := 0,
      cycleElapsed := (s.seq.get c).cycleElapsed + 1, completed := (s.seq.get c).completed + 1, newPhase := true } := by
    rw [hseq, hcounted]
    exact PerCavity.set_set _ _ _ _
  have hmail : ((s.readingCounted c x rest r).setLink l).box c = { s.box c with sequencerReadings := rest } :=
    readingCounted_box s c x rest r
  obtain ⟨hseq'', hbegun', hkeeps', ⟨g, hg, hnew, hposition, hmode⟩, hdrive', hlocks', hlimit', hreg, htable⟩ :=
    requestInRunning_begun hseq' h.running rfl hbegun x
  rw [hbox, hmail] at hg
  refine ⟨hseq'', phaseBegun_congr hbegun' rfl rfl rfl (by rw [hmail]; rfl),
    (((readingCounted_keepsOthers s c x rest r).trans (setLink_keepsOthers _ c l)).trans hkeeps).trans hkeeps', ?_,
    ⟨g, ?_, hnew, hposition, hmode⟩, hdrive'.trans hdrive, hlocks'.trans hlocks, hreg.trans ?_, hlimit'.trans hlimit,
    htable.trans ?_⟩
  · rw [hg]
  · rw [hg]
  · simp [State.readingCounted]
  · simp [State.readingCounted]

end

section
variable (s : State) (c : Cavity) (x : CavityReading) (rest : List CavityReading) (r : PhaseRecord)

/-- A reading ends the cycle, its Sequencer being `q` and the queue `l` at the cycle end (R50 to R52). -/
theorem readingCounted_endCycle (l : Link) (q : Sequencer) (outcome : CycleOutcome) (reason : Option AbortReason) :
    let u := ((s.readingCounted c x rest r).setLink l).setSeq c q
    let t := (u.endCycle c outcome reason (some x)).requestInRunning c x
    CycleEnded { s with seq := s.seq.set c q } t c outcome reason ∧ KeepsOthers s t c ∧
    (t.box c).sequencerReadings = rest ∧ t.reg = s.reg ∧ t.link = (u.cycleEvent c outcome reason).link := by
  intro u t
  have hu : t = u.endCycle c outcome reason (some x) := requestInRunning_endCycle u outcome reason
  have hmail : u.box c = { s.box c with sequencerReadings := rest } := readingCounted_box s c x rest r
  have hseq : u.seq.get c = (s.seq.set c q).get c := by simp [u]
  rw [hu]
  refine ⟨cycleEnded_congr (endCycle_ends u c outcome reason (some x)) ⟨hseq.symm, rfl⟩ ?_ rfl rfl,
    (((readingCounted_keepsOthers s c x rest r).trans (setLink_keepsOthers _ c l)).trans
      (setSeq_keepsOthers _ c q)).trans (endCycle_keepsOthers u c outcome reason (some x)), ?_, ?_,
    endCycle_link u c outcome reason (some x)⟩
  · rw [hmail]
    exact ⟨rfl, rfl⟩
  · rw [endCycle_box, hmail]
  · simp [u, State.readingCounted]

/-- A reading ends the cycle at its limit, the queue being `l` at the cycle end (R50, R52). -/
theorem readingCounted_aborts (l : Link) :
    let t := (((s.readingCounted c x rest r).setLink l).endCycle c .aborted (some .phaseTimeout)
      (some x)).requestInRunning c x
    CycleEnded { s with seq := s.seq.set c ((s.seq.get c).counted r (s.profiles.get c).soakBand x) } t c .aborted
      (some .phaseTimeout) ∧
    KeepsOthers s t c ∧ (t.box c).sequencerReadings = rest ∧ t.reg = s.reg ∧
    t.link = l.enqueue (s.event .cycleAborted (some c) 2 (some 2) false) := by
  have hset : ((s.readingCounted c x rest r).setLink l).setSeq c
      ((s.seq.get c).counted r (s.profiles.get c).soakBand x) = (s.readingCounted c x rest r).setLink l :=
    congrArg (·.setLink l) (setSeq_setSeq _ c _ _)
  have hends := readingCounted_endCycle s c x rest r l
    ((s.seq.get c).counted r (s.profiles.get c).soakBand x) .aborted (some .phaseTimeout)
  rw [hset] at hends
  exact hends

end

/-- A reading ends the phase with END next, and so the cycle, the queue being `l` at the phase end (R51, R52). -/
theorem ReadsPhase.ends_done {s : State} {c : Cavity} {x : CavityReading} {rest : List CavityReading} {n : Nat}
    {r : PhaseRecord} (h : ReadsPhase s c x rest n r) (l : Link) (hnext : r.next = none) :
    let t := (((s.readingCounted c x rest r).setLink l).endPhase c (some x)).requestInRunning c x
    CycleEnded { s with seq := s.seq.set c { (s.seq.get c).counted r (s.profiles.get c).soakBand x with
      completed := (s.seq.get c).completed + 1 } } t c .done none ∧
    KeepsOthers s t c ∧ (t.box c).sequencerReadings = rest ∧
    t.link = l.enqueue (s.event .cycleDone (some c) 1 (some ((s.seq.get c).completed + 1)) false) ∧ t.reg = s.reg := by
  have hseq : ((s.readingCounted c x rest r).setLink l).seq.get c =
      (s.seq.get c).counted r (s.profiles.get c).soakBand x := readingCounted_seq s c x rest r
  have hend := endPhase_end (s := (s.readingCounted c x rest r).setLink l) (some x) h.counted_phaseRecord hnext
  obtain ⟨hends, hkeeps, hmail, hreg, hlink⟩ := readingCounted_endCycle s c x rest r l
    { (s.seq.get c).counted r (s.profiles.get c).soakBand x with completed := (s.seq.get c).completed + 1 } .done none
  rw [hend, hseq]
  refine ⟨hends, hkeeps, hmail, hlink.trans ?_, hreg⟩
  simp [State.cycleEvent, State.queueEvent, State.event, State.readingCounted]

/-! ### The readings in RUNNING settled -/

/-- Settles O36: a reading in SOAK that meets neither the phase's test nor its limit. -/
theorem soakReadingCounts : Obligations.SoakReadingCounts := by
  intro s c x rest n d r target hreading hrunning hentry hr hcurrent hkind htarget hduration hphase hcycle hlimit q
    usable near catalystUsable progress hprogress
  have h : ReadsPhase s c x rest n r := ⟨hreading, hrunning, hentry, hr, hkind ▸ hcurrent, hphase, hcycle⟩
  have hsoaked : soakAfter q.soakProgress r (s.profiles.get c).soakBand x = progress := by
    rw [soakAfter_of_target htarget, CavityReading.tfMeets, usable_eq]
  have hover : (q.counted r (s.profiles.get c).soakBand x).phaseOver r x = false := by
    rw [← Bool.not_eq_true, counted_phaseOver_iff, hsoaked]
    simp [hkind, hduration, Ne.symm hprogress]
  have hout : (q.counted r (s.profiles.get c).soakBand x).limitOut r = false := by
    rw [← Bool.not_eq_true, counted_limitOut_iff]
    rintro ⟨m, hm, hends⟩
    exact hlimit m hm hends
  have hcounted : q.counted r (s.profiles.get c).soakBand x = { q with
      phaseElapsed := q.phaseElapsed + 1, cycleElapsed := q.cycleElapsed + 1, soakProgress := progress } := by
    rw [Sequencer.counted, if_pos hkind, hsoaked]
  rw [h.exec_counts hover hout, hcounted]
  simp [PhaseRecord.request, hkind, htarget, PhaseKind.heats, usable_eq, q, usable, catalystUsable]

/-- Settles O37: the phase's own test, then its limit, and the end of the phase or of the cycle at either. -/
theorem readingEndsPhase : Obligations.ReadingEndsPhase := by
  intro s c x rest n r hreading hrunning hentry hr hcurrent hphase hcycle q usable catalystUsable cooledTo near soaked
    met unmet runsOut progress counted ended phaseEnds
  have h : ReadsPhase s c x rest n r := ⟨hreading, hrunning, hentry, hr, hcurrent, hphase, hcycle⟩
  have hcooled {target : Int} (ht : r.target = some target) :
      x.tfMeets (fun tf => decide (tf ≤ r.target.getD 0)) = cooledTo target := by
    rw [ht, CavityReading.tfMeets, usable_eq]
    rfl
  have hsoaked {target : Int} (ht : r.target = some target) :
      soakAfter q.soakProgress r (s.profiles.get c).soakBand x = soaked target := by
    rw [soakAfter_of_target ht, CavityReading.tfMeets, usable_eq]
  have hover_met (hmet : met) : (q.counted r (s.profiles.get c).soakBand x).phaseOver r x = true := by
    rw [counted_phaseOver_iff]
    rcases hmet with ⟨hkind, target, ht, hmeets⟩ | hdwell | ⟨hkind, target, ht, hfills⟩
    · exact .inl ⟨hkind, (hcooled ht).trans hmeets⟩
    · exact .inr (.inl hdwell)
    · exact .inr (.inr ⟨hkind, hsoaked ht ▸ hfills⟩)
  have hover_unmet (hunmet : unmet) : (q.counted r (s.profiles.get c).soakBand x).phaseOver r x = false := by
    rw [← Bool.not_eq_true, counted_phaseOver_iff]
    rcases hunmet with hkind | ⟨hkind, target, ht, hmisses⟩ | ⟨hkind, hlasts⟩ | ⟨hkind, target, ht, hlacks⟩
    · simp [hkind]
    · simp [hkind, hcooled ht, hmisses]
    · simp [hkind, hlasts]
    · simp [hkind, hsoaked ht, hlacks]
  have hlimit : (q.counted r (s.profiles.get c).soakBand x).limitOut r = true ↔ runsOut := counted_limitOut_iff q r _ x
  have hsoakTarget (hknown : met ∨ unmet) (hkind : r.kind = .soak) : ∃ target, r.target = some target := by
    rcases hknown with (⟨hk, _⟩ | ⟨hk, _⟩ | ⟨_, target, ht, _⟩) | (hk | ⟨hk, _⟩ | ⟨hk, _⟩ | ⟨_, target, ht, _⟩)
    case inl.inr.inr | inr.inr.inr.inr => exact ⟨target, ht⟩
    all_goals cases hkind.symm.trans hk
  have hprogress (hknown : met ∨ unmet) : q.counted r (s.profiles.get c).soakBand x = counted := by
    have hgrown : (if r.kind = .soak then soakAfter q.soakProgress r (s.profiles.get c).soakBand x
        else q.soakProgress) = progress := by
      cases hkind : r.kind with
      | soak =>
        obtain ⟨target, ht⟩ := hsoakTarget hknown hkind
        simp only [progress, hkind, ht, if_true, hsoaked ht]
      | heat | cool | dwell => simp [progress, hkind]
    rw [Sequencer.counted, hgrown]
  have hended (l : Link) (hknown : met ∨ unmet) (hexec : exec (.sequencerCavityReading c) s =
      .next ((((s.readingCounted c x rest r).setLink l).endPhase c (some x)).requestInRunning c x)) : phaseEnds l := by
    refine ⟨fun k m r' hnext hm hr' => ⟨_, hexec, h.begins_next l hnext hm hr'⟩, fun hnext => ?_⟩
    obtain ⟨hends, hkeeps, hmail, hlink, hreg⟩ := h.ends_done l hnext
    rw [hprogress hknown] at hends
    exact ⟨_, hexec, hends, hkeeps, hmail, hlink, hreg⟩
  refine ⟨fun hmet => hended s.link (.inl hmet) (h.exec_over (hover_met hmet)), fun hunmet hruns hadvance => ?_,
    fun hunmet hruns habort => ?_, fun hkind hunmet hlasts => ?_⟩
  · refine hended _ (.inr hunmet) ?_
    rw [h.exec_limit (hover_unmet hunmet) (hlimit.mpr hruns), limitReached_advance h.counted_entry hadvance]
    rfl
  · obtain ⟨hends, hkeeps, hmail, hreg, hlink⟩ := readingCounted_aborts s c x rest r
      ((s.readingCounted c x rest r).timeoutQueued c n 2)
    rw [hprogress (.inr hunmet)] at hends
    refine ⟨_, ?_, hends, hkeeps, hmail, hreg, hlink⟩
    rw [h.exec_limit (hover_unmet hunmet) (hlimit.mpr hruns), limitReached_abort h.counted_entry habort]
  · rw [h.exec_counts (hover_unmet hunmet) (Bool.not_eq_true _ ▸ hlimit.not.mpr hlasts), hprogress (.inr hunmet)]
    simp [PhaseRecord.request, heats_of_ne_soak hkind, usable_eq, q, usable, catalystUsable]

end Sys2Proof.Machine
end

section
/-! PROOF. The cavity readings outside RUNNING (R54 to R57, R61, R131, R132): the blind-cool count, the release
permission and the settling test. -/

namespace Sys2Proof.Machine

/-! ### The count and the permission -/

theorem setSeq_get (s : State) (c : Cavity) : s.setSeq c (s.seq.get c) = s := by simp [State.setSeq]

/-- The blind-cool count after a reading (R56). -/
def Sequencer.blindAfter (q : Sequencer) (x : CavityReading) : Nat :=
  min 65535 (q.blindCool + if x.probe = .unknown ∨ x.probe = .fault then 1 else 0)

/-- An unusable probe adds to the blind-cool count, which holds at 65535 (R36, R56). -/
theorem countBlind_eq {s : State} {c : Cavity} (hblind : (s.seq.get c).blindCool ≤ 65535) (x : CavityReading) :
    s.countBlind c x = s.setSeq c { s.seq.get c with blindCool := (s.seq.get c).blindAfter x } := by
  have hheld : addHeld (s.seq.get c).blindCool = min 65535 ((s.seq.get c).blindCool + 1) := by
    unfold addHeld
    split <;> omega
  cases hprobe : x.probe with
  | valid | suspect =>
    have hsame : (s.seq.get c).blindAfter x = (s.seq.get c).blindCool := by
      simp [Sequencer.blindAfter, hprobe, hblind]
    rw [hsame]
    simp only [State.countBlind, hprobe, ChannelState.usable, if_true]
    exact (setSeq_get s c).symm
  | unknown | fault => simp [State.countBlind, Sequencer.blindAfter, hprobe, ChannelState.usable, hheld]

/-- The reading shows the cavity cool, or the cavity has cooled blind for long enough (R131). -/
def CoolOrBlind (s : State) (c : Cavity) (x : CavityReading) : Prop :=
  (x.probe = .valid ∧ ∃ tf, x.probeTf = some tf ∧ tf ≤ (s.profiles.get c).releaseThreshold) ∨
    blindCoolLimit ≤ (s.seq.get c).blindCool

theorem coolAt_iff (x : CavityReading) (threshold : Nat) :
    x.coolAt threshold = true ↔ x.probe = .valid ∧ ∃ tf, x.probeTf = some tf ∧ tf ≤ threshold := by
  cases hprobe : x.probe <;> cases htf : x.probeTf <;> simp [CavityReading.coolAt, hprobe, htf]

/-- The release permission in SETTLING and RECOVERING (R131). -/
theorem permissionOn_iff {s : State} {c : Cavity}
    (hstate : (s.seq.get c).state = .settling ∨ (s.seq.get c).state = .recovering) (x : CavityReading) :
    s.permissionOn c (some x) = true ↔ CoolOrBlind s c x := by
  have hother : (s.seq.get c).state ≠ .locking ∧ (s.seq.get c).state ≠ .running := by
    rcases hstate with h | h <;> simp [h]
  simp [State.permissionOn, CoolOrBlind, coolAt_iff, hother]

/-! ### The release order and the settling test -/

section
variable {s : State} {c : Cavity} {x : CavityReading}

/-- A lock that travels keeps the Sequencer waiting, as a LOCKED one does that it owns (R54). -/
theorem settlingTest_waits (h : (s.locks.get c).state = .releasing ∨
    ((s.locks.get c).state = .locked ∧ (s.seq.get c).lockOwned = true)) : s.settlingTest c = s := by
  rw [settlingTest_eq]
  exact if_pos (.inr h)

/-- The release is ordered with the permission, and the Sequencer waits on the travel (R55). -/
theorem releaseTest_cool (hlock : (s.seq.get c).lockOwned = true ∧ (s.locks.get c).state = .locked)
    (hpermission : s.permissionOn c (some x) = true) :
    (s.releaseTest c x).settlingTest c = s.orderRelease c := by
  obtain ⟨howned, hlocked⟩ := hlock
  have hrelease : s.releaseTest c x = s.orderRelease c := if_pos ⟨howned, hlocked, hpermission⟩
  rw [hrelease]
  exact settlingTest_waits (.inl (by simp [State.orderRelease, DoorLock.release]))

/-- Without the permission the Sequencer waits on its LOCKED lock (R55). -/
theorem releaseTest_hot (hlock : (s.seq.get c).lockOwned = true ∧ (s.locks.get c).state = .locked)
    (hpermission : ¬ s.permissionOn c (some x) = true) : (s.releaseTest c x).settlingTest c = s := by
  obtain ⟨howned, hlocked⟩ := hlock
  have hrelease : s.releaseTest c x = s := if_neg fun ⟨_, _, hcool⟩ => hpermission hcool
  rw [hrelease]
  exact settlingTest_waits (.inr ⟨hlocked, howned⟩)

/-- With any other lock, or one it does not own, the settling test follows at once (R54). -/
theorem releaseTest_other (hlock : ¬ ((s.seq.get c).lockOwned = true ∧ (s.locks.get c).state = .locked)) :
    (s.releaseTest c x).settlingTest c = s.settledFrom c := by
  have hrelease : s.releaseTest c x = s := if_neg fun ⟨howned, hlocked, _⟩ => hlock ⟨howned, hlocked⟩
  rw [hrelease, settlingTest_eq]

end

/-- Settles O38: the reading taken, by the Sequencer's state and by what its lock waits on. -/
theorem releaseOnlyWhenCool : Obligations.ReleaseOnlyWhenCool := by
  intro s c x rest hreading hblind q count cool taken s' settles holds
  have htaken : exec (.sequencerCavityReading c) s = .next (taken.sequenceReading c x) := by
    refine congrArg Host.Outcome.next ?_
    simp only [takeSequencerReading, hreading]
    rfl
  have hq : taken.seq.get c = q := rfl
  have hcount : taken.countBlind c x = s' := countBlind_eq (s := taken) hblind x
  have hseq : s'.seq.get c = { q with blindCool := count } := by simp [s']
  have hsettles (h : settles) :
      exec (.sequencerCavityReading c) s = .next ((s'.releaseTest c x).settlingTest c) := by
    rw [htaken, ← hcount]
    rcases h with h | h <;> simp only [State.sequenceReading, hq, h, State.settlingReading]
  have hpermission (h : settles) : s'.permissionOn c (some x) = true ↔ cool := by
    rw [permissionOn_iff (hseq ▸ h), CoolOrBlind, hseq]
    exact Iff.rfl
  have hholds : holds ↔ (s'.seq.get c).lockOwned = true ∧ (s'.locks.get c).state = .locked := by rw [hseq]
  refine ⟨fun h hlock hcool => ?_, fun h hlock hhot => ?_, fun h hlock => ?_, fun h => ?_, fun h => ?_⟩
  · rw [hsettles h, releaseTest_cool (hholds.mp hlock) ((hpermission h).mpr hcool)]
    rfl
  · rw [hsettles h, releaseTest_hot (hholds.mp hlock) ((hpermission h).not.mpr hhot)]
  · rw [hsettles h, releaseTest_other (hholds.not.mp hlock)]
  · rw [htaken, ← hcount]
    simp only [State.sequenceReading, hq, h]
  · rw [htaken]
    rcases h with h | h | h <;> simp only [State.sequenceReading, hq, h]

end Sys2Proof.Machine
end

section
/-! PROOF. The start that orders the engagement (R39, R40, R127), and CLEAR TRIP with its checks (R60, R165, R166). -/

namespace Sys2Proof.Machine

/-! ### A start that engages the lock -/

/-- A locked chain passes the checks of the lock with the lock OPEN and the door CLOSED (R39). -/
theorem finishStart_of_open {s : State} {c : Cavity} {table : Nat → Option PhaseRecord} {walked : List Nat}
    {write : State → State} (hlocked : holdsLocked table walked = true) (hopen : (s.locks.get c).state = .opened)
    (hdoor : (s.locks.get c).door = .closed) :
    s.finishStart c table (.ok walked) write = ((write s).acceptStart c walked true, Reply.done []) := by
  have hrefusal : s.startLockRefusal c true = none := by simp [State.startLockRefusal, hopen, hdoor]
  simp only [State.finishStart, hlocked, hrefusal]

/-- The accepted start of a locked chain with its lock OPEN: the context reset in LOCKING, and the order to engage
with owner CYCLE (R40, R127). -/
theorem acceptStart_locking {s : State} {c : Cavity} {walked : List Nat} (hbound : (s.seq.get c).bound = true)
    (hopen : (s.locks.get c).state = .opened) :
    s.acceptStart c walked true = { s with
      seq := s.seq.set c { Sequencer.fresh .locking with chain := walked, lockOwned := true, bound := true }
      locks := s.locks.set c { s.locks.get c with
        state := .engaging, owner := .cycle, timer := some 0, reversal := none } } := by
  simp [State.acceptStart, hopen, hbound, State.setSeq, State.orderEngage, State.setLock, DoorLock.engage,
    Sequencer.fresh]

/-- Settles O33, for START CYCLE on the table as it stands and for START INLINE on the table with its record written. -/
theorem lockedStartEntersLocking : Obligations.LockedStartEntersLocking := by
  constructor
  · intro s h c first w howed hidle hbound hprobe hfirst hcheck hlocked hopen hdoor
    obtain ⟨hseq, hlocks, _, _, _⟩ := heard_standing s c
    rw [exec_startCycle howed hidle hbound hprobe hfirst hcheck,
      finishStart_of_open hlocked (hlocks ▸ hopen) (hlocks ▸ hdoor)]
    dsimp only [id]
    rw [acceptStart_locking (hseq ▸ hbound) (hlocks ▸ hopen), hseq, hlocks]
  · intro s h c p r w howed hidle hbound hprobe hlength hnum hrecord hcheck hlocked hopen hdoor
    obtain ⟨hseq, hlocks, _, _, _⟩ := heard_standing s c
    have hseq' : (s.heard.setRecord (inlineSlot c) (some r)).seq = s.seq := by simp
    have hlocks' : (s.heard.setRecord (inlineSlot c) (some r)).locks = s.locks := by simp
    rw [exec_startInline howed hidle hbound hprobe hlength hnum hrecord hcheck,
      finishStart_of_open hlocked (hlocks ▸ hopen) (hlocks ▸ hdoor)]
    dsimp only
    rw [acceptStart_locking (hseq'.symm ▸ hbound) (hlocks'.symm ▸ hopen), hseq', hlocks']

/-! ### CLEAR TRIP -/

/-- The checks of CLEAR TRIP in their order, each with the reply that it leads to and whether it fails (R165). -/
def State.clearChecks (s : State) (c : Cavity) : List (Reply × Bool) :=
  let stored := (s.limit.cavity.get c).reading
  let p := s.profiles.get c
  [(Reply.refuse .state, !decide ((s.seq.get c).state = .faulted)),
    (Reply.tripPresent .probeFault, !(stored.any fun x => decide (x.probe = .valid))),
    (Reply.tripPresent .overtemp, !(stored.any fun x => x.probeT.any fun t => decide (t < (p.hardLimit : Int)))),
    (Reply.tripPresent .catalystOvertemp, stored.any fun x => decide (x.catalyst = .valid) &&
      x.catalystT.any fun t => decide ((p.catalystLimit : Int) ≤ t)),
    (Reply.tripPresent .cutout, decide ((s.limit.cavity.get c).cutout = .opened)),
    (Reply.tripPresent .fanStall, decide (s.fan.state = .stalled)),
    (Reply.tripPresent .boardOvertemp, s.limit.board.any fun b => decide (800 ≤ b)),
    (Reply.refuse .lock, !decide ((s.locks.get c).state = .opened))]

section
variable (l : LimitRecord) (limit : Nat)

theorem probeValid_eq : l.probeValid = l.reading.any fun x => decide (x.probe = .valid) := by
  cases h : l.reading <;> simp [LimitRecord.probeValid, h]

theorem coolerThan_eq :
    l.coolerThan limit = l.reading.any fun x => x.probeT.any fun t => decide (t < (limit : Int)) := by
  cases h : l.reading with
  | none => simp [LimitRecord.coolerThan, h]
  | some x => cases ht : x.probeT <;> simp [LimitRecord.coolerThan, h, ht]

theorem catalystPasses_eq : l.catalystPasses limit = !(l.reading.any fun x => decide (x.catalyst = .valid) &&
    x.catalystT.any fun t => decide ((limit : Int) ≤ t)) := by
  cases h : l.reading with
  | none => simp [LimitRecord.catalystPasses, h]
  | some x =>
    cases ht : x.catalystT with
    | none => cases hk : x.catalyst <;> simp [LimitRecord.catalystPasses, h, hk, ht]
    | some t =>
      have hnot : decide (t < (limit : Int)) = !decide ((limit : Int) ≤ t) := by simp [← decide_not]
      cases hk : x.catalyst <;> simp [LimitRecord.catalystPasses, h, hk, ht, hnot]

end

theorem firstFailing_nil {α : Type} : firstFailing ([] : List (α × Bool)) = none := rfl

/-- The refusal of CLEAR TRIP is that of the first check that fails (R165). -/
theorem clearRefusal_eq (s : State) (c : Cavity) : s.clearRefusal c = firstFailing (s.clearChecks c) := by
  simp [State.clearRefusal, State.clearChecks, firstFailing_cons, firstFailing_nil, probeValid_eq, coolerThan_eq,
    catalystPasses_eq]

theorem clearRefusal_heard (s : State) (c : Cavity) : s.heard.clearRefusal c = s.clearRefusal c := by
  simp [State.clearRefusal]

section
variable {s : State} {c : Cavity}

theorem clearTrip_of_refused {r : Reply} (hpresent : (s.seq.get c).state ≠ .absent)
    (hrefusal : s.clearRefusal c = some r) : clearTrip [byte c.num] s = (s, r) := by
  rw [clearTrip, ownerOfCavity_of_present hpresent]
  simp only [hrefusal]

theorem clearTrip_of_passes {r : TripRecord} (hpresent : (s.seq.get c).state ≠ .absent)
    (hrefusal : s.clearRefusal c = none) (hactive : (s.limit.cavity.get c).active = some r) :
    clearTrip [byte c.num] s = (s.clearTrip c, Reply.done [byte r.first.code]) := by
  rw [clearTrip, ownerOfCavity_of_present hpresent]
  simp only [hrefusal, hactive]
  rfl

/-- The clearing of a trip record (R60, R166). -/
theorem clearTrip_eq {r : TripRecord} (hactive : (s.limit.cavity.get c).active = some r) :
    s.clearTrip c = { s with
      limit := { s.limit with cavity := s.limit.cavity.set c { s.limit.cavity.get c with
        active := none, cleared := some { record := r, clearedAt := s.clock.uptime } } }
      seq := s.seq.set c { s.seq.get c with state := .idle }
      mail := { s.mail with cavity := s.mail.cavity.set c { s.box c with tripNotices := 0 } }
      link := s.link.enqueue (s.event .tripCleared (some c) 1 (some r.first.code) false) } := by
  simp only [State.clearTrip, hactive]
  rfl

end

/-- Settles O59: every check passed, or the first that fails. -/
theorem clearTripClears : Obligations.ClearTripClears := by
  constructor
  · intro s h c r x t₀ howed hfaulted hactive hreading hvalid ht hcooler hcatalyst hcutout hfan hboard hlock
    have hcatalystPasses : (decide (x.catalyst = .valid) &&
        x.catalystT.any fun t => decide (((s.profiles.get c).catalystLimit : Int) ≤ t)) = false := by
      by_cases hgrade : x.catalyst = .valid
      · obtain ⟨k, hk, hbelow⟩ := hcatalyst hgrade
        simpa [hk, hgrade] using hbelow
      · simp [hgrade]
    have hboardPasses : (s.limit.board.any fun b => decide (800 ≤ b)) = false := by
      cases hb : s.limit.board with
      | none => rfl
      | some b => simpa using hboard b hb
    have hrefusal : s.heard.clearRefusal c = none := by
      rw [clearRefusal_heard, clearRefusal_eq]
      simp only [State.clearChecks, firstFailing_cons, firstFailing_nil, hfaulted, hreading, hvalid, ht, hcooler,
        hcatalystPasses, hcutout, hfan, hboardPasses, hlock, Option.any_some, decide_true, Bool.not_true,
        Bool.false_eq_true, if_false, reduceCtorEq, decide_false]
    have hlimit : s.heard.limit = s.limit := by simp
    have howner := clearTrip_of_passes (s := s.heard) (c := c) (by simp [hfaulted]) hrefusal (hlimit.symm ▸ hactive)
    rw [clearTrip_eq (hlimit.symm ▸ hactive)] at howner
    refine congrArg Host.Outcome.next ((takeRequest_ofCavity (k := .clearTrip) howed rfl rfl rfl howner h).trans ?_)
    simp [State.event, State.box, RequestKind.code]
  · intro s h c r howed hpresent stored p hfails
    have hrefusal : s.heard.clearRefusal c = some r := by rw [clearRefusal_heard, clearRefusal_eq]; exact hfails
    exact congrArg Host.Outcome.next (takeRequest_ofCavity (k := .clearTrip) howed rfl rfl rfl
      (clearTrip_of_refused (by simpa using hpresent) hrefusal) h)

end Sys2Proof.Machine
end

section
/-! PROOF. The ranges of the Regulation Unit and the Power Allocator (R65, R71, R73, R87 to R89): what the invariant
reads of the state, and what the Allocator's operations do to its part. -/

namespace Sys2Proof.Machine

/-! ### The Allocator's part -/

/-- The demands, the request records and the slot number are in their ranges (R73, R87 to R89). -/
structure Allocator.InRange (a : Allocator) : Prop where
  demand : ∀ c, (a.demand.get c).u ≤ 1000
  record : ∀ x r, a.record x = some r → r.bounded
  slot : 1 ≤ a.slot ∧ a.slot ≤ 30

/-! ### Request records -/

section
variable {r : RequestRecord}

theorem fresh_bounded (output watts : Nat) : (RequestRecord.fresh output watts).bounded := by
  simp [RequestRecord.bounded, RequestRecord.fresh]

theorem withdrawn_bounded (h : r.bounded) : r.withdrawn.bounded := by
  obtain ⟨hgq, hq, _⟩ := h
  exact ⟨Nat.le_refl _, Nat.le_trans hgq hq, Nat.zero_le 4⟩

theorem shed_bounded (h : r.bounded) : r.shed.bounded := by
  obtain ⟨hgq, hq, _⟩ := h
  exact ⟨Nat.le_trans (Nat.sub_le _ _) hgq, hq, by simp [RequestRecord.shed]⟩

/-- A record that is granted a slot, or deferred once more, asked for more than it had (R94, R97). -/
theorem afterPasses_bounded (h : r.bounded) (hasks : r.g < r.q) (granted : Bool) :
    (r.afterPasses granted).bounded := by
  obtain ⟨hgq, hq, _⟩ := h
  cases granted
  · exact ⟨hgq, hq, Nat.min_le_left _ _⟩
  · exact ⟨hasks, hq, Nat.zero_le 4⟩

end

/-- A demand in its range asks for at most the 30 slots of a window (R91). -/
theorem slotsFor_le {u : Nat} (h : u ≤ 1000) : slotsFor u ≤ 30 := by
  unfold slotsFor
  omega

/-! ### The request table -/

theorem record_mapRecords (a : Allocator) (f : CavityElement → RequestRecord → RequestRecord) (x : CavityElement) :
    (a.mapRecords f).record x = (a.record x).map (f x) := by
  simp [Allocator.record, Allocator.mapRecords]

theorem record_modRecord (a : Allocator) (x y : CavityElement) (f : RequestRecord → RequestRecord) :
    (a.modRecord x f).record y = if y = x then (a.record y).map f else a.record y := by
  obtain ⟨c, e⟩ := x
  obtain ⟨d, i⟩ := y
  by_cases hd : d = c <;> by_cases hi : i = e <;>
    simp [Allocator.record, Allocator.modRecord, Allocator.setRecord, hd, hi]

theorem record_setRow (a : Allocator) (c : Cavity) (row : PerElement (Option RequestRecord)) (x : CavityElement) :
    ({ a with requests := a.requests.set c row } : Allocator).record x =
      if x.1 = c then row.get x.2 else a.record x := by
  simp only [Allocator.record, PerCavity.get_set]
  split <;> rfl

namespace Allocator.InRange

variable {a b : Allocator}

/-- The ranges read the demand table, the request table and the slot number alone. -/
theorem of_eq (ha : a.InRange) (hdemand : b.demand = a.demand) (hrequests : b.requests = a.requests)
    (hslot : b.slot = a.slot) : b.InRange := by
  have hrecord : b.record = a.record := by
    funext x
    rw [Allocator.record, hrequests, Allocator.record]
  exact ⟨hdemand ▸ ha.demand, hrecord ▸ ha.record, hslot ▸ ha.slot⟩

theorem mapRecords (ha : a.InRange) {f : CavityElement → RequestRecord → RequestRecord}
    (hf : ∀ x r, a.record x = some r → (f x r).bounded) : (a.mapRecords f).InRange := by
  refine ⟨ha.demand, fun x r hr => ?_, ha.slot⟩
  rw [record_mapRecords] at hr
  obtain ⟨r', hr', rfl⟩ := Option.map_eq_some_iff.mp hr
  exact hf x r' hr'

theorem modRecord (ha : a.InRange) (x : CavityElement) {f : RequestRecord → RequestRecord}
    (hf : ∀ r : RequestRecord, r.bounded → (f r).bounded) : (a.modRecord x f).InRange := by
  refine ⟨ha.demand, fun y r hr => ?_, ha.slot⟩
  rw [record_modRecord] at hr
  split at hr
  · obtain ⟨r', hr', rfl⟩ := Option.map_eq_some_iff.mp hr
    exact hf r' (ha.record y r' hr')
  · exact ha.record y r hr

theorem setRow (ha : a.InRange) (c : Cavity) {row : PerElement (Option RequestRecord)}
    (hrow : ∀ e r, row.get e = some r → r.bounded) :
    ({ a with requests := a.requests.set c row } : Allocator).InRange := by
  refine ⟨ha.demand, fun x r hr => ?_, ha.slot⟩
  rw [record_setRow] at hr
  split at hr
  · exact hrow x.2 r hr
  · exact ha.record x r hr

theorem setDemand (ha : a.InRange) (c : Cavity) {d : DemandEntry} (hd : d.u ≤ 1000) :
    ({ a with demand := a.demand.set c d } : Allocator).InRange := by
  refine ⟨fun e => ?_, ha.record, ha.slot⟩
  rw [PerCavity.get_set]
  split
  · exact hd
  · exact ha.demand e

/-- A rotation, a leaving and a joining change the rings alone (R92, R98). -/
theorem rotate (ha : a.InRange) (c : Cavity) : (a.rotate c).InRange := by
  unfold Allocator.rotate
  split <;> exact ha.of_eq rfl rfl rfl

theorem joinRing (ha : a.InRange) (c : Cavity) (t : Tier) : ((a.leaveRings c).joinRing c t).InRange := by
  cases t <;> exact ha.of_eq rfl rfl rfl

end Allocator.InRange

/-! ### A slot event -/

section
variable {s : State}

theorem closeSlot_inRange (ha : s.alloc.InRange) : s.closeSlot.alloc.InRange :=
  (ha.mapRecords (f := fun x r => { r with held := s.alloc.grants.contains x }) ha.record).of_eq rfl rfl rfl

/-- The slot number runs from 1 to 30 (R88). -/
theorem advanceSlot_inRange (ha : s.alloc.InRange) : s.advanceSlot.alloc.InRange := by
  obtain ⟨hfirst, hlast⟩ := ha.slot
  unfold State.advanceSlot
  split_ifs with hstarted hbefore
  · exact ha.of_eq rfl rfl rfl
  · exact ⟨ha.demand, ha.record, Nat.le_add_left 1 _, hbefore⟩
  · exact ⟨ha.demand, ha.record, Nat.le_refl 1, by simp⟩

theorem slotWithdrawals_inRange (ha : s.alloc.InRange) : s.slotWithdrawals.alloc.InRange := by
  have hrecords := ha.mapRecords (f := fun x r => if s.withdrawnAtSlot x then r.withdrawn else r) fun x r hr => by
    split
    · exact withdrawn_bounded (ha.record x r hr)
    · exact ha.record x r hr
  refine ⟨fun c => ?_, hrecords.record, hrecords.slot⟩
  simpa [State.slotWithdrawals] using ha.demand c

theorem windowEndCavity_inRange (ha : s.alloc.InRange) (c : Cavity) : (windowEndCavity s c).alloc.InRange := by
  unfold windowEndCavity
  split
  · exact ha
  · dsimp only
    split <;> exact ha.of_eq rfl rfl rfl

theorem windowEnd_inRange (ha : s.alloc.InRange) : s.windowEnd.alloc.InRange :=
  List.foldlRecOn (motive := fun t : State => t.alloc.InRange) Cavity.all windowEndCavity ha
    fun _ ht c _ => windowEndCavity_inRange ht c

/-- A window start asks afresh, for what each demand asks (R91). -/
theorem windowStart_inRange (ha : s.alloc.InRange) : s.windowStart.alloc.InRange := by
  rw [State.windowStart, State.setAlloc_alloc]
  refine ha.mapRecords fun x r hr => ?_
  obtain ⟨_, _, hdeferral⟩ := ha.record x r hr
  split
  · refine ⟨Nat.zero_le _, ?_, hdeferral⟩
    dsimp only
    split
    · exact slotsFor_le (ha.demand x.1)
    · exact Nat.zero_le 30
  · exact ha.record x r hr

theorem windowWork_inRange (ha : s.alloc.InRange) (first : Bool) : (s.windowWork first).alloc.InRange := by
  unfold State.windowWork
  split
  · cases first
    · exact windowStart_inRange (windowEnd_inRange ha)
    · exact windowStart_inRange ha
  · exact ha

/-- An eligible element's record asks for more than it has had (R94). -/
theorem lt_of_eligible {x : CavityElement} {r : RequestRecord} (hr : s.alloc.record x = some r)
    (h : s.eligible x = true) : r.g < r.q := by
  simp only [State.eligible, hr, Bool.and_eq_true, decide_eq_true_eq] at h
  obtain ⟨⟨⟨⟨hasks, _⟩, _⟩, _⟩, _⟩ := h
  exact hasks

theorem grantSlot_inRange (ha : s.alloc.InRange) : s.grantSlot.alloc.InRange := by
  have hrecords := ha.mapRecords
    (f := fun x r => if s.eligible x then r.afterPasses (s.passThree.granted.contains x) else r) fun x r hr => by
      split
      · rename_i helig
        exact afterPasses_bounded (ha.record x r hr) (lt_of_eligible hr helig) _
      · exact ha.record x r hr
  unfold State.grantSlot
  dsimp only
  split
  · rename_i c _
    exact (hrecords.rotate c).of_eq rfl rfl rfl
  · exact hrecords.of_eq rfl rfl rfl

theorem takeSlot_inRange (ha : s.alloc.InRange) : (takeSlot s).alloc.InRange := by
  have hwithdrawn := slotWithdrawals_inRange (advanceSlot_inRange (closeSlot_inRange ha))
  simpa only [takeSlot, State.handOver_frame] using
    grantSlot_inRange (windowWork_inRange hwithdrawn (!s.alloc.started))

/-! ### The Allocator between slot events -/

/-- The grant list is no part of the ranges. -/
theorem setGrants_inRange (ha : s.alloc.InRange) (grants : List CavityElement) :
    (s.setGrants grants).alloc.InRange := ha.of_eq rfl rfl rfl

theorem dropCavityGrants_inRange (ha : s.alloc.InRange) (c : Cavity) : (s.dropCavityGrants c).alloc.InRange := by
  rw [dropCavityGrants_alloc]
  exact ha.of_eq rfl rfl rfl

theorem dropGrant_inRange (ha : s.alloc.InRange) (x : CavityElement) : (s.dropGrant x).alloc.InRange := by
  rw [dropGrant_alloc]
  exact ha.of_eq rfl rfl rfl

/-- Shedding gives slots back and asks for no more (R86). -/
theorem shedGrants_inRange (ha : s.alloc.InRange) : s.shedGrants.alloc.InRange := by
  unfold State.shedGrants
  split
  · exact ha
  · exact (List.foldlRecOn (motive := Allocator.InRange) _ _ ha
      fun _ hb x _ => hb.modRecord x fun _ => shed_bounded).of_eq rfl rfl rfl

theorem rebudget_inRange (ha : s.alloc.InRange) : s.rebudget.alloc.InRange :=
  shedGrants_inRange (s := s.setAlloc { s.alloc with available := s.budget }) (ha.of_eq rfl rfl rfl)

theorem tripWithdraw_inRange (ha : s.alloc.InRange) (c : Cavity) : (s.tripWithdraw c).alloc.InRange := by
  have hdropped := dropCavityGrants_inRange ha c
  refine hdropped.setRow c fun e r hr => ?_
  rw [PerElement.get_map] at hr
  obtain ⟨r', hr', rfl⟩ := Option.map_eq_some_iff.mp hr
  exact withdrawn_bounded (hdropped.record (c, e) r' hr')

/-- New request records ask for nothing (R89). -/
theorem requestFor_bounded {d : Drive} {x : CavityElement} {r : RequestRecord} (h : d.requestFor x = some r) :
    r.bounded := by
  unfold Drive.requestFor at h
  split at h
  · obtain rfl := Option.some.inj h
    exact fresh_bounded _ _
  · cases h

theorem rebuildRequests_inRange (ha : s.alloc.InRange) (c : Cavity) : (s.rebuildRequests c).alloc.InRange := by
  refine (dropCavityGrants_inRange ha c).setRow c fun e r hr => ?_
  rw [PerElement.get_map] at hr
  exact requestFor_bounded hr

theorem disableAlloc_inRange (ha : s.alloc.InRange) (c : Cavity) : (s.disableAlloc c).alloc.InRange := by
  have hemptied := (dropCavityGrants_inRange ha c).setRow c (row := noRecords)
    fun e r hr => by cases e <;> cases hr
  exact (hemptied.setDemand c (d := DemandEntry.powerUp) (Nat.zero_le 1000)).of_eq rfl rfl rfl

theorem enableAlloc_inRange (ha : s.alloc.InRange) (c : Cavity) : (s.enableAlloc c).alloc.InRange := by
  refine rebuildRequests_inRange ?_ c
  exact ((ha.joinRing c .one).setDemand c (d := DemandEntry.powerUp) (Nat.zero_le 1000)).of_eq rfl rfl rfl

end

end Sys2Proof.Machine
end

section
/-! PROOF. The events of the blocks outside the Sequencer keep the ranges (R65, R71, R73, R87 to R89): raising a cause,
the supervision, the sense check, the locks, the fan, the readings delivered and the budget. -/

namespace Sys2Proof.Machine

/-! ### What the invariant reads -/

/-- A regulation context is in its ranges (R65, R71, R73). -/
def Regulation.inRange (x : Regulation) : Prop :=
  (∀ n, x.s60 = some n → n ≤ 300000) ∧ x.iAcc ≤ 1000000 ∧ x.u ≤ 1000

/-- The regulation requests in flight for a cavity carry targets in the range (R20). -/
def Mailbox.inRange (b : Mailbox) : Prop := ∀ r ∈ b.regulation, r.bounded

/-- The targets of the records are in their range (R20). -/
def TargetsBounded (table : Nat → Option PhaseRecord) : Prop :=
  ∀ n r, table n = some r → (r.target.getD 0).toNat ≤ 5000

/-- Every demand, request record and regulation context is in its ranges, with the targets that they come from. -/
structure State.InRange (s : State) : Prop where
  reg : ∀ c, (s.reg.get c).inRange
  alloc : s.alloc.InRange
  box : ∀ c, (s.box c).inRange
  table : TargetsBounded s.recordAt

theorem inRange_iff (s : State) : s.InRange ↔ s.requestsBounded ∧ s.regulationBounded := by
  constructor
  · rintro ⟨hreg, ⟨hdemand, hrecord, hfirst, hlast⟩, hbox, htable⟩
    refine ⟨⟨fun c => ⟨?_, hdemand c⟩, hrecord, hfirst, hlast⟩, fun c => ?_, htable⟩
    · obtain ⟨_, _, hu⟩ := hreg c
      exact hu
    · obtain ⟨hs60, hiAcc, hu⟩ := hreg c
      exact ⟨hs60, hiAcc, hu, hbox c⟩
  · rintro ⟨⟨hdemand, hrecord, hslot⟩, hreg, htable⟩
    refine ⟨fun c => ?_, ⟨fun c => ?_, hrecord, hslot⟩, fun c => ?_, htable⟩
    · obtain ⟨hs60, hiAcc, hu, _⟩ := hreg c
      exact ⟨hs60, hiAcc, hu⟩
    · obtain ⟨_, hu⟩ := hdemand c
      exact hu
    · obtain ⟨_, _, _, hbox⟩ := hreg c
      exact hbox

/-- The two states agree on the Phase Table, the regulation contexts and the mail. -/
def SameOrders (s t : State) : Prop := t.table = s.table ∧ t.reg = s.reg ∧ t.mail = s.mail

/-- The two states agree in all that the invariant reads. -/
def SameRanges (s t : State) : Prop := SameOrders s t ∧ t.alloc = s.alloc

namespace State.InRange

variable {s t : State}

/-- An operation of the Allocator keeps the ranges where its own part keeps them. -/
theorem of_alloc (hs : s.InRange) (h : SameOrders s t) (ha : t.alloc.InRange) : t.InRange := by
  obtain ⟨htable, hreg, hmail⟩ := h
  have hbox : t.box = s.box := by
    funext c
    rw [State.box, hmail, State.box]
  exact ⟨hreg ▸ hs.reg, ha, hbox ▸ hs.box, recordAt_congr htable ▸ hs.table⟩

theorem of_same (hs : s.InRange) (h : SameRanges s t) : t.InRange := by
  obtain ⟨horders, halloc⟩ := h
  exact hs.of_alloc horders (halloc ▸ hs.alloc)

theorem setMail (hs : s.InRange) (c : Cavity) {x : Mailbox} (hx : x.inRange) : (s.setMail c x).InRange := by
  refine ⟨hs.reg, hs.alloc, fun d => ?_, hs.table⟩
  simp only [State.box, State.setMail_mail, PerCavity.get_set]
  split
  · exact hx
  · exact hs.box d

/-- Mail of any other kind may be sent and taken. -/
theorem setMail_of_regulation (hs : s.InRange) (c : Cavity) {x : Mailbox}
    (hx : x.regulation = (s.box c).regulation) : (s.setMail c x).InRange :=
  hs.setMail c fun r hr => hs.box c r (hx ▸ hr)

theorem setReg (hs : s.InRange) (c : Cavity) {x : Regulation} (hx : x.inRange) : (s.setReg c x).InRange := by
  refine ⟨fun d => ?_, hs.alloc, hs.box, hs.table⟩
  rw [State.setReg_reg, PerCavity.get_set]
  split
  · exact hx
  · exact hs.reg d

theorem setRecord (hs : s.InRange) {n : Nat} (hn : n < 51) {r : Option PhaseRecord}
    (hr : ∀ x, r = some x → (x.target.getD 0).toNat ≤ 5000) : (s.setRecord n r).InRange := by
  refine ⟨hs.reg, hs.alloc, hs.box, fun m x hx => ?_⟩
  rw [recordAt_setRecord s hn] at hx
  split at hx
  · exact hr x hx
  · exact hs.table m x hx

/-- The parts that no range reads may be replaced. -/
theorem setSeq (hs : s.InRange) (c : Cavity) (x : Sequencer) : (s.setSeq c x).InRange :=
  hs.of_same ⟨⟨rfl, rfl, rfl⟩, rfl⟩

theorem setLock (hs : s.InRange) (c : Cavity) (x : DoorLock) : (s.setLock c x).InRange :=
  hs.of_same ⟨⟨rfl, rfl, rfl⟩, rfl⟩

theorem setLimit (hs : s.InRange) (c : Cavity) (x : LimitRecord) : (s.setLimit c x).InRange :=
  hs.of_same ⟨⟨rfl, rfl, rfl⟩, rfl⟩

theorem setFan (hs : s.InRange) (x : Fan) : (s.setFan x).InRange := hs.of_same ⟨⟨rfl, rfl, rfl⟩, rfl⟩

theorem setLink (hs : s.InRange) (x : Link) : (s.setLink x).InRange := hs.of_same ⟨⟨rfl, rfl, rfl⟩, rfl⟩

theorem setOutput (hs : s.InRange) (i : Fin 12) (o : OutputRecord) : (s.setOutput i o).InRange :=
  hs.of_same ⟨⟨rfl, rfl, rfl⟩, rfl⟩

theorem queueEvent (hs : s.InRange) (kind : EventKind) (cavity : Option Cavity) (severity : Nat)
    (detail : Option Nat) (additional : Bool) : (s.queueEvent kind cavity severity detail additional).InRange :=
  hs.setLink _

/-! ### Raising a cause -/

/-- A first cause withdraws the cavity's requests and sends the trip notice (R104, R162). -/
theorem trip (hs : s.InRange) (c : Cavity) (k : Cause) : (s.trip c k).InRange := by
  have hopened : ((s.setLimit c { s.limit.cavity.get c with
      active := some (s.newTrip c k) }).openRelay c).InRange := hs.of_same (by simp [SameRanges, SameOrders])
  have hwithdrawn := hopened.of_alloc (by simp [SameOrders]) (tripWithdraw_inRange hopened.alloc c)
  exact (hwithdrawn.queueEvent _ _ _ _ _).setMail c (hwithdrawn.box c)

theorem raise (hs : s.InRange) (c : Cavity) (k : Cause) : (s.raise c k).InRange := by
  rcases raise_cases s c k with h | ⟨_, _, h⟩ | ⟨_, r, _, h⟩ <;> rw [h]
  · exact hs
  · exact hs.trip c k
  · unfold State.laterCause
    split
    · exact hs
    · exact (hs.setLimit c _).queueEvent _ _ _ _ _

theorem raiseIf (hs : s.InRange) (b : Bool) (c : Cavity) (k : Cause) : (s.raiseIf b c k).InRange := by
  unfold State.raiseIf
  split
  · exact hs.raise c k
  · exact hs

theorem raiseForEnabled (hs : s.InRange) (k : Cause) : (s.raiseForEnabled k).InRange := by
  refine List.foldlRecOn Cavity.all _ hs fun t ht c _ => ?_
  split
  · exact ht.raise c k
  · exact ht

/-! ### The Limit Supervisor -/

theorem superviseReading (hs : s.InRange) (c : Cavity) (r : CavityReading) : (s.superviseReading c r).InRange := by
  have hstored : (s.storeReading c r).InRange := hs.setLimit c _
  exact (((hstored.raiseIf _ c _).raiseIf _ c _).raiseIf _ c _).raiseIf _ c _

theorem takeSupervisorReading (hs : s.InRange) (c : Cavity) : (takeSupervisorReading c s).InRange := by
  unfold Machine.takeSupervisorReading
  split
  · exact hs
  · exact (hs.setMail_of_regulation c (by rfl)).superviseReading c _

theorem takeSupervisorBoard (hs : s.InRange) : (takeSupervisorBoard s).InRange := by
  unfold Machine.takeSupervisorBoard
  split
  · exact hs
  · rename_i b rest _
    have hstored : ({ s with
        mail := { s.mail with supervisorBoard := rest }, limit := { s.limit with board := some b } } : State).InRange :=
      ⟨hs.reg, hs.alloc, hs.box, hs.table⟩
    unfold State.superviseBoard
    dsimp only
    split
    · exact hstored.raiseForEnabled _
    · exact hstored

theorem takeRelayClosing (hs : s.InRange) (c : Cavity) : (takeRelayClosing c s).InRange := by
  unfold Machine.takeRelayClosing
  split
  · exact hs
  · dsimp only
    exact (hs.setMail_of_regulation c (by rfl)).raiseIf _ c _

theorem changeCutout (hs : s.InRange) (c : Cavity) (value : Cutout) : (changeCutout c value s).InRange := by
  have hread : (s.setPins c { s.pins.get c with cutout := value }).InRange := hs.of_same ⟨⟨rfl, rfl, rfl⟩, rfl⟩
  unfold Machine.changeCutout
  dsimp only
  split
  · exact (hread.setLimit c _).raiseIf _ c _
  · exact hread

/-! ### The Element Drive -/

theorem closeRelay (hs : s.InRange) (c : Cavity) : (s.closeRelay c).InRange := by
  rcases closeRelay_cases s c with h | h | ⟨_, _, _, h⟩ <;> rw [h]
  · exact hs
  · exact hs.raise c _
  · have hclosed : (s.setRelay c { closedAt := some s.clock, sinceSlot := false }).InRange :=
      hs.of_same ⟨⟨rfl, rfl, rfl⟩, rfl⟩
    exact hclosed.setMail c (hclosed.box c)

theorem dropGrant (hs : s.InRange) (x : CavityElement) : (s.dropGrant x).InRange :=
  hs.of_alloc (by simp [SameOrders]) (dropGrant_inRange hs.alloc x)

theorem countMiss (hs : s.InRange) (j : Judgement) : (s.countMiss j).InRange := by
  unfold State.countMiss
  dsimp only
  split_ifs
  · exact hs.setOutput _ _
  · exact hs.setOutput _ _
  · exact ((hs.setOutput _ _).queueEvent _ _ _ _ _).dropGrant _

theorem countStuck (hs : s.InRange) (j : Judgement) : (s.countStuck j).InRange := by
  unfold State.countStuck
  dsimp only
  split
  · exact hs.setOutput _ _
  · exact (hs.setOutput _ _).raise _ _

theorem judge (hs : s.InRange) (j : Judgement) : (s.judge j).InRange := by
  unfold State.judge
  dsimp only
  split
  · exact hs
  · split
    · exact hs.setOutput _ _
    · exact hs.countMiss j
    · exact hs.countStuck j
    · exact hs.setOutput _ _

theorem checkSense (hs : s.InRange) (loads : BitVec 12) : (checkSense loads s).InRange := by
  have hsampled : ((s.judgements loads).foldl State.sampleLoad s).InRange :=
    List.foldlRecOn _ _ hs fun _ ht j _ => ht.setOutput j.output _
  have hjudged : ((s.judgements loads).foldl State.judge ((s.judgements loads).foldl State.sampleLoad s)).InRange :=
    List.foldlRecOn _ _ hsampled fun _ ht j _ => ht.judge j
  unfold Machine.checkSense
  exact List.foldlRecOn (motive := State.InRange) Cavity.all _ hjudged fun _ ht c _ => ht.raiseIf _ c _

/-! ### The Door Lock Controllers -/

theorem sendLockNotice (hs : s.InRange) (c : Cavity) (n : LockNotice) : (s.sendLockNotice c n).InRange :=
  hs.setMail c (hs.box c)

theorem lockEngaged (hs : s.InRange) (c : Cavity) (l : DoorLock) : (s.lockEngaged c l).InRange :=
  ((hs.setLock c _).queueEvent _ _ _ _ _).sendLockNotice c _

theorem lockReleased (hs : s.InRange) (c : Cavity) (l : DoorLock) : (s.lockReleased c l).InRange :=
  ((hs.setLock c _).queueEvent _ _ _ _ _).sendLockNotice c _

theorem lockJammed (hs : s.InRange) (c : Cavity) (l : DoorLock) (detail : Nat) : (s.lockJammed c l detail).InRange :=
  (((hs.setLock c _).queueEvent _ _ _ _ _).raise c _).sendLockNotice c _

theorem lockLost (hs : s.InRange) (c : Cavity) (l : DoorLock) : (s.lockLost c l).InRange :=
  ((hs.setLock c _).raise c _).sendLockNotice c _

theorem changeDoor (hs : s.InRange) (c : Cavity) (value : DoorSwitch) : (changeDoor c value s).InRange := by
  have hread : (s.setPins c { s.pins.get c with door := value }).InRange := hs.of_same ⟨⟨rfl, rfl, rfl⟩, rfl⟩
  unfold Machine.changeDoor
  dsimp only
  split
  · unfold State.doorChanged
    dsimp only
    split
    · exact (hread.setLock c _).sendLockNotice c _
    · exact (hread.setLock c _).raise c _
    · exact hread.setLock c _
  · exact hread

theorem changeLockSwitch (hs : s.InRange) (c : Cavity) (value : LockSwitch) : (changeLockSwitch c value s).InRange := by
  have hread : (s.setPins c { s.pins.get c with lock := value }).InRange := hs.of_same ⟨⟨rfl, rfl, rfl⟩, rfl⟩
  unfold Machine.changeLockSwitch
  dsimp only
  split
  · unfold State.lockSwitchChanged
    dsimp only
    split
    · exact hread.lockEngaged c _
    · exact hread.lockReleased c _
    · exact hread.setLock c _
    · exact hread.lockLost c _
    · exact hread.lockLost c _
    · exact hread.setLock c _
  · exact hread

theorem engageTimeout (hs : s.InRange) (c : Cavity) : (engageTimeout c s).InRange := by
  unfold Machine.engageTimeout
  split
  · exact hs.lockJammed c _ 1
  · exact hs

theorem releaseTimeout (hs : s.InRange) (c : Cavity) : (releaseTimeout c s).InRange := by
  unfold Machine.releaseTimeout
  split
  · exact hs.lockJammed c _ 2
  · exact hs

theorem reversalReached (hs : s.InRange) (c : Cavity) : (reversalReached c s).InRange := by
  unfold Machine.reversalReached
  dsimp only
  split
  · exact hs.lockReleased c _
  · exact hs

theorem enableLock (hs : s.InRange) (c : Cavity) : (s.enableLock c).InRange := by
  unfold State.enableLock
  dsimp only
  split
  · exact hs.setLock c _
  · exact (hs.setLock c _).raise c _

/-! ### The Fan Controller -/

theorem takeFanReading (hs : s.InRange) (c : Cavity) : (takeFanReading c s).InRange := by
  unfold Machine.takeFanReading
  split
  · exact hs
  · dsimp only
    exact (hs.setMail_of_regulation c (by rfl)).setFan _

theorem takeFanBoard (hs : s.InRange) : (takeFanBoard s).InRange := by
  unfold Machine.takeFanBoard
  split
  · exact hs
  · exact ⟨hs.reg, hs.alloc, hs.box, hs.table⟩

theorem speedTest (hs : s.InRange) (rpm : Nat) : (s.speedTest rpm).InRange := by
  unfold State.speedTest
  split
  · unfold State.stallTest
    split_ifs
    · exact hs.setFan _
    · exact hs.setFan _
    · exact ((hs.setFan _).queueEvent _ _ _ _ _).raiseForEnabled _
  · have hraised := hs.raiseForEnabled .fanStall
    exact hraised.of_same (by simp [SameRanges, SameOrders])
  · exact hs
  · exact hs

theorem evaluateFan (hs : s.InRange) : (evaluateFan s).InRange :=
  (((hs.setFan _).speedTest _).setFan _).setFan _

/-! ### The Sensor Scanner -/

theorem deliverCavity (hs : s.InRange) (graded : PerCavity Bool) (c : Cavity) :
    (deliverCavity graded s c).InRange := by
  unfold Machine.deliverCavity
  split
  · have hlatest (x : Scanner) : (s.setScanner x).InRange := hs.of_same ⟨⟨rfl, rfl, rfl⟩, rfl⟩
    exact (hlatest _).setMail_of_regulation c (by rfl)
  · exact hs

theorem wholeSecond (hs : s.InRange) (board : Int) : (wholeSecond board s).InRange := by
  have hreferred : (referenceSecond s).InRange := hs.of_same (by simp [SameRanges, SameOrders])
  have hgraded : (probeChannels.foldl gradeChannel (referenceSecond s)).InRange :=
    List.foldlRecOn _ _ hreferred fun t ht x _ => ht.of_same (by simp [SameRanges, SameOrders])
  have hdelivered : (Cavity.all.foldl (Machine.deliverCavity (fullSecond s))
      (probeChannels.foldl gradeChannel (referenceSecond s))).InRange :=
    List.foldlRecOn _ _ hgraded fun _ ht c _ => ht.deliverCavity _ c
  exact ⟨hdelivered.reg, hdelivered.alloc, hdelivered.box, hdelivered.table⟩

/-! ### The Allocator's commands and the budget -/

theorem takeSlot (hs : s.InRange) : (takeSlot s).InRange :=
  hs.of_alloc (by simp [SameOrders]) (takeSlot_inRange hs.alloc)

theorem takeWithdrawNotice (hs : s.InRange) (c : Cavity) : (takeWithdrawNotice c s).InRange := by
  unfold Machine.takeWithdrawNotice
  split
  · exact hs
  · have htaken := hs.setMail c (x := { s.box c with withdrawNotices := (s.box c).withdrawNotices - 1 }) (hs.box c)
    exact htaken.of_alloc (by simp [SameOrders]) (dropCavityGrants_inRange htaken.alloc c)

theorem rebudget (hs : s.InRange) : s.rebudget.InRange :=
  hs.of_alloc (by simp [SameOrders]) (rebudget_inRange hs.alloc)

/-- A supply limit or a declared load is no part of the ranges (R83, R84). -/
theorem setAlloc_rebudget (hs : s.InRange) {a : Allocator} (ha : a.InRange) : (s.setAlloc a).rebudget.InRange :=
  (hs.of_alloc (t := s.setAlloc a) ⟨rfl, rfl, rfl⟩ ha).rebudget

theorem heard (hs : s.InRange) : s.heard.InRange := by
  unfold State.heard
  dsimp only
  split
  · exact hs.setLink _
  · exact (hs.setLink _).rebudget

theorem quietReached (hs : s.InRange) : (quietReached s).InRange := by
  unfold Machine.quietReached
  split
  · exact (hs.setLink _).rebudget
  · exact hs

theorem takeBreak (hs : s.InRange) : (takeBreak s).InRange := by
  unfold Machine.takeBreak
  dsimp only
  split
  · exact (hs.setLink _).rebudget
  · exact hs.setLink _

end State.InRange

end Sys2Proof.Machine
end

section
/-! PROOF. What every frame keeps (R173 to R178): a property that the end of a frame, its answer, the receiver and the
owners of the requests keep is kept by any request, frame and characters. -/

namespace Sys2Proof.Machine

/-- The owner of a request keeps a property of the state. -/
def OwnerKeeps (P : State → Prop) (f : Owner) : Prop := ∀ p s, P s → P (f p s).1

section
variable {P : State → Prop}

/-- An owner that only reads keeps every property. -/
theorem ownerKeeps_of_reads {f : Owner} (h : ∀ p s, (f p s).1 = s) : OwnerKeeps P f :=
  fun p s hs => (h p s).symm ▸ hs

/-- An owner of a named cavity keeps a property where its part of an enabled cavity does. -/
theorem ownerKeeps_ofCavity {f : Cavity → List Byte → State → State × Reply} (h : ∀ c, OwnerKeeps P (f c)) :
    OwnerKeeps P (ownerOfCavity f) := by
  intro p s hs
  unfold ownerOfCavity
  split
  · exact hs
  · exact h _ p s hs

end

/-- The parts of a frame's taking keep a property of the state. -/
structure FramesKeep (P : State → Prop) : Prop where
  heard : ∀ s, P s → P s.heard
  answer : ∀ s h code c r, P s → P (s.answer h code c r)
  receiver : ∀ s x, P s → P (s.setLink { s.link with receiver := x })
  owner : ∀ before k, OwnerKeeps P (ownerOf before k)

namespace FramesKeep

variable {P : State → Prop} {s : State}

/-- A request that ends keeps what its frame's parts keep (R175 to R178). -/
theorem takeRequest (hP : FramesKeep P) (hs : P s) (before : LinkState) (k : RequestKind) (h : Header)
    (p : List Byte) : P (takeRequest k h p (ownerOf before k) s) := by
  have hheard := hP.heard s hs
  unfold Machine.takeRequest
  split
  · exact hheard
  · refine hP.answer _ h _ _ _ ?_
    unfold dispatchRequest
    split_ifs
    · exact hheard
    · exact hheard
    · exact hP.owner before k p _ hheard

theorem takeFrame (hP : FramesKeep P) (hs : P s) (h : Header) (code : Nat) (p : List Byte) :
    P (takeFrame h code p s) := by
  unfold Machine.takeFrame
  split
  · exact hP.takeRequest hs _ _ h p
  · unfold takeUnknown
    split
    · exact hP.heard s hs
    · exact hP.answer _ h code none _ (hP.heard s hs)

theorem takeChars (hP : FramesKeep P) (hs : P s) (chars : List LineChar) : P (takeChars chars s) := by
  refine List.foldlRecOn chars takeChar hs fun t ht ch _ => ?_
  unfold takeChar
  dsimp only
  split
  · split
    · exact hP.takeFrame (hP.receiver t _ ht) _ _ _
    · exact hP.receiver t _ ht
  · exact hP.receiver t _ ht

end FramesKeep

end Sys2Proof.Machine
end

section
/-! PROOF. The regulation law, the Sequencer and the requests keep the ranges (R20, R65, R71, R73, R87 to R89), and with
them every command does. -/

namespace Sys2Proof.Machine

/-! ### The regulation law -/

theorem clampNat_le (hi : Nat) (x : Int) : clampNat hi x ≤ hi := Nat.min_le_left _ _

/-- The setpoint never stands above the target (R67 to R69). -/
theorem nextS60_le (r : RegRequest) (x : Regulation) : r.nextS60 x ≤ 60 * r.targetNat := by
  unfold RegRequest.nextS60 RegRequest.rampStep
  split
  · split
    · exact Nat.min_le_right _ _
    · exact Nat.le_refl _
  · exact Nat.le_refl _

theorem integrate_le {x : Regulation} (h : x.iAcc ≤ 1000000) (e : Int) (ki cap : Nat) (limited : Bool) :
    x.integrate e ki cap limited ≤ 1000000 := by
  unfold Regulation.integrate
  split
  · exact h
  · exact clampNat_le _ _

/-- The law leaves a context in its ranges for a target in its range (R65, R71, R73). -/
theorem regulate_inRange {x : Regulation} {r : RegRequest} (hx : x.inRange) (hr : r.bounded) (p : CavityProfile)
    (limited : Bool) : (x.regulate r p limited).inRange := by
  obtain ⟨_, hiAcc, hu⟩ := hx
  refine ⟨?_, ?_, ?_⟩
  · rintro _ ⟨rfl⟩
    have hs60 := nextS60_le r x
    unfold RegRequest.bounded at hr
    omega
  · unfold Regulation.regulate
    dsimp only
    split
    · exact integrate_le hiAcc _ _ _ _
    · exact hiAcc
  · have hcapped (u : Nat) (h : u ≤ 1000) : (if r.capped = true then min u p.catalystCap else u) ≤ 1000 := by
      split
      · exact Nat.le_trans (Nat.min_le_left _ _) h
      · exact h
    refine hcapped _ ?_
    split
    · exact clampNat_le _ _
    · exact hu

theorem regulationPowerUp_inRange : Regulation.powerUp.inRange := by
  simp [Regulation.inRange, Regulation.powerUp]

/-! ### The targets of records -/

/-- A record that has passed its checks has no target, or one in the range of its kind (R20, field 2). -/
theorem target_le_of_check {x : RawRecord} {r : PhaseRecord} (h : x.check = .ok r) :
    (r.target.getD 0).toNat ≤ 5000 := by
  cases hk : phaseKindOf x.kind with
  | none =>
    rw [check_of_no_kind hk] at h
    cases h
  | some k =>
    obtain ⟨hpass, rfl⟩ := (check_ok_iff hk r).mp h
    have htarget := passes_of_firstFailing hpass (code := 2) (fails := !x.targetOk k)
      (by simp [RawRecord.fieldChecks])
    rw [Bool.not_eq_false'] at htarget
    cases ht : x.target with
    | none => simp [RawRecord.toRecord, ht]
    | some t =>
      have hrange : t ≤ 5000 := by
        cases k <;> simp_all [RawRecord.targetOk, inTenths]
      simpa [RawRecord.toRecord, ht] using hrange

/-- A request of the Sequencer carries the target of a record of the Phase Table, or none (R44). -/
theorem regRequest_bounded {s : State} (h : TargetsBounded s.recordAt) (c : Cavity) (mode : RegMode)
    (reading : Option CavityReading) : (s.regRequest c mode reading).bounded := by
  unfold RegRequest.bounded RegRequest.targetNat State.regRequest
  dsimp only
  split
  · cases hr : s.phaseRecord c with
    | none => exact Nat.zero_le 5000
    | some r =>
      obtain ⟨n, _, hn⟩ := Option.bind_eq_some_iff.mp hr
      exact h n r hn
  · exact Nat.zero_le 5000

namespace State.InRange

variable {s : State}

/-! ### The Regulation Unit -/

theorem setDemand (hs : s.InRange) (c : Cavity) {d : DemandEntry} (hd : d.u ≤ 1000) : (s.setDemand c d).InRange :=
  hs.of_alloc (by simp [SameOrders]) (hs.alloc.setDemand c hd)

/-- A demand in its range is posted (R76). -/
theorem postDemand (hs : s.InRange) (c : Cavity) {u : Nat} (hu : u ≤ 1000) : (s.postDemand c u).InRange :=
  hs.setDemand c hu

theorem dropRegulation (hs : s.InRange) (c : Cavity) : (s.dropRegulation c).InRange :=
  hs.setMail c fun r hr => hs.box c r (List.mem_of_mem_tail hr)

theorem takeRegulate (hs : s.InRange) (c : Cavity) {r : RegRequest} (hr : r.bounded) :
    (s.takeRegulate c r).InRange := by
  have hx := regulate_inRange (hs.reg c) hr (s.profiles.get c) (s.alloc.powerLimited.get c)
  have ⟨_, _, hu⟩ := hx
  unfold State.takeRegulate
  dsimp only
  split
  · exact ((hs.setReg c hx).postDemand c hu).setMail_of_regulation c (by rfl)
  · exact (hs.setReg c hx).postDemand c hu

theorem takeRegulateRequest (hs : s.InRange) (c : Cavity) : (takeRegulateRequest c s).InRange := by
  cases hbox : (s.box c).regulation with
  | nil => simpa only [Machine.takeRegulateRequest, hbox] using hs
  | cons r rest =>
    simp only [Machine.takeRegulateRequest, hbox]
    split
    · exact (hs.dropRegulation c).takeRegulate c (hs.box c r (by simp [hbox]))
    · exact hs

theorem takeOffRequest (hs : s.InRange) (c : Cavity) : (takeOffRequest c s).InRange := by
  unfold Machine.takeOffRequest
  split
  · exact hs
  · split
    · exact ((hs.dropRegulation c).setReg c regulationPowerUp_inRange).postDemand c (Nat.zero_le 1000)
    · exact hs

/-! ### The Sequencer -/

theorem postRequest (hs : s.InRange) (c : Cavity) (mode : RegMode) (reading : Option CavityReading) :
    (s.postRequest c mode reading).InRange := by
  refine (hs.setMail c (x := { s.box c with
    regulation := (s.box c).regulation ++ [s.regRequest c mode reading] }) fun r hr => ?_).setSeq c _
  rcases List.mem_append.mp hr with hr | hr
  · exact hs.box c r hr
  · obtain rfl := List.mem_singleton.mp hr
    exact regRequest_bounded hs.table c mode reading

theorem settlingTest (hs : s.InRange) (c : Cavity) : (s.settlingTest c).InRange :=
  hs.of_same (by simp [SameRanges, SameOrders])

theorem openRelay (hs : s.InRange) (c : Cavity) : (s.openRelay c).InRange :=
  hs.of_same (by simp [SameRanges, SameOrders])

theorem cycleEvent (hs : s.InRange) (c : Cavity) (outcome : CycleOutcome) (reason : Option AbortReason) :
    (s.cycleEvent c outcome reason).InRange :=
  hs.of_same (by simp [SameRanges, SameOrders])

theorem endCycle (hs : s.InRange) (c : Cavity) (outcome : CycleOutcome) (reason : Option AbortReason)
    (reading : Option CavityReading) : (s.endCycle c outcome reason reading).InRange := by
  have hopened := (hs.postRequest c .off reading).openRelay c
  unfold State.endCycle
  dsimp only
  refine (cycleEvent ?_ c outcome reason).settlingTest c
  split
  · exact ((hopened.setFan _).setSeq c _).setMail_of_regulation c (by rfl)
  · exact (hopened.setFan _).setSeq c _

theorem writeTier (hs : s.InRange) (c : Cavity) (t : Tier) : (s.writeTier c t).InRange := by
  unfold State.writeTier
  dsimp only
  split
  · exact hs
  · have hjoined : (s.setAlloc ((s.alloc.leaveRings c).joinRing c t)).InRange :=
      hs.of_alloc ⟨rfl, rfl, rfl⟩ (hs.alloc.joinRing c t)
    exact hjoined.setDemand c (hs.alloc.demand c)

/-- A phase begin writes the element set and the tier, and no demand (R43). -/
theorem phaseWritten (hs : s.InRange) (c : Cavity) (n : Nat) (r : PhaseRecord) : (s.phaseWritten c n r).InRange := by
  have hwritten := ((hs.setSeq c { s.seq.get c with
    current := some (n, r.kind), phaseElapsed := 0, soakProgress := 0 }).queueEvent .phaseBegun (some c) 0
    (some n) false).setDemand c (d := { s.alloc.demand.get c with elements := r.elements }) (hs.alloc.demand c)
  unfold State.phaseWritten
  dsimp only
  split
  · exact hwritten.writeTier c r.tier
  · exact hwritten.setMail_of_regulation c (by rfl)

theorem beginPhase (hs : s.InRange) (c : Cavity) (entering : Bool) : (s.beginPhase c entering).InRange := by
  unfold State.beginPhase
  split
  · rename_i n r _ _
    cases entering
    · exact ((hs.phaseWritten c n r).setFan _).setSeq c _
    · exact (((hs.phaseWritten c n r).closeRelay c).setFan _).setSeq c _
  · exact hs

theorem enterRunning (hs : s.InRange) (c : Cavity) : (s.enterRunning c).InRange := (hs.setSeq c _).beginPhase c true

theorem endPhase (hs : s.InRange) (c : Cavity) (reading : Option CavityReading) : (s.endPhase c reading).InRange := by
  unfold State.endPhase
  dsimp only
  split
  · split
    · exact (hs.setSeq c _).endCycle c _ _ _
    · exact (hs.setSeq c _).beginPhase c false
  · exact hs

theorem limitReached (hs : s.InRange) (c : Cavity) (r : PhaseRecord) (reading : CavityReading) :
    (s.limitReached c r reading).InRange := by
  unfold State.limitReached
  dsimp only
  split
  · exact (hs.queueEvent _ _ _ _ _).endPhase c _
  · exact (hs.queueEvent _ _ _ _ _).endCycle c _ _ _

theorem phaseTests (hs : s.InRange) (c : Cavity) (reading : CavityReading) : (s.phaseTests c reading).InRange := by
  unfold State.phaseTests
  split
  · exact hs
  · dsimp only
    split_ifs
    · exact (hs.setSeq c _).endPhase c _
    · exact (hs.setSeq c _).limitReached c _ _
    · exact hs.setSeq c _

theorem runningReading (hs : s.InRange) (c : Cavity) (reading : CavityReading) :
    (s.runningReading c reading).InRange := by
  have hcounted : (s.countTime c).InRange := hs.of_same (by simp [SameRanges, SameOrders])
  unfold State.runningReading
  dsimp only
  split
  · exact (hcounted.phaseTests c reading).postRequest c _ _
  · exact hcounted.phaseTests c reading

theorem sequenceReading (hs : s.InRange) (c : Cavity) (reading : CavityReading) :
    (s.sequenceReading c reading).InRange := by
  have hsettling : (s.settlingReading c reading).InRange := hs.of_same (by simp [SameRanges, SameOrders])
  unfold State.sequenceReading
  split
  case h_1 => exact hs.runningReading c reading
  case h_2 | h_3 => exact hsettling
  case h_4 => exact hs.of_same (by simp [SameRanges, SameOrders])
  all_goals exact hs

theorem takeSequencerReading (hs : s.InRange) (c : Cavity) : (takeSequencerReading c s).InRange := by
  unfold Machine.takeSequencerReading
  split
  · exact hs
  · exact (hs.setMail_of_regulation c (by rfl)).sequenceReading c _

theorem takeHeatComplete (hs : s.InRange) (c : Cavity) : (takeHeatComplete c s).InRange := by
  unfold Machine.takeHeatComplete
  split
  · exact hs
  · unfold State.heatCompleted
    dsimp only
    split
    · exact (hs.setMail_of_regulation c (by rfl)).endPhase c none
    · exact hs.setMail_of_regulation c (by rfl)

theorem lockNoticed (hs : s.InRange) (c : Cavity) (n : LockNotice) : (s.lockNoticed c n).InRange := by
  unfold State.lockNoticed
  split
  · exact hs.enterRunning c
  · exact hs.endCycle c _ _ none
  · exact hs.settlingTest c
  · exact hs.settlingTest c
  · exact hs

theorem takeLockNotice (hs : s.InRange) (c : Cavity) : (takeLockNotice c s).InRange := by
  unfold Machine.takeLockNotice
  split
  · exact hs
  · exact (hs.setMail_of_regulation c (by rfl)).lockNoticed c _

theorem tripNoticed (hs : s.InRange) (c : Cavity) : (s.tripNoticed c).InRange := by
  unfold State.tripNoticed
  dsimp only
  split
  case h_1 | h_2 => exact hs.endCycle c _ _ none
  case h_3 => exact (hs.setSeq c _).settlingTest c
  case h_4 | h_5 => exact hs.setSeq c _
  case h_6 | h_7 => exact hs

theorem takeTripNotice (hs : s.InRange) (c : Cavity) : (takeTripNotice c s).InRange := by
  unfold Machine.takeTripNotice
  split
  · exact hs
  · exact (hs.setMail_of_regulation c (by rfl)).tripNoticed c

theorem acceptStart (hs : s.InRange) (c : Cavity) (walked : List Nat) (locks : Bool) :
    (s.acceptStart c walked locks).InRange := by
  unfold State.acceptStart
  dsimp only
  split
  · exact (hs.setSeq c _).setLock c _
  · exact (hs.setSeq c _).enterRunning c

theorem finishStart (hs : s.InRange) (c : Cavity) (table : Nat → Option PhaseRecord)
    (chain : Except (Nat × ChainCheck) (List Nat)) {write : State → State} (hwrite : (write s).InRange) :
    (s.finishStart c table chain write).1.InRange := by
  unfold State.finishStart
  split
  · exact hs
  · split
    · exact hs
    · exact hwrite.acceptStart c _ _

/-! ### The profiles -/

theorem disableCavity (hs : s.InRange) (c : Cavity) : (disableCavity s c).InRange := by
  have hreset : (resetChannels s c).InRange := hs.of_same (by simp [SameRanges, SameOrders])
  have hregulated := ((hreset.setRecord (r := none) (inlineSlot_lt c) (by simp)).setSeq c
    (Sequencer.fresh .absent)).setReg c regulationPowerUp_inRange
  have hallocated := hregulated.of_alloc (by simp [SameOrders]) (disableAlloc_inRange hregulated.alloc c)
  unfold Machine.disableCavity
  extract_lets s₁ s₂ s₃
  have hopened : s₂.InRange := hallocated.openRelay c
  have hgranted : (s₂.setGrants s₂.alloc.grants).InRange :=
    hopened.of_alloc (by simp [SameOrders]) (setGrants_inRange hopened.alloc _)
  have hlimited : s₃.InRange := hgranted.of_same (by simp [SameRanges, SameOrders, s₃])
  exact hlimited.setMail c fun r hr => by cases hr

theorem enableCavity (hs : s.InRange) (c : Cavity) : (enableCavity s c).InRange := by
  have hsequenced : (s.enableSequencer c).InRange := hs.setSeq c _
  have hallocated := hsequenced.of_alloc (t := (s.enableSequencer c).enableAlloc c) (by simp [SameOrders])
    (enableAlloc_inRange hsequenced.alloc c)
  unfold Machine.enableCavity
  extract_lets s₁
  have hreset : s₁.InRange := hallocated.of_same (by simp [SameRanges, SameOrders, s₁])
  exact ((hreset.setFan _).setLimit c _).enableLock c

theorem acceptAppliance (hs : s.InRange) (a : ApplianceProfile) : (s.acceptAppliance a).InRange := by
  have hboth (off on : List Cavity) :
      (on.foldl Machine.enableCavity (off.foldl Machine.disableCavity { s with appliance := a })).InRange :=
    List.foldlRecOn on _
      (List.foldlRecOn off _ (hs.of_same ⟨⟨rfl, rfl, rfl⟩, rfl⟩) fun _ ht c _ => ht.disableCavity c)
      fun _ ht c _ => ht.enableCavity c
  unfold State.acceptAppliance
  dsimp only
  split
  · exact hboth _ _
  · exact (hboth _ _).rebudget

theorem acceptProfile (hs : s.InRange) (c : Cavity) (x : CavityProfile) : (s.acceptProfile c x).InRange := by
  unfold State.acceptProfile
  extract_lets q s₁
  have hbound : (s₁.rebuildOutputs c x).InRange := hs.of_same (by simp [SameRanges, SameOrders, s₁])
  have hrebuilt : ((s₁.rebuildOutputs c x).rebuildRequests c).InRange :=
    hbound.of_alloc (by simp [SameOrders]) (rebuildRequests_inRange hbound.alloc c)
  exact hrebuilt.setReg c regulationPowerUp_inRange

theorem clearTrip (hs : s.InRange) (c : Cavity) : (s.clearTrip c).InRange := by
  unfold State.clearTrip
  dsimp only
  split
  · exact (((hs.setMail_of_regulation c (by rfl)).setLimit c _).setSeq c _).queueEvent _ _ _ _ _
  · exact (hs.setMail_of_regulation c (by rfl)).setSeq c _

end State.InRange

/-! ### The requests -/

theorem readEvents_reads (p : List Byte) (s : State) : (readEvents p s).1 = s := by
  unfold readEvents
  dsimp only
  split <;> rfl

theorem readPhase_reads (p : List Byte) (s : State) : (readPhase p s).1 = s := by
  unfold readPhase
  dsimp only
  split <;> rfl

theorem readProfile_reads (p : List Byte) (s : State) : (readProfile p s).1 = s := by
  unfold readProfile
  split
  · rfl
  · split <;> rfl

theorem setAttention_keepsInRange : OwnerKeeps State.InRange setAttention := by
  intro p s hs
  unfold setAttention
  dsimp only
  split
  · exact hs
  · exact hs.setLink _

theorem setFanFloor_keepsInRange : OwnerKeeps State.InRange setFanFloor := by
  intro p s hs
  unfold setFanFloor
  dsimp only
  split
  · exact hs
  · exact hs.setFan _

theorem setSupply_keepsInRange : OwnerKeeps State.InRange setSupply := by
  intro p s hs
  unfold setSupply
  split
  · exact hs
  · exact hs.setAlloc_rebudget (hs.alloc.of_eq rfl rfl rfl)

theorem declareLoad_keepsInRange : OwnerKeeps State.InRange declareLoad := by
  intro p s hs
  unfold declareLoad
  split
  · exact hs
  · exact hs.setAlloc_rebudget (hs.alloc.of_eq rfl rfl rfl)

/-- A record that is written has passed its checks (R20, R21). -/
theorem writePhase_keepsInRange : OwnerKeeps State.InRange writePhase := by
  intro p s hs
  unfold writePhase
  dsimp only
  split
  · exact hs
  · rename_i hindex
    have hindex : byteAt p 0 < 48 := Nat.lt_of_not_le hindex
    split
    · exact hs
    · rename_i r hcheck
      split
      · exact hs
      · refine hs.setRecord (by omega) ?_
        rintro _ ⟨rfl⟩
        exact target_le_of_check hcheck

theorem erasePhase_keepsInRange : OwnerKeeps State.InRange erasePhase := by
  intro p s hs
  unfold erasePhase
  dsimp only
  split
  · exact hs
  · rename_i hindex
    have hindex : byteAt p 0 < 48 := Nat.lt_of_not_le hindex
    split
    · exact hs
    · exact hs.setRecord (by omega) (by simp)

theorem startCycle_keepsInRange : OwnerKeeps State.InRange startCycle :=
  ownerKeeps_ofCavity fun c p s hs => by
    dsimp only
    split
    · exact hs
    · split
      · exact hs
      · exact hs.finishStart c _ _ hs

/-- An inline record that is started has passed its checks (R20, R31). -/
theorem startInline_keepsInRange : OwnerKeeps State.InRange startInline :=
  ownerKeeps_ofCavity fun c p s hs => by
    dsimp only
    split
    · exact hs
    · split
      · exact hs
      · rename_i r hcheck
        refine hs.finishStart c _ _ (hs.setRecord (inlineSlot_lt c) ?_)
        rintro _ ⟨rfl⟩
        exact target_le_of_check hcheck

theorem abortCycle_keepsInRange : OwnerKeeps State.InRange abortCycle :=
  ownerKeeps_ofCavity fun c p s hs => by
    split
    case h_1 | h_2 => exact hs.endCycle c _ _ none
    case h_3 => exact hs

theorem lockDoor_keepsInRange : OwnerKeeps State.InRange lockDoor :=
  ownerKeeps_ofCavity fun c p s hs => by
    dsimp only
    split
    · exact hs
    · split
      case h_5 =>
        split
        · exact hs
        · exact hs.setLock c _
      all_goals exact hs

theorem unlockDoor_keepsInRange : OwnerKeeps State.InRange unlockDoor :=
  ownerKeeps_ofCavity fun c p s hs => by
    dsimp only
    split
    · exact hs
    · split
      case h_4 =>
        split_ifs
        · exact hs
        · exact hs.lockReleased c _
        · exact hs.setLock c _
      all_goals exact hs

theorem applianceProfile_keepsInRange : OwnerKeeps State.InRange applianceProfile := by
  intro p s hs
  unfold applianceProfile
  split
  · exact hs
  · exact hs.acceptAppliance _

theorem cavityProfile_keepsInRange : OwnerKeeps State.InRange cavityProfile :=
  ownerKeeps_ofCavity fun c p s hs => by
    split
    · exact hs
    · exact hs.acceptProfile c _

theorem clearTrip_keepsInRange : OwnerKeeps State.InRange clearTrip :=
  ownerKeeps_ofCavity fun c p s hs => by
    split
    · exact hs
    · exact hs.clearTrip c

theorem ownerOf_keepsInRange (before : LinkState) (k : RequestKind) :
    OwnerKeeps State.InRange (ownerOf before k) := by
  cases k with
  | identify | readStatus | readSensor => exact ownerKeeps_of_reads fun _ _ => rfl
  | readTrip => exact ownerKeeps_ofCavity fun _ => ownerKeeps_of_reads fun _ _ => rfl
  | readEvents => exact ownerKeeps_of_reads readEvents_reads
  | readPhase => exact ownerKeeps_of_reads readPhase_reads
  | readProfile => exact ownerKeeps_of_reads readProfile_reads
  | setAttention => exact setAttention_keepsInRange
  | setFanFloor => exact setFanFloor_keepsInRange
  | setSupply => exact setSupply_keepsInRange
  | declareLoad => exact declareLoad_keepsInRange
  | writePhase => exact writePhase_keepsInRange
  | erasePhase => exact erasePhase_keepsInRange
  | startCycle => exact startCycle_keepsInRange
  | startInline => exact startInline_keepsInRange
  | abortCycle => exact abortCycle_keepsInRange
  | lockDoor => exact lockDoor_keepsInRange
  | unlockDoor => exact unlockDoor_keepsInRange
  | applianceProfile => exact applianceProfile_keepsInRange
  | cavityProfile => exact cavityProfile_keepsInRange
  | clearTrip => exact clearTrip_keepsInRange

theorem framesKeep_inRange : FramesKeep State.InRange where
  heard _ hs := hs.heard
  answer _ _ _ _ _ hs := hs.of_same (by simp [SameRanges, SameOrders])
  receiver _ _ hs := hs.setLink _
  owner := ownerOf_keepsInRange

/-! ### Power-up -/

theorem poweredUp_inRange (s : State) (pins : PowerUpPins) : (s.poweredUp pins).InRange := by
  refine ⟨fun c => ?_, ⟨fun c => ?_, ?_, Nat.le_refl 1, Nat.le_add_left 1 29⟩, fun c r hr => ?_,
    fun n r hr => ?_⟩
  · simpa [State.poweredUp, State.reset] using regulationPowerUp_inRange
  · simp [State.poweredUp, State.reset, Allocator.powerUp, DemandEntry.powerUp]
  · rintro ⟨c, e⟩ r hr
    cases e <;> simp [State.poweredUp, State.reset, Allocator.powerUp, Allocator.record, noRecords,
      PerElement.get] at hr
  · simp [State.box, State.poweredUp, State.reset, Mail.empty, Mailbox.empty] at hr
  · simp only [State.recordAt, State.poweredUp, State.reset, Vector.getElem?_replicate] at hr
    split at hr <;> cases hr

theorem powerUp_inRange (pins : PowerUpPins) (s : State) : (powerUp pins s).InRange := by
  refine List.foldlRecOn Cavity.all recoverCavity (poweredUp_inRange s pins) fun t ht c _ => ?_
  unfold recoverCavity
  dsimp only
  split
  · exact ((ht.setSeq c _).queueEvent _ _ _ _ _).raiseIf _ c _
  · exact ht

/-! ### Every command -/

theorem exec_inRange {s t : State} {i : Instr} (hs : s.InRange) (h : exec i s = .next t) : t.InRange := by
  cases i <;> cases h
  case powerUp pins => exact powerUp_inRange pins s
  case wholeSecondReading board => exact hs.wholeSecond board
  case sequencerCavityReading c => exact hs.takeSequencerReading c
  case regulateRequest c => exact hs.takeRegulateRequest c
  case offRequest c => exact hs.takeOffRequest c
  case heatCompleteNotice c => exact hs.takeHeatComplete c
  case lockNotice c => exact hs.takeLockNotice c
  case tripNotice c => exact hs.takeTripNotice c
  case slotEvent => exact hs.takeSlot
  case grantWithdrawNotice c => exact hs.takeWithdrawNotice c
  case senseCheck loads => exact hs.checkSense loads
  case doorChange c value => exact hs.changeDoor c value
  case lockSwitchChange c value => exact hs.changeLockSwitch c value
  case engageTravelTimeout c => exact hs.engageTimeout c
  case releaseTravelTimeout c => exact hs.releaseTimeout c
  case reversalTimeReached c => exact hs.reversalReached c
  case cutoutChange c value => exact hs.changeCutout c value
  case supervisorCavityReading c => exact hs.takeSupervisorReading c
  case supervisorBoardReading => exact hs.takeSupervisorBoard
  case supplyRelayClosed c => exact hs.takeRelayClosing c
  case fanCavityReading c => exact hs.takeFanReading c
  case fanBoardReading => exact hs.takeFanBoard
  case fanEvaluation => exact hs.evaluateFan
  case quietTimeout => exact hs.quietReached
  case lineBreak => exact hs.takeBreak
  case frameDiscarded chars | frameForOtherNode chars => exact framesKeep_inRange.takeChars hs chars
  case unknownKind h code p | frameWhileReplyOwed h code p => exact framesKeep_inRange.takeFrame hs h _ p
  case applianceProfile h p pins =>
    have hread : ({ s with pins := pins } : State).InRange := hs.of_same ⟨⟨rfl, rfl, rfl⟩, rfl⟩
    exact framesKeep_inRange.takeRequest hread s.link.state .applianceProfile h p
  case sampleInstant | characterGapTimeout | replyComplete | tachPulse | lineReturnHigh =>
    exact hs.of_same (by simp [SameRanges, SameOrders])
  all_goals exact framesKeep_inRange.takeRequest hs s.link.state _ _ _

/-- Settles O9, by the command at the front of the queue; a tenth of a second changes nothing that the ranges read. -/
theorem requestsStayBounded : Obligations.RequestsStayBounded := by
  intro s t hrequests hregulation h
  have hs : s.InRange := (inRange_iff s).mpr ⟨hrequests, hregulation⟩
  refine (inRange_iff t).mp ?_
  unfold step at h
  split at h
  · rename_i i rest _
    have htaken : ({ s with pending := rest } : State).InRange := hs.of_same ⟨⟨rfl, rfl, rfl⟩, rfl⟩
    exact exec_inRange htaken h
  · cases h
    exact hs.of_same ⟨⟨rfl, rfl, rfl⟩, rfl⟩

end Sys2Proof.Machine
end

section
/-! PROOF. The commands of the Regulation Unit (R65 to R77): the terms of the law, the context that a REGULATE request
leaves, and what the two commands change. -/

namespace Sys2Proof.Machine

/-! ### The terms of the law -/

theorem clampNat_cast (hi : Nat) (x : Int) : (clampNat hi x : Int) = max 0 (min (hi : Int) x) := by
  unfold clampNat
  omega

/-- Integration is skipped where the error would drive the demand past a bound at which it stands, or where power is
limited (R72). -/
theorem frozen_iff (x : Regulation) (e : Int) (cap : Nat) (limited : Bool) :
    x.frozen e cap limited = true ↔
      (0 < e ∧ (limited = true ∨ x.u = if x.capInForce then cap else 1000)) ∨ (e < 0 ∧ x.u = 0) := by
  unfold Regulation.frozen Regulation.bound
  rcases lt_trichotomy e 0 with hnegative | rfl | hpositive
  · simp [hnegative, hnegative.not_gt]
  · simp
  · simp [hpositive, hpositive.not_gt]

/-- The catalyst cap is in force for a gate that the catalyst probe does not show reached (R74). -/
theorem capped_iff (r : RegRequest) :
    r.capped = true ↔ ∃ gate, r.gate = some gate ∧ ¬ ((r.catalyst = .valid ∨ r.catalyst = .suspect) ∧
      ∃ tf, r.catalystTf = some tf ∧ gate ≤ tf) := by
  cases hgate : r.gate with
  | none => simp [RegRequest.capped, hgate]
  | some gate =>
    by_cases husable : r.catalyst = .valid ∨ r.catalyst = .suspect
    · cases htf : r.catalystTf <;> simp [RegRequest.capped, hgate, usable_eq, husable, htf]
    · simp [RegRequest.capped, hgate, usable_eq, husable]

section
variable {r : RegRequest} {kind : PhaseKind} {target : Nat}

theorem targetNat_of_target (htarget : r.target = some (target : Int)) : r.targetNat = target := by
  simp [RegRequest.targetNat, htarget]

/-- The heat-complete test in the terms of R77. -/
theorem heatComplete_iff (hkind : r.kind = some kind) (htarget : r.target = some (target : Int)) (sent : Bool)
    (sp approach : Nat) :
    r.heatComplete sent sp approach = true ↔ kind = .heat ∧ sent = false ∧ sp = target ∧
      ∃ tf, r.tf = some tf ∧ (target : Int) - approach ≤ tf := by
  cases htf : r.tf <;> simp [RegRequest.heatComplete, htf, hkind, targetNat_of_target htarget, and_assoc]

end

/-! ### The context after a REGULATE request -/

section
variable {x : Regulation} {r : RegRequest} {p : CavityProfile} {limited : Bool}

theorem integrate_of_frozen {e : Int} {ki cap : Nat} (h : x.frozen e cap limited = true) :
    x.integrate e ki cap limited = x.iAcc := if_pos h

theorem integrate_of_not_frozen {e : Int} {ki cap : Nat} (h : ¬ x.frozen e cap limited = true) :
    (x.integrate e ki cap limited : Int) = max 0 (min 1000000 ((x.iAcc : Int) + ki * e)) := by
  rw [Regulation.integrate, if_neg h, clampNat_cast]
  rfl

/-- With a Tf the integral follows the error of the setpoint (R70, R71). -/
theorem regulate_iAcc_of_tf {tf : Int} (htf : r.tf = some tf) :
    (x.regulate r p limited).iAcc =
      x.integrate (((r.nextS60 x / 60 : Nat) : Int) - tf) p.ki p.catalystCap limited := by
  simp [Regulation.regulate, htf]

/-- With a Tf the demand is that of the law, cut to the catalyst cap where the cap is in force (R73, R74). -/
theorem regulate_u_of_tf {tf : Int} (htf : r.tf = some tf) :
    (x.regulate r p limited).u =
      if r.capped then
        min (demandOf (proportional p.kp (((r.nextS60 x / 60 : Nat) : Int) - tf)) (x.regulate r p limited).iAcc)
          p.catalystCap
      else demandOf (proportional p.kp (((r.nextS60 x / 60 : Nat) : Int) - tf)) (x.regulate r p limited).iAcc := by
  simp [Regulation.regulate, htf]

/-- Without a Tf the integral is held (R75). -/
theorem regulate_iAcc_of_no_tf (htf : r.tf = none) : (x.regulate r p limited).iAcc = x.iAcc := by
  simp [Regulation.regulate, htf]

/-- Without a Tf the demand is held, cut to the catalyst cap where the cap is in force (R74, R75). -/
theorem regulate_u_of_no_tf (htf : r.tf = none) :
    (x.regulate r p limited).u = if r.capped then min x.u p.catalystCap else x.u := by
  simp [Regulation.regulate, htf]

/-- Heat-complete sent is set by the notice of the request, and otherwise kept within a phase (R67, R77). -/
theorem regulate_heatSent : (x.regulate r p limited).heatSent = ((x.heatSent && !r.begins x) || x.notifies r p) := rfl

end

/-! ### The two commands -/

section
variable {s : State} {c : Cavity} {r : RegRequest} {rest : List RegRequest}

/-- The request taken leaves the mailbox. -/
theorem dropRegulation_eq (hbox : (s.box c).regulation = r :: rest) :
    s.dropRegulation c = s.setMail c { s.box c with regulation := rest } := by
  simp only [State.dropRegulation, hbox, List.tail_cons]

theorem exec_offRequest (hbox : (s.box c).regulation = r :: rest) (hmode : r.mode = .off) :
    exec (.offRequest c) s = .next ((s.setMail c { s.box c with regulation := rest }).takeOff c) := by
  refine congrArg Host.Outcome.next ?_
  simp only [takeOffRequest, hbox, hmode, if_true, dropRegulation_eq hbox]

theorem setReg_keepsOthers (s : State) (c : Cavity) (x : Regulation) : KeepsOthers s (s.setReg c x) c := by
  simp +contextual [KeepsOthers, State.box]

/-- The context that a REGULATE request of a cavity leaves. -/
def State.regulated (s : State) (c : Cavity) (r : RegRequest) : Regulation :=
  (s.reg.get c).regulate r (s.profiles.get c) (s.alloc.powerLimited.get c)

theorem takeRegulate_keepsOthers (s : State) (c : Cavity) (r : RegRequest) :
    KeepsOthers s (s.takeRegulate c r) c := by
  have hposted (u : Nat) := (setReg_keepsOthers s c (s.regulated c r)).trans (setDemand_keepsOthers _ c
    { s.alloc.demand.get c with u := u, withdraw := (s.alloc.demand.get c).withdraw || decide (u = 0) })
  unfold State.takeRegulate
  dsimp only
  split
  · exact (hposted _).trans (setMail_keepsOthers _ c _)
  · exact hposted _

/-- The parts that the law leaves: the context, the demand posted and the notice (R76 to R78). -/
theorem takeRegulate_parts (s : State) (c : Cavity) (r : RegRequest) :
    (s.takeRegulate c r).reg.get c = s.regulated c r ∧
    (s.takeRegulate c r).alloc = { s.alloc with demand := s.alloc.demand.set c { s.alloc.demand.get c with
      u := (s.regulated c r).u
      withdraw := (s.alloc.demand.get c).withdraw || decide ((s.regulated c r).u = 0) } } ∧
    (s.takeRegulate c r).box c =
      if (s.reg.get c).notifies r (s.profiles.get c) then
        { s.box c with heatComplete := (s.box c).heatComplete ++ [r.position] }
      else s.box c := by
  unfold State.takeRegulate
  dsimp only
  split
  · exact ⟨by simp [State.regulated], rfl, by simp [State.sendHeatComplete, State.box]⟩
  · exact ⟨by simp [State.regulated], rfl, by simp [State.box]⟩

/-- What the command makes of the cavity whose oldest request has mode REGULATE (R65, R78). -/
theorem exec_regulateRequest (hbox : (s.box c).regulation = r :: rest) (hmode : r.mode = .regulate) :
    ∃ t : State, exec (.regulateRequest c) s = .next t ∧ t.reg.get c = s.regulated c r ∧
      t.alloc = { s.alloc with demand := s.alloc.demand.set c { s.alloc.demand.get c with
        u := (s.regulated c r).u
        withdraw := (s.alloc.demand.get c).withdraw || decide ((s.regulated c r).u = 0) } } ∧
      t.box c = (if (s.reg.get c).notifies r (s.profiles.get c) then
          { s.box c with regulation := rest, heatComplete := (s.box c).heatComplete ++ [r.position] }
        else { s.box c with regulation := rest }) ∧
      KeepsOthers s t c ∧ t.seq = s.seq ∧ t.locks = s.locks ∧ t.drive = s.drive ∧ t.limit = s.limit ∧
      t.link = s.link ∧ t.fan = s.fan ∧ t.table = s.table := by
  obtain ⟨hreg, halloc, hmail⟩ := takeRegulate_parts (s.setMail c { s.box c with regulation := rest }) c r
  rw [setMail_box] at hmail
  refine ⟨_, congrArg Host.Outcome.next ?_, hreg, halloc, hmail,
    (setMail_keepsOthers s c _).trans (takeRegulate_keepsOthers _ c r), by simp, by simp, by simp, by simp, by simp,
    by simp, by simp⟩
  simp only [takeRegulateRequest, hbox, hmode, if_true, dropRegulation_eq hbox]

end

/-- Settles O42, by the two writes of an OFF request: the context at power-up and the demand 0. -/
theorem offRequestResets : Obligations.OffRequestResets := by
  intro s c r rest hbox hmode
  rw [exec_offRequest hbox hmode]
  simp [State.takeOff, State.postDemand, State.setDemand, State.setReg, State.setAlloc, State.setMail,
    Regulation.powerUp]

/-- Settles O43, item by item of the context that the request leaves. -/
theorem regulateRunsTheLaw : Obligations.RegulateRunsTheLaw := by
  intro s c r rest kind target hbox hmode hkind hheats htarget x p begins start s60 sp bound frozen capped sent
  obtain ⟨t, hexec, hreg, halloc, hmail, hframe⟩ := exec_regulateRequest hbox hmode
  have hs60 : r.nextS60 x = s60 := by
    rcases hheats with rfl | rfl
    · cases hramp : r.ramp <;> simp [RegRequest.nextS60, RegRequest.rampStep, RegRequest.startS60, RegRequest.begins,
        hkind, hramp, targetNat_of_target htarget, s60, start, begins]
    · simp [RegRequest.nextS60, hkind, targetNat_of_target htarget, s60]
  have hsp : r.nextS60 x / 60 = sp := congrArg (· / 60) hs60
  have hfrozen (e : Int) : x.frozen e p.catalystCap (s.alloc.powerLimited.get c) = true ↔ frozen e :=
    frozen_iff _ _ _ _
  have hcapped : r.capped = true ↔ capped := capped_iff r
  have hnotifies : x.notifies r p = true ↔ kind = .heat ∧ sent = false ∧ sp = target ∧
      ∃ tf, r.tf = some tf ∧ (target : Int) - p.approachBand ≤ tf := by
    rw [Regulation.notifies, hsp]
    exact heatComplete_iff hkind htarget sent sp p.approachBand
  refine ⟨t, hexec, ?_⟩
  rw [hreg, State.regulated]
  refine ⟨congrArg some hs60, fun tf htf h => ?_, fun tf htf h => ?_, fun htf => ?_, hcapped, fun tf htf => ?_,
    fun htf => ?_, halloc, fun h => ?_, fun h => ?_, hframe⟩
  · rw [regulate_iAcc_of_tf htf, hsp]
    exact integrate_of_frozen ((hfrozen _).mpr h)
  · rw [regulate_iAcc_of_tf htf, hsp]
    exact integrate_of_not_frozen ((hfrozen _).not.mpr h)
  · exact regulate_iAcc_of_no_tf htf
  · intro u
    have hu : (demandOf (proportional p.kp ((sp : Int) - tf))
        (x.regulate r p (s.alloc.powerLimited.get c)).iAcc : Int) = u := clampNat_cast 1000 _
    rw [regulate_u_of_tf htf, hsp]
    refine ⟨fun h => ?_, fun h => ?_⟩
    · rw [if_pos (hcapped.mpr h), Nat.cast_min, hu]
    · rw [if_neg (hcapped.not.mpr h), hu]
  · rw [regulate_u_of_no_tf htf]
    exact ⟨fun h => if_pos (hcapped.mpr h), fun h => if_neg (hcapped.not.mpr h)⟩
  · have hsends : x.notifies r p = true := hnotifies.mpr h
    exact ⟨by rw [regulate_heatSent, hsends, Bool.or_true], hmail.trans (if_pos hsends)⟩
  · have hsends : ¬ x.notifies r p = true := hnotifies.not.mpr h
    refine ⟨?_, hmail.trans (if_neg hsends)⟩
    rw [regulate_heatSent, Bool.eq_false_of_not_eq_true hsends, Bool.or_false]
    rfl

end Sys2Proof.Machine
end

section
/-! PROOF. The grant passes (R94, R96): what a pass adds, what it spends of the budget and what it leaves behind, and
with them that first-fit leaves nothing behind that fits. -/

namespace Sys2Proof.Machine

/-! ### One pass -/

section
variable (watts : CavityElement → Nat) (qualifies : CavityElement → Bool)

theorem grantPass_cons (x : CavityElement) (xs : List CavityElement) (p : PassState) :
    grantPass watts qualifies (x :: xs) p = grantPass watts qualifies xs
      (if qualifies x && !p.granted.contains x && decide (watts x ≤ p.remaining) then
        ⟨p.granted ++ [x], p.remaining - watts x⟩ else p) := by
  rw [grantPass]
  split <;> rfl

/-- A pass adds its grants behind those that stand. -/
theorem grantPass_prefix (xs : List CavityElement) (p : PassState) :
    p.granted <+: (grantPass watts qualifies xs p).granted := by
  induction xs generalizing p with
  | nil => exact List.prefix_refl _
  | cons x xs ih =>
    rw [grantPass_cons]
    split
    · exact (List.prefix_append p.granted [x]).trans (ih ⟨p.granted ++ [x], p.remaining - watts x⟩)
    · exact ih p

/-- A pass spends the rated watts of what it grants, and no more. -/
theorem grantPass_sum (xs : List CavityElement) (p : PassState) :
    ((grantPass watts qualifies xs p).granted.map watts).sum + (grantPass watts qualifies xs p).remaining =
      (p.granted.map watts).sum + p.remaining := by
  induction xs generalizing p with
  | nil => rfl
  | cons x xs ih =>
    rw [grantPass_cons, ih]
    split
    · rename_i h
      simp only [Bool.and_eq_true, decide_eq_true_eq] at h
      simp only [List.map_append, List.sum_append, List.map_cons, List.map_nil, List.sum_cons, List.sum_nil]
      omega
    · rfl

/-- What a pass grants stands among its candidates and qualifies. -/
theorem mem_grantPass {xs : List CavityElement} {p : PassState} {x : CavityElement}
    (h : x ∈ (grantPass watts qualifies xs p).granted) : x ∈ p.granted ∨ x ∈ xs ∧ qualifies x = true := by
  induction xs generalizing p with
  | nil => exact .inl h
  | cons y xs ih =>
    rw [grantPass_cons] at h
    rcases ih h with hp | ⟨hx, hq⟩
    · split at hp
      · rename_i hy
        obtain ⟨⟨hq, _⟩, _⟩ := by simpa only [Bool.and_eq_true] using hy
        rcases List.mem_append.mp hp with hp | hp
        · exact .inl hp
        · obtain rfl := List.mem_singleton.mp hp
          exact .inr ⟨List.mem_cons_self, hq⟩
      · exact .inl hp
    · exact .inr ⟨List.mem_cons_of_mem y hx, hq⟩

/-- No pass grants an element twice. -/
theorem grantPass_nodup {xs : List CavityElement} {p : PassState} (hp : p.granted.Nodup) :
    (grantPass watts qualifies xs p).granted.Nodup := by
  induction xs generalizing p with
  | nil => exact hp
  | cons x xs ih =>
    rw [grantPass_cons]
    refine ih ?_
    split
    · rename_i h
      simp only [Bool.and_eq_true, Bool.not_eq_true', List.contains_eq_mem, decide_eq_false_iff_not] at h
      obtain ⟨⟨_, hout⟩, _⟩ := h
      simpa using hp.concat hout
    · exact hp

/-- A candidate that qualifies and is passed over does not fit in what the pass leaves (R96). -/
theorem lt_of_not_mem_grantPass {xs : List CavityElement} {p : PassState} {x : CavityElement} (hx : x ∈ xs)
    (hq : qualifies x = true) (h : x ∉ (grantPass watts qualifies xs p).granted) :
    (grantPass watts qualifies xs p).remaining < watts x := by
  induction xs generalizing p with
  | nil => cases hx
  | cons y xs ih =>
    rw [grantPass_cons] at h ⊢
    rcases List.mem_cons.mp hx with rfl | hx
    · have hkept := (grantPass_prefix watts qualifies xs
        (if qualifies x && !p.granted.contains x && decide (watts x ≤ p.remaining) then
          ⟨p.granted ++ [x], p.remaining - watts x⟩ else p)).subset
      have hsum := grantPass_sum watts qualifies xs p
      have hle : (p.granted.map watts).sum ≤ ((grantPass watts qualifies xs p).granted.map watts).sum :=
        ((grantPass_prefix watts qualifies xs p).sublist.map watts).sum_le_sum fun _ _ => Nat.zero_le _
      split at h
      · rename_i hgrant
        rw [if_pos hgrant] at hkept
        exact absurd (hkept (by simp)) h
      · rename_i hskip
        rw [if_neg hskip] at hkept ⊢
        have hout : x ∉ p.granted := fun hmem => h (hkept hmem)
        have hbig : ¬ watts x ≤ p.remaining := by simpa [hq, hout] using hskip
        omega
    · exact ih hx h

end

/-! ### The three passes -/

section
variable (s : State)

/-- The passes share the available budget between what they grant and what they leave (R96). -/
theorem passOne_sum : s.alloc.sumOf s.passOne.granted + s.passOne.remaining = s.alloc.available :=
  (grantPass_sum s.alloc.watts s.alloc.isOverdue s.candidates ⟨[], s.alloc.available⟩).trans (Nat.zero_add _)

theorem passTwo_sum : s.alloc.sumOf s.passTwo.granted + s.passTwo.remaining = s.alloc.available :=
  (grantPass_sum s.alloc.watts s.alloc.isHeld s.candidates s.passOne).trans (passOne_sum s)

theorem passThree_sum : s.alloc.sumOf s.passThree.granted + s.passThree.remaining = s.alloc.available :=
  (grantPass_sum s.alloc.watts (fun _ => true) s.candidates s.passTwo).trans (passTwo_sum s)

theorem passThree_fits : s.alloc.sumOf s.passThree.granted ≤ s.alloc.available := by
  have := passThree_sum s
  omega

theorem passThree_nodup : s.passThree.granted.Nodup :=
  grantPass_nodup _ _ (grantPass_nodup _ _ (grantPass_nodup _ _ List.nodup_nil))

variable {s} {x : CavityElement}

theorem mem_passOne (h : x ∈ s.passOne.granted) : x ∈ s.candidates ∧ s.alloc.isOverdue x = true :=
  (mem_grantPass _ _ h).resolve_left (by simp)

theorem mem_candidates_of_granted (h : x ∈ s.passThree.granted) : x ∈ s.candidates := by
  rcases mem_grantPass _ _ h with htwo | ⟨hx, _⟩
  · rcases mem_grantPass _ _ htwo with hone | ⟨hx, _⟩
    · exact (mem_passOne hone).1
    · exact hx
  · exact hx

theorem mem_candidates_iff : x ∈ s.candidates ↔ x.1 ∈ s.alloc.priority ∧ s.eligible x = true := by
  obtain ⟨c, e⟩ := x
  simp [State.candidates, Element.mem_all]

theorem passOne_prefix_passThree : s.passOne.granted <+: s.passThree.granted :=
  (grantPass_prefix s.alloc.watts s.alloc.isHeld s.candidates s.passOne).trans
    (grantPass_prefix s.alloc.watts (fun _ => true) s.candidates s.passTwo)

end

/-! ### What the passes leave behind -/

/-- Settles O45: a candidate passed over by the last pass, and an overdue one by the first, is larger than what that
pass leaves of the budget. -/
theorem passesAreFirstFit : Obligations.PassesAreFirstFit := by
  intro s x helig hring hout
  change x ∉ s.passThree.granted at hout
  have hx : x ∈ s.candidates := mem_candidates_iff.mpr ⟨hring, helig⟩
  refine ⟨?_, fun hoverdue => ⟨?_, fun y hy => (mem_passOne hy).2⟩⟩
  · have hleft : s.passThree.remaining < s.alloc.watts x := lt_of_not_mem_grantPass _ _ hx rfl hout
    have hsum := passThree_sum s
    change s.alloc.available < s.alloc.sumOf s.passThree.granted + s.alloc.watts x
    omega
  · have hout' : x ∉ s.passOne.granted := fun h => hout (passOne_prefix_passThree.subset h)
    have hleft : s.passOne.remaining < s.alloc.watts x := lt_of_not_mem_grantPass _ _ hx hoverdue hout'
    have hsum := passOne_sum s
    omega

end Sys2Proof.Machine
end

section
/-! PROOF. A slot event stage by stage (R88 to R101): what each stage makes of a request record and of the Allocator's
other parts. -/

namespace Sys2Proof.Machine

/-! ### Rated watts -/

theorem watts_eq (a : Allocator) (x : CavityElement) : a.watts x = ((a.record x).map RequestRecord.watts).getD 0 := by
  unfold Allocator.watts
  split <;> simp [*]

theorem watts_congr {a b : Allocator} {x : CavityElement} (h : b.record x = a.record x) : b.watts x = a.watts x := by
  rw [watts_eq, watts_eq, h]

theorem sumOf_congr {a b : Allocator} {xs : List CavityElement} (h : ∀ x ∈ xs, b.watts x = a.watts x) :
    b.sumOf xs = a.sumOf xs := by
  unfold Allocator.sumOf
  rw [List.map_congr_left h]

/-- Grants that leave the list take their watts with them. -/
theorem sumOf_le_of_sublist (a : Allocator) {xs ys : List CavityElement} (h : xs.Sublist ys) :
    a.sumOf xs ≤ a.sumOf ys :=
  (h.map a.watts).sum_le_sum fun _ _ => Nat.zero_le _

/-! ### What a stage leaves alone -/

section
variable (s : State) (c : Cavity)

theorem closeSlot_alloc : s.closeSlot.alloc =
    { s.alloc.mapRecords (fun x r => { r with held := s.alloc.grants.contains x }) with grants := [] } := rfl

/-- The slot event's next number changes the numbers alone (R88). -/
@[simp] theorem advanceSlot_alloc :
    s.advanceSlot.alloc.supply = s.alloc.supply ∧ s.advanceSlot.alloc.declared = s.alloc.declared ∧
    s.advanceSlot.alloc.available = s.alloc.available ∧ s.advanceSlot.alloc.demand = s.alloc.demand ∧
    s.advanceSlot.alloc.requests = s.alloc.requests ∧ s.advanceSlot.alloc.tier1 = s.alloc.tier1 ∧
    s.advanceSlot.alloc.tier2 = s.alloc.tier2 ∧ s.advanceSlot.alloc.grants = s.alloc.grants ∧
    s.advanceSlot.alloc.powerLimited = s.alloc.powerLimited := by
  unfold State.advanceSlot
  split_ifs <;> simp

theorem windowEndCavity_alloc :
    { (windowEndCavity s c).alloc with powerLimited := s.alloc.powerLimited } = s.alloc := by
  unfold windowEndCavity
  split
  · rfl
  · dsimp only
    split <;> rfl

/-- A window end changes the power-limited flags alone (R90). -/
theorem windowEnd_alloc : { s.windowEnd.alloc with powerLimited := s.alloc.powerLimited } = s.alloc := by
  refine List.foldlRecOn (motive := fun t : State => { t.alloc with powerLimited := s.alloc.powerLimited } = s.alloc)
    Cavity.all windowEndCavity rfl fun t ht d _ => ?_
  have hd := windowEndCavity_alloc t d
  rw [← ht, ← hd]

/-- A window start writes request records alone (R91). -/
theorem windowStart_alloc : { s.windowStart.alloc with requests := s.alloc.requests } = s.alloc := rfl

/-- A rotation changes the rings alone (R98). -/
theorem rotate_alloc (a : Allocator) : { a.rotate c with tier1 := a.tier1, tier2 := a.tier2 } = a := by
  unfold Allocator.rotate
  split <;> rfl

end

/-- The request records of two Allocators that agree on the request table. -/
theorem record_congr {a b : Allocator} (h : b.requests = a.requests) (x : CavityElement) : b.record x = a.record x := by
  rw [Allocator.record, h, Allocator.record]

/-! ### The state that the passes are made on -/

/-- A slot event up to its passes: the slot closed, the numbers advanced, the withdrawals and the window work (R100). -/
def State.slotPrepared (s : State) : State :=
  s.closeSlot.advanceSlot.slotWithdrawals.windowWork (!s.alloc.started)

theorem takeSlot_eq (s : State) : takeSlot s = s.slotPrepared.grantSlot.handOver := rfl

/-- A record before the window work: its held flag follows the list of the slot just ended, and the withdrawal due at
this slot is made (R95, R101). -/
def State.recordKept (s : State) (x : CavityElement) (r : RequestRecord) : RequestRecord :=
  let closed := { r with held := s.alloc.grants.contains x }
  if s.withdrawnAtSlot x then closed.withdrawn else closed

/-- Does the slot event start a window (R88)? -/
def State.startsWindow (s : State) : Bool := decide (s.closeSlot.advanceSlot.alloc.slot = 1)

/-- A record that the passes are made on: asked afresh where a window starts (R91). -/
def State.recordAsked (s : State) (x : CavityElement) (r : RequestRecord) : RequestRecord :=
  if s.startsWindow && s.enabled x.1 then
    { s.recordKept x r with
      q := if (s.alloc.demand.get x.1).elements.has x.2 && !s.dead x then slotsFor (s.alloc.demand.get x.1).u else 0
      g := 0 }
  else s.recordKept x r

section
variable (s : State)

theorem recordKept_parts (x : CavityElement) (r : RequestRecord) :
    (s.recordKept x r).output = r.output ∧ (s.recordKept x r).watts = r.watts ∧
      (s.recordKept x r).held = s.alloc.grants.contains x := by
  unfold State.recordKept
  dsimp only
  split <;> exact ⟨rfl, rfl, rfl⟩

theorem recordAsked_parts (x : CavityElement) (r : RequestRecord) :
    (s.recordAsked x r).output = r.output ∧ (s.recordAsked x r).watts = r.watts ∧
      (s.recordAsked x r).held = s.alloc.grants.contains x := by
  unfold State.recordAsked
  split <;> exact recordKept_parts s x r

theorem dead_congr {s t : State} (h : t.drive = s.drive) (x : CavityElement) : t.dead x = s.dead x := by
  rw [State.dead, h, State.dead]

/-- Every record before the window work (R95, R101). -/
theorem withdrawn_record (x : CavityElement) :
    s.closeSlot.advanceSlot.slotWithdrawals.alloc.record x = (s.alloc.record x).map (s.recordKept x) := by
  have hwithdrawn (y : CavityElement) : s.closeSlot.advanceSlot.withdrawnAtSlot y = s.withdrawnAtSlot y := by
    simp [State.withdrawnAtSlot, closeSlot_alloc, Allocator.mapRecords, dead_congr (s := s)]
  have hstage : s.closeSlot.advanceSlot.slotWithdrawals.alloc.record x =
      (s.closeSlot.advanceSlot.alloc.mapRecords fun y r =>
        if s.closeSlot.advanceSlot.withdrawnAtSlot y then r.withdrawn else r).record x := rfl
  have hclosed : s.closeSlot.advanceSlot.alloc.record x =
      (s.alloc.mapRecords fun y r => { r with held := s.alloc.grants.contains y }).record x :=
    record_congr (by simp [closeSlot_alloc]) x
  rw [hstage, record_mapRecords, hclosed, record_mapRecords, Option.map_map]
  congr 1
  funext r
  simp only [Function.comp_apply, State.recordKept, hwithdrawn]

/-- The parts of the state before the window work that the window work reads. -/
theorem withdrawn_parts :
    s.closeSlot.advanceSlot.slotWithdrawals.alloc.supply = s.alloc.supply ∧
    s.closeSlot.advanceSlot.slotWithdrawals.alloc.declared = s.alloc.declared ∧
    s.closeSlot.advanceSlot.slotWithdrawals.alloc.available = s.alloc.available ∧
    s.closeSlot.advanceSlot.slotWithdrawals.alloc.demand =
      (s.alloc.demand.map fun _ d => { d with withdraw := false }) ∧
    s.closeSlot.advanceSlot.slotWithdrawals.alloc.tier1 = s.alloc.tier1 ∧
    s.closeSlot.advanceSlot.slotWithdrawals.alloc.tier2 = s.alloc.tier2 ∧
    s.closeSlot.advanceSlot.slotWithdrawals.alloc.powerLimited = s.alloc.powerLimited ∧
    s.closeSlot.advanceSlot.slotWithdrawals.alloc.slot = s.closeSlot.advanceSlot.alloc.slot ∧
    s.closeSlot.advanceSlot.slotWithdrawals.alloc.window = s.closeSlot.advanceSlot.alloc.window := by
  simp [State.slotWithdrawals, Allocator.mapRecords, closeSlot_alloc]

/-- A window start's records (R91). -/
theorem windowStart_record (x : CavityElement) : s.windowStart.alloc.record x = (s.alloc.record x).map fun r =>
    if s.enabled x.1 then
      { r with
        q := if (s.alloc.demand.get x.1).elements.has x.2 && !s.dead x then slotsFor (s.alloc.demand.get x.1).u else 0
        g := 0 }
    else r := by
  rw [State.windowStart, State.setAlloc_alloc, record_mapRecords]

theorem enabled_congr {s t : State} (h : t.appliance = s.appliance) (c : Cavity) : t.enabled c = s.enabled c := by
  rw [State.enabled, h, State.enabled]

/-- The window work asks afresh at a window start, and changes no record otherwise (R88, R91). -/
theorem windowWork_record (first : Bool) (x : CavityElement) :
    (s.windowWork first).alloc.record x =
      if s.alloc.slot = 1 then s.windowStart.alloc.record x else s.alloc.record x := by
  have hend : s.windowEnd.windowStart.alloc.record x = s.windowStart.alloc.record x := by
    have hdemand : s.windowEnd.alloc.demand = s.alloc.demand := congrArg (·.demand) (windowEnd_alloc s)
    have hrequests : s.windowEnd.alloc.requests = s.alloc.requests := congrArg (·.requests) (windowEnd_alloc s)
    simp only [windowStart_record, hdemand, record_congr hrequests, enabled_congr (s := s) (t := s.windowEnd) (by simp),
      dead_congr (s := s) (t := s.windowEnd) (by simp)]
  unfold State.windowWork
  split
  · cases first
    · exact hend
    · rfl
  · rfl

/-- Every record that the passes are made on (R91, R95, R101). -/
theorem slotPrepared_record (x : CavityElement) :
    s.slotPrepared.alloc.record x = (s.alloc.record x).map (s.recordAsked x) := by
  obtain ⟨_, _, _, hdemand, _, _, _, hslot, _⟩ := withdrawn_parts s
  rw [State.slotPrepared, windowWork_record, windowStart_record, withdrawn_record, hdemand, hslot,
    enabled_congr (s := s) (by simp), dead_congr (s := s) (by simp), Option.map_map]
  cases s.alloc.record x with
  | none => simp
  | some r =>
    by_cases hstarts : s.closeSlot.advanceSlot.alloc.slot = 1 <;>
      simp [hstarts, State.recordAsked, State.startsWindow]

/-- The window work leaves all but the request records and the power-limited flags (R90, R91). -/
theorem windowWork_alloc (first : Bool) : { (s.windowWork first).alloc with
    requests := s.alloc.requests, powerLimited := s.alloc.powerLimited } = s.alloc := by
  have hend : { s.windowEnd.windowStart.alloc with
      requests := s.windowEnd.alloc.requests } = s.windowEnd.alloc := windowStart_alloc s.windowEnd
  unfold State.windowWork
  split
  · cases first
    · have hflags := windowEnd_alloc s
      rw [← hend] at hflags
      exact (congrArg (fun a : Allocator => { a with requests := s.alloc.requests }) hflags)
    · rfl
  · rfl

/-- The parts of the Allocator that the passes are made on (R88, R90, R91). -/
theorem slotPrepared_parts :
    s.slotPrepared.alloc.supply = s.alloc.supply ∧ s.slotPrepared.alloc.declared = s.alloc.declared ∧
    s.slotPrepared.alloc.available = s.alloc.available ∧
    s.slotPrepared.alloc.demand = (s.alloc.demand.map fun _ d => { d with withdraw := false }) ∧
    s.slotPrepared.alloc.tier1 = s.alloc.tier1 ∧ s.slotPrepared.alloc.tier2 = s.alloc.tier2 ∧
    s.slotPrepared.alloc.slot = s.closeSlot.advanceSlot.alloc.slot ∧
    s.slotPrepared.alloc.window = s.closeSlot.advanceSlot.alloc.window := by
  obtain ⟨hsupply, hdeclared, havailable, hdemand, htier1, htier2, _, hslot, hwindow⟩ := withdrawn_parts s
  have hwork := windowWork_alloc s.closeSlot.advanceSlot.slotWithdrawals (!s.alloc.started)
  refine ⟨?_, ?_, ?_, ?_, ?_, ?_, ?_, ?_⟩
  · exact (congrArg (·.supply) hwork).trans hsupply
  · exact (congrArg (·.declared) hwork).trans hdeclared
  · exact (congrArg (·.available) hwork).trans havailable
  · exact (congrArg (·.demand) hwork).trans hdemand
  · exact (congrArg (·.tier1) hwork).trans htier1
  · exact (congrArg (·.tier2) hwork).trans htier2
  · exact (congrArg (·.slot) hwork).trans hslot
  · exact (congrArg (·.window) hwork).trans hwindow

@[simp] theorem slotPrepared_frame :
    s.slotPrepared.pending = s.pending ∧ s.slotPrepared.clock = s.clock ∧ s.slotPrepared.appliance = s.appliance ∧
    s.slotPrepared.seq = s.seq ∧ s.slotPrepared.drive = s.drive ∧ s.slotPrepared.limit = s.limit ∧
    s.slotPrepared.mail = s.mail := by
  simp [State.slotPrepared]

theorem slotPrepared_watts : s.slotPrepared.alloc.watts = s.alloc.watts := by
  funext x
  rw [watts_eq, watts_eq, slotPrepared_record, Option.map_map]
  congr 2
  funext r
  obtain ⟨_, hwatts, _⟩ := recordAsked_parts s x r
  exact hwatts

end

/-! ### Eligible elements -/

theorem heating_congr {s t : State} (h : t.seq = s.seq) (c : Cavity) : t.heating c = s.heating c := by
  rw [State.heating, h, State.heating]

theorem relayClosed_congr {s t : State} (h : t.drive.relays = s.drive.relays) (c : Cavity) :
    t.relayClosed c = s.relayClosed c := by
  rw [State.relayClosed, h, State.relayClosed]

theorem tripped_congr {s t : State} (h : t.limit = s.limit) (c : Cavity) : t.tripped c = s.tripped c := by
  rw [State.tripped, h, State.tripped]

/-- An element is eligible by its record and by the standing of its cavity and of itself (R94). -/
theorem eligible_iff (s : State) (c : Cavity) (e : Element) : s.eligible (c, e) = true ↔
    (∃ r, s.alloc.record (c, e) = some r ∧ r.g < r.q) ∧ s.heating c = true ∧ s.relayClosed c = true ∧
      s.tripped c = false ∧ s.dead (c, e) = false := by
  cases hr : s.alloc.record (c, e) <;> simp [State.eligible, hr, and_assoc]

/-- What is eligible on the state that the passes are made on, read off the state before the slot event. -/
theorem slotPrepared_eligible_iff {s : State} {c : Cavity} {e : Element} : s.slotPrepared.eligible (c, e) = true ↔
    (∃ r, s.alloc.record (c, e) = some r ∧ (s.recordAsked (c, e) r).g < (s.recordAsked (c, e) r).q) ∧
      s.heating c = true ∧ s.relayClosed c = true ∧ s.tripped c = false ∧ s.dead (c, e) = false := by
  rw [eligible_iff, slotPrepared_record, heating_congr (s := s) (by simp), relayClosed_congr (s := s) (by simp),
    tripped_congr (s := s) (by simp), dead_congr (s := s) (by simp)]
  cases s.alloc.record (c, e) <;> simp

/-! ### The whole slot event -/

section
variable (s : State)

theorem grantSlot_record (x : CavityElement) : s.grantSlot.alloc.record x = (s.alloc.record x).map fun r =>
    if s.eligible x then r.afterPasses (s.passThree.granted.contains x) else r := by
  rw [← record_mapRecords s.alloc fun y r =>
    if s.eligible y then r.afterPasses (s.passThree.granted.contains y) else r]
  refine record_congr ?_ x
  unfold State.grantSlot
  dsimp only
  split
  · rename_i c _
    exact congrArg (·.requests) (rotate_alloc c _)
  · rfl

/-- The passes leave the demand table and the numbers of the Allocator (R96 to R98). -/
theorem grantSlot_alloc : { s.grantSlot.alloc with
    requests := s.alloc.requests, grants := s.alloc.grants, tier1 := s.alloc.tier1, tier2 := s.alloc.tier2 } =
      s.alloc := by
  unfold State.grantSlot
  dsimp only
  split
  · rename_i c _
    exact congrArg (fun a : Allocator => { a with requests := s.alloc.requests, grants := s.alloc.grants })
      (rotate_alloc c (s.alloc.mapRecords fun x r =>
        if s.eligible x then r.afterPasses (s.passThree.granted.contains x) else r))
  · rfl

theorem takeSlot_alloc : (takeSlot s).alloc = s.slotPrepared.grantSlot.alloc := by simp [takeSlot_eq]

theorem takeSlot_grants : (takeSlot s).alloc.grants = s.slotPrepared.passThree.granted := rfl

/-- What becomes of every request record at a slot event (R91, R95, R97, R101). -/
theorem takeSlot_record (x : CavityElement) : (takeSlot s).alloc.record x = (s.alloc.record x).map fun r =>
    if s.slotPrepared.eligible x then (s.recordAsked x r).afterPasses (s.slotPrepared.passThree.granted.contains x)
    else s.recordAsked x r := by
  rw [takeSlot_alloc, grantSlot_record, slotPrepared_record, Option.map_map]
  rfl

/-- The Allocator's other parts at a slot event, the rings and the power-limited flags apart. -/
theorem takeSlot_parts :
    (takeSlot s).alloc.supply = s.alloc.supply ∧ (takeSlot s).alloc.declared = s.alloc.declared ∧
    (takeSlot s).alloc.available = s.alloc.available ∧
    (takeSlot s).alloc.demand = (s.alloc.demand.map fun _ d => { d with withdraw := false }) ∧
    (takeSlot s).alloc.slot = s.closeSlot.advanceSlot.alloc.slot ∧
    (takeSlot s).alloc.window = s.closeSlot.advanceSlot.alloc.window ∧
    (takeSlot s).alloc.powerLimited = s.slotPrepared.alloc.powerLimited := by
  obtain ⟨hsupply, hdeclared, havailable, hdemand, _, _, hslot, hwindow⟩ := slotPrepared_parts s
  have hpasses := grantSlot_alloc s.slotPrepared
  rw [takeSlot_alloc]
  refine ⟨?_, ?_, ?_, ?_, ?_, ?_, congrArg (·.powerLimited) hpasses⟩
  · exact (congrArg (·.supply) hpasses).trans hsupply
  · exact (congrArg (·.declared) hpasses).trans hdeclared
  · exact (congrArg (·.available) hpasses).trans havailable
  · exact (congrArg (·.demand) hpasses).trans hdemand
  · exact (congrArg (·.slot) hpasses).trans hslot
  · exact (congrArg (·.window) hpasses).trans hwindow

theorem takeSlot_watts : (takeSlot s).alloc.watts = s.alloc.watts := by
  funext x
  rw [watts_eq, watts_eq, takeSlot_record, Option.map_map]
  congr 2
  funext r
  obtain ⟨_, hwatts, _⟩ := recordAsked_parts s x r
  simp only [Function.comp_apply, RequestRecord.afterPasses]
  split_ifs <;> exact hwatts

/-- The grants of a slot event fit the available budget (R96). -/
theorem takeSlot_grantedSum_le : (takeSlot s).alloc.grantedSum ≤ s.alloc.available := by
  obtain ⟨_, _, havailable, _⟩ := slotPrepared_parts s
  have hfits := passThree_fits s.slotPrepared
  rw [Allocator.sumOf, slotPrepared_watts, havailable] at hfits
  rwa [Allocator.grantedSum, Allocator.sumOf, takeSlot_watts, takeSlot_grants]

/-- What a slot event grants was eligible (R94, R96). -/
theorem eligible_of_granted {s : State} {x : CavityElement} (h : x ∈ (takeSlot s).alloc.grants) :
    s.slotPrepared.eligible x = true := by
  obtain ⟨_, helig⟩ := mem_candidates_iff.mp (mem_candidates_of_granted h)
  exact helig

end

end Sys2Proof.Machine
end

section
/-! PROOF. The budget (R83 to R86): what shedding takes from the list and from the records, the budget worked out
afresh, the end of a valid frame, and the two requests that set the budget. -/

namespace Sys2Proof.Machine

/-! ### Shedding -/

/-- The grants kept are as many as fit: one more of the list would not (R86). -/
theorem keepFitting_maximal {watts : CavityElement → Nat} {budget : Nat} {l pre : List CavityElement}
    {x : CavityElement} (h : l = pre ++ x :: keepFitting watts budget l) :
    budget < ((x :: keepFitting watts budget l).map watts).sum := by
  induction l generalizing pre with
  | nil => simp at h
  | cons y l ih =>
    rw [keepFitting] at h ⊢
    split
    · rename_i hfits
      rw [if_pos hfits] at h
      have hlength := congrArg List.length h
      simp at hlength
      omega
    · rename_i hover
      rw [if_neg hover] at h
      cases pre with
      | nil =>
        obtain ⟨rfl, hl⟩ := List.cons.inj h
        rw [← hl]
        omega
      | cons z pre => exact ih (List.cons.inj h).2

theorem kept_maximal {a : Allocator} {x : CavityElement} {rest : List CavityElement}
    (h : a.grants = a.kept ++ x :: rest) : a.available < a.sumOf (a.kept ++ [x]) := by
  have hreverse : a.grants.reverse = rest.reverse ++ x :: keepFitting a.watts a.available a.grants.reverse :=
    (congrArg List.reverse h).trans (by simp [Allocator.kept])
  have hover := keepFitting_maximal hreverse
  simp only [Allocator.sumOf, Allocator.kept, List.map_append, List.map_reverse, List.sum_append, List.sum_reverse,
    List.map_cons, List.map_nil, List.sum_cons, List.sum_nil] at hover ⊢
  omega

/-- The records after a list of grants is shed, each once (R86). -/
theorem record_foldl_shed (xs : List CavityElement) (a : Allocator) (hxs : xs.Nodup) (y : CavityElement) :
    (xs.foldl (fun b x => b.modRecord x RequestRecord.shed) a).record y =
      if y ∈ xs then (a.record y).map RequestRecord.shed else a.record y := by
  induction xs generalizing a with
  | nil => rfl
  | cons x xs ih =>
    obtain ⟨hx, hxs⟩ := List.nodup_cons.mp hxs
    rw [List.foldl_cons, ih _ hxs, record_modRecord]
    by_cases hy : y = x
    · subst hy
      simp [hx]
    · simp [hy]

theorem watts_modRecord_shed (a : Allocator) (x : CavityElement) :
    (a.modRecord x RequestRecord.shed).watts = a.watts := by
  funext y
  rw [watts_eq, watts_eq, record_modRecord]
  split
  · rw [Option.map_map]
    rfl
  · rfl

theorem watts_foldl_shed (xs : List CavityElement) (a : Allocator) :
    (xs.foldl (fun b x => b.modRecord x RequestRecord.shed) a).watts = a.watts :=
  foldl_keeps _ Allocator.watts watts_modRecord_shed xs a

/-- Shedding writes request records and the grant list alone. -/
theorem shedGrants_alloc (s : State) :
    { s.shedGrants.alloc with requests := s.alloc.requests, grants := s.alloc.grants } = s.alloc := by
  have hrecords (xs : List CavityElement) (a : Allocator) :
      { xs.foldl (fun b x => b.modRecord x RequestRecord.shed) a with requests := a.requests } = a := by
    induction xs generalizing a with
    | nil => rfl
    | cons x xs ih =>
      exact congrArg (fun b : Allocator => { b with requests := a.requests }) (ih (a.modRecord x RequestRecord.shed))
  unfold State.shedGrants
  split
  · rfl
  · exact congrArg (fun b : Allocator => { b with grants := s.alloc.grants }) (hrecords _ s.alloc)

theorem shedGrants_grants (s : State) : s.shedGrants.alloc.grants =
    if s.alloc.grantedSum ≤ s.alloc.available then s.alloc.grants else s.alloc.kept := by
  unfold State.shedGrants
  split <;> rfl

theorem shedGrants_prefix (s : State) : s.shedGrants.alloc.grants <+: s.alloc.grants := by
  rw [shedGrants_grants]
  split
  · exact List.prefix_refl _
  · exact kept_prefix s.alloc

theorem shedGrants_watts (s : State) : s.shedGrants.alloc.watts = s.alloc.watts := by
  unfold State.shedGrants
  split
  · rfl
  · exact watts_foldl_shed _ s.alloc

/-- After shedding the granted sum fits the available budget (R86). -/
theorem shedGrants_fits (s : State) : s.shedGrants.alloc.grantedSum ≤ s.alloc.available := by
  rw [Allocator.grantedSum, Allocator.sumOf, shedGrants_watts, shedGrants_grants]
  split
  · assumption
  · exact kept_fits s.alloc

/-- No grant is shed that would have fitted with those before it (R86). -/
theorem shedGrants_maximal {s : State} {x : CavityElement} {rest : List CavityElement}
    (h : s.alloc.grants = s.shedGrants.alloc.grants ++ x :: rest) :
    s.alloc.available < s.alloc.sumOf (s.shedGrants.alloc.grants ++ [x]) := by
  rw [shedGrants_grants] at h ⊢
  split at h
  · simp at h
  · rw [if_neg ‹_›]
    exact kept_maximal h

/-- A grant shed gives its slot back; no other record changes (R86). -/
theorem shedGrants_record {s : State} (hnodup : s.alloc.grants.Nodup) {x : CavityElement} {r : RequestRecord}
    (hr : s.alloc.record x = some r) : s.shedGrants.alloc.record x =
      some (if x ∈ s.alloc.grants ∧ x ∉ s.shedGrants.alloc.grants then r.shed else r) := by
  rw [shedGrants_grants]
  unfold State.shedGrants
  split
  · rename_i hfits
    simp [hr]
  · obtain ⟨lost, hlost⟩ := kept_prefix s.alloc
    have hdrop : s.alloc.grants.drop s.alloc.kept.length = lost := by simp [← hlost]
    rw [← hlost] at hnodup
    obtain ⟨_, hlostNodup, hapart⟩ := List.nodup_append'.mp hnodup
    have hmem : x ∈ lost ↔ x ∈ s.alloc.grants ∧ x ∉ s.alloc.kept := by
      constructor
      · exact fun hx => ⟨hlost ▸ List.mem_append_right _ hx, fun hk => hapart hk hx⟩
      · rintro ⟨hx, hk⟩
        rw [← hlost] at hx
        exact (List.mem_append.mp hx).resolve_left hk
    have hrecord := record_foldl_shed lost s.alloc hlostNodup x
    rw [← hdrop] at hrecord
    refine hrecord.trans ?_
    rw [hdrop, hr]
    by_cases hx : x ∈ lost
    · simp [hx, hmem.mp hx]
    · rw [if_neg hx, if_neg (mt hmem.mpr hx)]

/-- Shedding keeps the outputs following the list (R111). -/
theorem shedGrants_drivesFollow {s : State} (h : s.drivesFollow) : s.shedGrants.drivesFollow := by
  unfold State.shedGrants
  split
  · exact h
  · exact setGrants_drivesFollow _ _

/-! ### The budget worked out afresh -/

section
variable (s : State)

theorem rebudget_alloc : { s.rebudget.alloc with
    requests := s.alloc.requests, grants := s.alloc.grants, available := s.alloc.available } = s.alloc :=
  congrArg (fun a : Allocator => { a with available := s.alloc.available })
    (shedGrants_alloc (s.setAlloc { s.alloc with available := s.budget }))

theorem rebudget_available : s.rebudget.alloc.available = s.budget :=
  congrArg (·.available) (shedGrants_alloc (s.setAlloc { s.alloc with available := s.budget }))

theorem rebudget_prefix : s.rebudget.alloc.grants <+: s.alloc.grants :=
  shedGrants_prefix (s.setAlloc { s.alloc with available := s.budget })

theorem rebudget_withinBudget : s.rebudget.withinBudget := by
  unfold State.withinBudget
  rw [rebudget_available]
  exact shedGrants_fits (s.setAlloc { s.alloc with available := s.budget })

theorem budget_congr {s t : State} (hsupply : t.alloc.supply = s.alloc.supply)
    (hdeclared : t.alloc.declared = s.alloc.declared) (happliance : t.appliance = s.appliance)
    (hlink : t.link.quietCap = s.link.quietCap) : t.budget = s.budget := by
  rw [State.budget, hsupply, hdeclared, happliance, hlink]
  rfl

theorem rebudget_budgetStands : s.rebudget.budgetStands := by
  have hbudget : s.rebudget.budget = s.budget :=
    budget_congr (congrArg (·.supply) (rebudget_alloc s)) (congrArg (·.declared) (rebudget_alloc s)) (by simp)
      (by simp)
  rw [State.budgetStands, rebudget_available, hbudget]

/-- In ACTIVE the whole supply limit less the declared load is the budget (R85). -/
theorem budget_of_active {s : State} (h : s.link.state = .active) : s.budget = s.alloc.supply - s.alloc.declared := by
  simp [State.budget, Link.quietCap, h]

end

/-! ### The end of a valid frame -/

/-- The link after the end of a valid frame (R173, R178). -/
def Link.heard (l : Link) : Link := { l with receiver := .hunt, state := .active, quiet := some 0 }

theorem heard_eq (s : State) :
    s.heard = if s.link.state = .active then s.setLink s.link.heard else (s.setLink s.link.heard).rebudget := rfl

theorem heard_link (s : State) : s.heard.link = s.link.heard := by
  rw [heard_eq]
  split <;> simp

/-- A budget that grows sheds nothing (R86). -/
theorem rebudget_of_le {s : State} (h : s.alloc.grantedSum ≤ s.budget) :
    s.rebudget = s.setAlloc { s.alloc with available := s.budget } :=
  if_pos h

/-- Settles O26: in ACTIVE the figure stands already, and outside it the quiet cap falls away, so that the budget
grows. -/
theorem validFrameMakesActive : Obligations.ValidFrameMakesActive := by
  intro s hwithin hstands
  unfold State.budgetStands at hstands
  unfold State.withinBudget at hwithin
  rw [heard_eq]
  split
  · rename_i hactive
    rw [budget_of_active hactive] at hstands
    rw [← hstands]
    rfl
  · have hactive : (s.setLink s.link.heard).budget = s.alloc.supply - s.alloc.declared := budget_of_active rfl
    have hcap : s.budget ≤ s.alloc.supply - s.alloc.declared := by
      simp only [State.budget]
      split
      · exact Nat.min_le_left _ _
      · exact Nat.le_refl _
    rw [rebudget_of_le, hactive]
    · rfl
    · rw [hactive, State.setLink_alloc]
      omega

/-! ### SET SUPPLY and DECLARE LOAD -/

theorem heard_alloc (s : State) : { s.heard.alloc with
    requests := s.alloc.requests, grants := s.alloc.grants, available := s.alloc.available } = s.alloc := by
  rw [heard_eq]
  split
  · rfl
  · exact rebudget_alloc (s.setLink s.link.heard)

theorem heard_prefix (s : State) : s.heard.alloc.grants <+: s.alloc.grants := by
  rw [heard_eq]
  split
  · exact List.prefix_refl _
  · exact rebudget_prefix (s.setLink s.link.heard)

theorem heard_drivesFollow {s : State} (h : s.drivesFollow) : s.heard.drivesFollow := by
  rw [heard_eq]
  split
  · exact h
  · exact shedGrants_drivesFollow
      (s := (s.setLink s.link.heard).setAlloc { s.alloc with available := (s.setLink s.link.heard).budget }) h

theorem wordAt_word {w : Nat} (h : w < 65536) : wordAt (word w) 0 = w := by
  simp [wordAt, word, byteAt, byte]
  omega

/-- The state `t` after SET SUPPLY or DECLARE LOAD has put these two figures in force, a frame having ended in `s` (R83
to R86). -/
def FiguresTaken (s : State) (supply declared : Nat) (t : State) : Prop :=
  t.alloc.available = supply - declared ∧ t.alloc.supply = supply ∧ t.alloc.declared = declared ∧
  t.alloc.grants <+: s.heard.alloc.grants ∧ t.alloc.grantedSum ≤ t.alloc.available ∧
  (∀ x rest, s.heard.alloc.grants = t.alloc.grants ++ x :: rest →
    t.alloc.available < s.heard.alloc.sumOf (t.alloc.grants ++ [x])) ∧
  (∀ x r, s.heard.alloc.record x = some r → t.alloc.record x = some
    (if x ∈ s.heard.alloc.grants ∧ x ∉ t.alloc.grants then r.shed else r)) ∧
  t.alloc.demand = s.alloc.demand ∧ t.alloc.tier1 = s.alloc.tier1 ∧ t.alloc.tier2 = s.alloc.tier2 ∧
  (s.drivesFollow → t.drivesFollow) ∧ { t with alloc := s.heard.alloc, drive := s.heard.drive } = s.heard

/-- The state with the figures in force and the budget that they give, its grants not yet shed. -/
def State.figured (s : State) (supply declared : Nat) : State :=
  s.setAlloc { s.alloc with supply := supply, declared := declared, available := supply - declared }

theorem rebudget_of_figures {s : State} (hactive : s.link.state = .active) (supply declared : Nat) :
    (s.setAlloc { s.alloc with supply := supply, declared := declared }).rebudget =
      (s.figured supply declared).shedGrants := by
  have hbudget : (s.setAlloc { s.alloc with supply := supply, declared := declared }).budget = supply - declared :=
    budget_of_active hactive
  unfold State.rebudget
  rw [hbudget]
  rfl

theorem heard_active (s : State) : s.heard.link.state = .active := by
  rw [heard_link]
  rfl

theorem figured_frame (s : State) (supply declared : Nat) :
    { (s.figured supply declared).shedGrants with alloc := s.alloc, drive := s.drive } = s := by
  unfold State.shedGrants
  split <;> rfl

/-- The grants shed for the new figures, and all that stands (R83 to R86). -/
theorem figuresTaken {s : State} (hnodup : s.alloc.grants.Nodup) (supply declared : Nat) :
    FiguresTaken s supply declared
      (s.heard.setAlloc { s.heard.alloc with supply := supply, declared := declared }).rebudget := by
  rw [rebudget_of_figures (heard_active s)]
  have hheard := heard_alloc s
  have hgrants : s.heard.alloc.grants.Nodup := hnodup.sublist (heard_prefix s).sublist
  have hfollow : s.drivesFollow → s.heard.drivesFollow := heard_drivesFollow
  unfold FiguresTaken
  generalize s.heard = u at hheard hgrants hfollow ⊢
  have hframe := shedGrants_alloc (u.figured supply declared)
  have havailable : (u.figured supply declared).shedGrants.alloc.available = supply - declared :=
    congrArg (·.available) hframe
  refine ⟨havailable, congrArg (·.supply) hframe, congrArg (·.declared) hframe,
    shedGrants_prefix (u.figured supply declared), ?_, fun x rest hsplit => ?_,
    fun x r hr => shedGrants_record (s := u.figured supply declared) hgrants hr,
    (congrArg (·.demand) hframe).trans (congrArg (·.demand) hheard),
    (congrArg (·.tier1) hframe).trans (congrArg (·.tier1) hheard),
    (congrArg (·.tier2) hframe).trans (congrArg (·.tier2) hheard),
    fun hdrives => shedGrants_drivesFollow (s := u.figured supply declared) (hfollow hdrives),
    figured_frame u supply declared⟩
  · rw [havailable]
    exact shedGrants_fits (u.figured supply declared)
  · rw [havailable]
    exact shedGrants_maximal (s := u.figured supply declared) hsplit

/-- The Allocator's owner's part of either request: the new figure stands and the budget is worked out afresh. -/
theorem setSupply_of_le {s : State} {w : Nat} (hw : w ≤ 11000) : setSupply (word w) s =
    (s.setAlloc { s.alloc with supply := w }).rebudget.budgetReply := by
  have hword : wordAt (word w) 0 = w := wordAt_word (by omega)
  rw [setSupply, hword, if_neg (by simpa [supplyCeiling] using hw)]

theorem declareLoad_of_le {s : State} {w : Nat} (hw : w ≤ 11000) : declareLoad (word w) s =
    (s.setAlloc { s.alloc with declared := w }).rebudget.budgetReply := by
  have hword : wordAt (word w) 0 = w := wordAt_word (by omega)
  rw [declareLoad, hword, if_neg (by simpa [supplyCeiling] using hw)]

/-- Settles O48, for each of the two figures on the state that the frame's end leaves. -/
theorem supplyAndLoadSetBudget : Obligations.SupplyAndLoadSetBudget := by
  intro s h w howed hw hnodup
  have hheard := heard_alloc s
  have hsupply : s.heard.alloc.supply = s.alloc.supply := congrArg (·.supply) hheard
  have hdeclared : s.heard.alloc.declared = s.alloc.declared := congrArg (·.declared) hheard
  constructor
  · have htaken := figuresTaken hnodup w s.heard.alloc.declared
    obtain ⟨havailable, _⟩ := id htaken
    rw [hdeclared] at htaken havailable
    refine ⟨_, congrArg Host.Outcome.next ?_, htaken⟩
    have hrequest := takeRequest_of_taken (k := .setSupply) (p := word w) howed rfl rfl h setSupply
    rw [setSupply_of_le hw] at hrequest
    rw [← havailable]
    exact hdeclared ▸ hrequest
  · have htaken := figuresTaken hnodup s.heard.alloc.supply w
    obtain ⟨havailable, _⟩ := id htaken
    rw [hsupply] at htaken havailable
    refine ⟨_, congrArg Host.Outcome.next ?_, htaken⟩
    have hrequest := takeRequest_of_taken (k := .declareLoad) (p := word w) howed rfl rfl h declareLoad
    rw [declareLoad_of_le hw] at hrequest
    rw [← havailable]
    exact hsupply ▸ hrequest

end Sys2Proof.Machine
end

section
/-! PROOF. What the power invariants read of the state (R85, R86, R92, R94, R103, R104), and the shared operations that
keep them: grants that leave, the standing of a cavity, the rings and the budget worked out afresh. -/

namespace Sys2Proof.Machine

/-! ### Steps that keep the invariants -/

/-- A step keeps each of the invariants on the budget and the grants (R85, R86, R94, R103, R104). -/
structure KeepsGrants (s t : State) : Prop where
  within : s.withinBudget → t.withinBudget
  budget : s.budgetStands → t.budgetStands
  guarded : s.grantsGuarded → t.grantsGuarded

/-- A step keeps each of the power invariants, the rings among them (R92). -/
structure KeepsPower (s t : State) : Prop extends KeepsGrants s t where
  rings : s.ringsSound → t.ringsSound

section
variable {s t u : State}

theorem KeepsGrants.refl (s : State) : KeepsGrants s s := ⟨id, id, id⟩

theorem KeepsGrants.trans (hst : KeepsGrants s t) (htu : KeepsGrants t u) : KeepsGrants s u :=
  ⟨htu.within ∘ hst.within, htu.budget ∘ hst.budget, htu.guarded ∘ hst.guarded⟩

theorem KeepsPower.refl (s : State) : KeepsPower s s := ⟨KeepsGrants.refl s, id⟩

theorem KeepsPower.trans (hst : KeepsPower s t) (htu : KeepsPower t u) : KeepsPower s u :=
  ⟨hst.toKeepsGrants.trans htu.toKeepsGrants, htu.rings ∘ hst.rings⟩

/-- A fold of steps that keep the invariants keeps them. -/
theorem foldl_keepsPower {α : Type} {f : State → α → State} (hf : ∀ t x, KeepsPower t (f t x)) (l : List α)
    (s : State) : KeepsPower s (l.foldl f s) :=
  List.foldlRecOn (motive := KeepsPower s) l f (KeepsPower.refl s) fun t ht x _ => ht.trans (hf t x)

/-! ### The standing of a cavity -/

/-- What a cavity's standing gives its grants: it is not tripped, and it is heating with its relay closed or its notice
is in flight (R94, R103, R104). -/
def State.mayHold (s : State) (c : Cavity) : Prop :=
  s.tripped c = false ∧ ((s.heating c = true ∧ s.relayClosed c = true) ∨ 0 < (s.box c).withdrawNotices)

/-- The states agree on the standing of a cavity towards its grants. -/
def SameStanding (s t : State) (c : Cavity) : Prop :=
  t.tripped c = s.tripped c ∧ t.heating c = s.heating c ∧ t.relayClosed c = s.relayClosed c ∧
    (t.box c).withdrawNotices = (s.box c).withdrawNotices

theorem mayHold_of_same {c : Cavity} (h : SameStanding s t c) (hs : s.mayHold c) : t.mayHold c := by
  obtain ⟨htripped, hheating, hrelay, hnotices⟩ := h
  simpa only [State.mayHold, htripped, hheating, hrelay, hnotices] using hs

/-- A step about one cavity leaves the standing of every other. -/
theorem sameStanding_of_keepsOthers {c d : Cavity} (h : KeepsOthers s t c) (hd : d ≠ c) : SameStanding s t d := by
  obtain ⟨hcavity, _⟩ := h
  obtain ⟨hseq, _, _, hlimit, hbox, hrelay, _⟩ := hcavity d hd
  simp only [SameStanding, State.tripped, State.heating, State.relayClosed, hseq, hlimit, hbox, hrelay, and_self]

/-! ### Grants that leave, and the budget -/

/-- Grants only leave the list, with the rated watts of those that stay, the supply figures and the quiet cap as they
were. -/
structure GrantsLeave (s t : State) : Prop where
  grants : t.alloc.grants.Sublist s.alloc.grants
  watts : ∀ x ∈ t.alloc.grants, t.alloc.watts x = s.alloc.watts x
  supply : t.alloc.supply = s.alloc.supply
  declared : t.alloc.declared = s.alloc.declared
  available : t.alloc.available = s.alloc.available
  appliance : t.appliance = s.appliance
  quietCap : t.link.quietCap = s.link.quietCap

theorem GrantsLeave.of_alloc_eq (halloc : t.alloc = s.alloc) (happliance : t.appliance = s.appliance)
    (hlink : t.link.quietCap = s.link.quietCap) : GrantsLeave s t := by
  refine ⟨?_, ?_, ?_, ?_, ?_, happliance, hlink⟩ <;> simp [halloc]

/-- A step that writes rings and demands alone leaves every grant. -/
theorem GrantsLeave.of_rings (halloc : { t.alloc with
      tier1 := s.alloc.tier1, tier2 := s.alloc.tier2, demand := s.alloc.demand } = s.alloc)
    (happliance : t.appliance = s.appliance) (hlink : t.link.quietCap = s.link.quietCap) : GrantsLeave s t where
  grants := by rw [show t.alloc.grants = s.alloc.grants from congrArg (·.grants) halloc]
  watts x _ := congrFun (congrArg (·.watts) halloc) x
  supply := congrArg (·.supply) halloc
  declared := congrArg (·.declared) halloc
  available := congrArg (·.available) halloc
  appliance := happliance
  quietCap := hlink

theorem withinBudget_of_leave (h : GrantsLeave s t) (hs : s.withinBudget) : t.withinBudget := by
  have hsum : t.alloc.grantedSum ≤ s.alloc.grantedSum :=
    (sumOf_congr h.watts).trans_le (sumOf_le_of_sublist s.alloc h.grants)
  have havailable := h.available
  unfold State.withinBudget at hs ⊢
  omega

/-- Grants that leave keep the invariants where every cavity that is still granted may hold its grants. -/
theorem KeepsGrants.of_leave (h : GrantsLeave s t)
    (hhold : ∀ c e, (c, e) ∈ t.alloc.grants → s.mayHold c → t.mayHold c) : KeepsGrants s t := by
  refine ⟨withinBudget_of_leave h, fun hs => ?_, fun hs c e hmem => hhold c e hmem (hs c e (h.grants.subset hmem))⟩
  unfold State.budgetStands at hs ⊢
  rw [h.available, hs, budget_congr h.supply h.declared h.appliance h.quietCap]

/-! ### The rings -/

/-- A cavity stands in the rings as its enable and its tier say, and is enabled exactly while its Sequencer is not
ABSENT (R62, R63, R92, R106). -/
def State.ringStands (s : State) (c : Cavity) : Prop :=
  (s.enabled c = true ↔ (s.seq.get c).state ≠ .absent) ∧
    s.alloc.tier1.count (.cavity c) = (if s.enabled c = true ∧ (s.alloc.demand.get c).tier = .one then 1 else 0) ∧
    s.alloc.tier2.count c = (if s.enabled c = true ∧ (s.alloc.demand.get c).tier = .two then 1 else 0)

theorem ringsSound_iff (s : State) : s.ringsSound ↔ s.alloc.tier1.count .marker = 1 ∧ ∀ c, s.ringStands c := Iff.rfl

/-- The states agree on a cavity's place in the rings. -/
structure SameRing (s t : State) (c : Cavity) : Prop where
  enabled : t.enabled c = s.enabled c
  present : (t.seq.get c).state = .absent ↔ (s.seq.get c).state = .absent
  tier : (t.alloc.demand.get c).tier = (s.alloc.demand.get c).tier
  tier1 : t.alloc.tier1.count (.cavity c) = s.alloc.tier1.count (.cavity c)
  tier2 : t.alloc.tier2.count c = s.alloc.tier2.count c

theorem ringStands_of_same {c : Cavity} (h : SameRing s t c) (hs : s.ringStands c) : t.ringStands c := by
  simpa only [State.ringStands, ne_eq, h.enabled, h.present, h.tier, h.tier1, h.tier2] using hs

theorem ringsSound_of_same (hmarker : t.alloc.tier1.count .marker = s.alloc.tier1.count .marker)
    (h : ∀ c, SameRing s t c) (hs : s.ringsSound) : t.ringsSound := by
  obtain ⟨hone, hstands⟩ := hs
  exact ⟨hmarker.trans hone, fun c => ringStands_of_same (h c) (hstands c)⟩

/-- The rings, the tiers and the enables as they were, and no Sequencer that enters or leaves ABSENT. -/
structure RingsStay (s t : State) : Prop where
  tier1 : t.alloc.tier1 = s.alloc.tier1
  tier2 : t.alloc.tier2 = s.alloc.tier2
  tier : ∀ c, (t.alloc.demand.get c).tier = (s.alloc.demand.get c).tier
  appliance : t.appliance = s.appliance
  present : ∀ c, (t.seq.get c).state = .absent ↔ (s.seq.get c).state = .absent

theorem ringsSound_of_stay (h : RingsStay s t) : s.ringsSound → t.ringsSound :=
  ringsSound_of_same (by rw [h.tier1]) fun c =>
    ⟨enabled_congr h.appliance c, h.present c, h.tier c, by rw [h.tier1], by rw [h.tier2]⟩

section
variable {α : Type} [DecidableEq α] (l : List α) (x y : α)

theorem count_filter_ne : (l.filter fun z => decide (z ≠ x)).count y = if y = x then 0 else l.count y := by
  split
  · rename_i h
    exact List.count_eq_zero.mpr (by simp [h])
  · rename_i h
    exact List.count_filter (by simpa using h)

/-- An entry moved to the end stands there once, and every other as often as before. -/
theorem count_moved : ((l.filter fun z => decide (z ≠ x)) ++ [x]).count y = if y = x then 1 else l.count y := by
  rw [List.count_append, count_filter_ne]
  split
  · rename_i h
    simp [h]
  · rename_i h
    simp [Ne.symm h]

end

/-! ### Steps that the invariants hardly read -/

/-- The states agree in all that the power invariants read. -/
def SamePower (s t : State) : Prop :=
  t.alloc = s.alloc ∧ t.appliance = s.appliance ∧ t.link.quietCap = s.link.quietCap ∧ t.seq = s.seq ∧
    t.drive.relays = s.drive.relays ∧ (∀ c, t.tripped c = s.tripped c) ∧
    ∀ c, (t.box c).withdrawNotices = (s.box c).withdrawNotices

theorem KeepsPower.of_same (h : SamePower s t) : KeepsPower s t := by
  obtain ⟨halloc, happliance, hlink, hseq, hrelays, htripped, hnotices⟩ := h
  refine ⟨.of_leave (.of_alloc_eq halloc happliance hlink) fun c e _ hs => ?_, ringsSound_of_stay ?_⟩
  · exact mayHold_of_same ⟨htripped c, heating_congr hseq c, relayClosed_congr hrelays c, hnotices c⟩ hs
  · exact ⟨by rw [halloc], by rw [halloc], fun c => by rw [halloc], happliance, fun c => by rw [hseq]⟩

@[simp] theorem enqueue_quietCap (l : Link) (e : EventRecord) : (l.enqueue e).quietCap = l.quietCap := by
  unfold Link.enqueue
  split <;> rfl

end

section
variable (s : State) (c : Cavity)

theorem queueEvent_keepsPower (kind : EventKind) (cavity : Option Cavity) (severity : Nat) (detail : Option Nat)
    (additional : Bool) : KeepsPower s (s.queueEvent kind cavity severity detail additional) :=
  .of_same (by simp [SamePower, State.queueEvent, State.tripped, State.box])

theorem setLock_keepsPower (l : DoorLock) : KeepsPower s (s.setLock c l) :=
  .of_same ⟨rfl, rfl, rfl, rfl, rfl, fun _ => rfl, fun _ => rfl⟩

theorem setFan_keepsPower (f : Fan) : KeepsPower s (s.setFan f) :=
  .of_same ⟨rfl, rfl, rfl, rfl, rfl, fun _ => rfl, fun _ => rfl⟩

theorem setOutput_keepsPower (i : Fin 12) (o : OutputRecord) : KeepsPower s (s.setOutput i o) :=
  .of_same ⟨rfl, rfl, rfl, rfl, rfl, fun _ => rfl, fun _ => rfl⟩

theorem setReg_keepsPower (x : Regulation) : KeepsPower s (s.setReg c x) :=
  .of_same ⟨rfl, rfl, rfl, rfl, rfl, fun _ => rfl, fun _ => rfl⟩

theorem setRecord_keepsPower (n : Nat) (r : Option PhaseRecord) : KeepsPower s (s.setRecord n r) :=
  .of_same ⟨rfl, rfl, rfl, rfl, rfl, fun _ => rfl, fun _ => rfl⟩

theorem setLink_keepsPower {l : Link} (h : l.quietCap = s.link.quietCap) : KeepsPower s (s.setLink l) :=
  .of_same ⟨rfl, rfl, h, rfl, rfl, fun _ => rfl, fun _ => rfl⟩

/-- A limit record may be replaced where that trips no cavity. -/
theorem setLimit_keepsPower {l : LimitRecord} (h : l.active.isSome = true → s.tripped c = true) :
    KeepsPower s (s.setLimit c l) := by
  refine ⟨.of_leave (.of_alloc_eq rfl rfl rfl) fun d _ _ hs => ?_,
    ringsSound_of_stay ⟨rfl, rfl, fun _ => rfl, rfl, fun _ => Iff.rfl⟩⟩
  obtain ⟨hclear, hfed⟩ := hs
  refine ⟨Bool.eq_false_of_not_eq_true fun htripped => ?_, hfed⟩
  by_cases hd : d = c
  · subst hd
    simp [h (by simpa [State.tripped] using htripped)] at hclear
  · simp [show s.tripped d = true by simpa [State.tripped, hd] using htripped] at hclear

/-- Mail of any other kind than the notices to the Allocator may be sent and taken. -/
theorem setMail_keepsPower {x : Mailbox} (h : x.withdrawNotices = (s.box c).withdrawNotices) :
    KeepsPower s (s.setMail c x) := by
  refine .of_same ⟨rfl, rfl, rfl, rfl, rfl, fun _ => rfl, fun d => ?_⟩
  by_cases hd : d = c
  · subst hd
    simpa [State.box] using h
  · simp [State.box, hd]

theorem sendLockNotice_keepsPower (n : LockNotice) : KeepsPower s (s.sendLockNotice c n) :=
  setMail_keepsPower s c rfl

/-- A Sequencer replaced, neither entering nor leaving ABSENT, keeps the invariants where a heating one goes on heating
or has its notice in flight. -/
theorem setSeq_keepsPower {q : Sequencer} (hpresent : q.state = .absent ↔ (s.seq.get c).state = .absent)
    (hheating : s.heating c = true → (s.setSeq c q).heating c = true ∨ 0 < (s.box c).withdrawNotices) :
    KeepsPower s (s.setSeq c q) := by
  refine ⟨.of_leave (.of_alloc_eq rfl rfl rfl) fun d e _ hs => ?_, ringsSound_of_stay ?_⟩
  · by_cases hd : d = c
    · subst hd
      obtain ⟨htripped, hfed⟩ := hs
      refine ⟨htripped, ?_⟩
      rcases hfed with ⟨hheat, hrelay⟩ | hnotice
      · exact (hheating hheat).imp_left fun hheat => ⟨hheat, hrelay⟩
      · exact .inr hnotice
    · exact mayHold_of_same (sameStanding_of_keepsOthers (setSeq_keepsOthers s c q) hd) hs
  · refine ⟨rfl, rfl, fun _ => rfl, rfl, fun d => ?_⟩
    by_cases hd : d = c
    · subst hd
      simpa using hpresent
    · simp [hd]

theorem setSeq_keepsPower_of_same {q : Sequencer} (hstate : q.state = (s.seq.get c).state)
    (hcurrent : q.current = (s.seq.get c).current) : KeepsPower s (s.setSeq c q) :=
  setSeq_keepsPower s c (by rw [hstate]) fun h => .inl (by simpa [State.heating, hstate, hcurrent] using h)

theorem running_of_heating {s : State} {c : Cavity} (h : s.heating c = true) : (s.seq.get c).state = .running := by
  unfold State.heating at h
  split at h
  · assumption
  · assumption
  · cases h

/-- A Sequencer that is not in RUNNING moves on to any state but ABSENT. -/
theorem setSeq_keepsPower_of_resting {q : Sequencer} (hrest : (s.seq.get c).state ≠ .running)
    (hpresent : (s.seq.get c).state ≠ .absent) (hq : q.state ≠ .absent) : KeepsPower s (s.setSeq c q) :=
  setSeq_keepsPower s c (iff_of_false hq hpresent) fun h => absurd (running_of_heating h) hrest

/-! ### The Allocator's operations -/

/-- Grants that leave by the Allocator's own operations, which touch no ring, tier or standing. -/
theorem KeepsPower.of_setAlloc {s t : State} (h : GrantsLeave s t) (hrings : RingsStay s t)
    (hstanding : ∀ d, SameStanding s t d) : KeepsPower s t :=
  ⟨.of_leave h fun d _ _ => mayHold_of_same (hstanding d), ringsSound_of_stay hrings⟩

theorem dropGrant_relays (x : CavityElement) : (s.dropGrant x).drive.relays = s.drive.relays := by
  unfold State.dropGrant
  split <;> rfl

theorem dropGrant_keepsPower (x : CavityElement) : KeepsPower s (s.dropGrant x) := by
  refine .of_setAlloc ?_ ?_ fun d => ?_
  · constructor <;> simp [dropGrant_alloc, List.filter_sublist, Allocator.watts, Allocator.record]
  · constructor <;> simp [dropGrant_alloc]
  · simp [SameStanding, State.tripped, State.heating, State.relayClosed, State.box, dropGrant_relays]

theorem setDemand_keepsPower {d : DemandEntry} (h : d.tier = (s.alloc.demand.get c).tier) :
    KeepsPower s (s.setDemand c d) := by
  refine .of_setAlloc ?_ ⟨rfl, rfl, fun e => ?_, rfl, fun _ => Iff.rfl⟩ fun _ => ⟨rfl, rfl, rfl, rfl⟩
  · exact ⟨List.Sublist.refl _, fun _ _ => rfl, rfl, rfl, rfl, rfl, rfl⟩
  · by_cases he : e = c
    · subst he
      simpa [State.setDemand] using h
    · simp [State.setDemand, he]

end

end Sys2Proof.Machine
end

section
/-! PROOF. Every command keeps the power invariants: raised causes, the Sequencer and the Allocator (R85, R86, R92, R94,
R103, R104). -/

namespace Sys2Proof.Machine

/-! ### Steps about one cavity -/

section
variable {s t : State} {c : Cavity}

theorem grantsLeave_of_keepsOthers (h : KeepsOthers s t c) (hgrants : t.alloc.grants.Sublist s.alloc.grants)
    (hwatts : ∀ x ∈ t.alloc.grants, t.alloc.watts x = s.alloc.watts x) (hlink : t.link.quietCap = s.link.quietCap) :
    GrantsLeave s t := by
  obtain ⟨_, _, _, _, happliance, _, _, _, _, _, _, _, hsupply, hdeclared, havailable, _⟩ := h
  exact ⟨hgrants, hwatts, hsupply, hdeclared, havailable, happliance, hlink⟩

theorem ringsStay_of_keepsOthers (h : KeepsOthers s t c) (htier1 : t.alloc.tier1 = s.alloc.tier1)
    (htier2 : t.alloc.tier2 = s.alloc.tier2) (htier : (t.alloc.demand.get c).tier = (s.alloc.demand.get c).tier)
    (hpresent : (t.seq.get c).state = .absent ↔ (s.seq.get c).state = .absent) : RingsStay s t := by
  obtain ⟨hcavity, _, _, _, happliance, _⟩ := h
  refine ⟨htier1, htier2, fun d => ?_, happliance, fun d => ?_⟩ <;> by_cases hd : d = c
  · exact hd ▸ htier
  · obtain ⟨_, _, _, _, _, _, hdemand, _⟩ := hcavity d hd
    rw [hdemand]
  · exact hd ▸ hpresent
  · obtain ⟨hseq, _⟩ := hcavity d hd
    rw [hseq]

/-- A step about one cavity keeps the guard of every grant but that cavity's. -/
theorem keepsGrants_of_keepsOthers (h : KeepsOthers s t c) (hleave : GrantsLeave s t)
    (hhold : ∀ e, (c, e) ∈ t.alloc.grants → s.mayHold c → t.mayHold c) : KeepsGrants s t := by
  refine .of_leave hleave fun d e hmem => ?_
  by_cases hd : d = c
  · subst hd
    exact hhold e hmem
  · exact mayHold_of_same (sameStanding_of_keepsOthers h hd)

theorem watts_of_others (h : KeepsOthers s t c) {x : CavityElement} (hx : x.1 ≠ c) :
    t.alloc.watts x = s.alloc.watts x := by
  obtain ⟨hcavity, _⟩ := h
  obtain ⟨_, _, _, _, _, _, _, hrequests⟩ := hcavity x.1 hx
  exact watts_congr (by rw [Allocator.record, Allocator.record, hrequests])

/-! ### Raised causes -/

theorem trip_ringsStay (s : State) (c : Cavity) (k : Cause) : RingsStay s (s.trip c k) := by
  obtain ⟨_, halloc, _⟩ := trip_parts s c k
  exact ringsStay_of_keepsOthers (trip_keepsOthers s c k) (congrArg (·.tier1) halloc) (congrArg (·.tier2) halloc)
    (congrArg (fun a => (a.demand.get c).tier) halloc) (by simp)

/-- A first cause takes the cavity's grants out of the list (R104). -/
theorem trip_keepsPower (s : State) (c : Cavity) (k : Cause) : KeepsPower s (s.trip c k) := by
  obtain ⟨hlink, _, hgrants, _⟩ := trip_parts s c k
  have hothers := trip_keepsOthers s c k
  have hno {x : CavityElement} (hx : x ∈ (s.trip c k).alloc.grants) : x.1 ≠ c := by
    rw [hgrants, List.mem_filter, decide_eq_true_iff] at hx
    obtain ⟨_, hx⟩ := hx
    exact hx
  refine ⟨keepsGrants_of_keepsOthers hothers ?_ fun e hmem => absurd rfl (hno hmem),
    ringsSound_of_stay (trip_ringsStay s c k)⟩
  refine grantsLeave_of_keepsOthers hothers ?_ (fun x hx => watts_of_others hothers (hno hx)) (by simp [hlink])
  rw [hgrants]
  exact List.filter_sublist

theorem raise_ringsStay (s : State) (c : Cavity) (k : Cause) : RingsStay s (s.raise c k) := by
  rcases raise_cases s c k with h | ⟨_, _, h⟩ | ⟨_, r, hactive, h⟩ <;> rw [h]
  · exact ⟨rfl, rfl, fun _ => rfl, rfl, fun _ => Iff.rfl⟩
  · exact trip_ringsStay s c k
  · unfold State.laterCause
    split <;> exact ⟨rfl, rfl, fun _ => rfl, rfl, fun _ => Iff.rfl⟩

theorem raise_keepsPower (s : State) (c : Cavity) (k : Cause) : KeepsPower s (s.raise c k) := by
  rcases raise_cases s c k with h | ⟨_, _, h⟩ | ⟨_, r, hactive, h⟩ <;> rw [h]
  · exact .refl s
  · exact trip_keepsPower s c k
  · unfold State.laterCause
    split
    · exact .refl s
    · exact (setLimit_keepsPower s c (by simp [State.tripped, hactive])).trans (queueEvent_keepsPower _ _ _ _ _ _)

theorem raiseIf_keepsPower (s : State) (b : Bool) (c : Cavity) (k : Cause) : KeepsPower s (s.raiseIf b c k) := by
  unfold State.raiseIf
  split
  · exact raise_keepsPower s c k
  · exact .refl s

theorem raiseForEnabled_keepsPower (s : State) (k : Cause) : KeepsPower s (s.raiseForEnabled k) := by
  refine foldl_keepsPower (fun t c => ?_) Cavity.all s
  split
  · exact raise_keepsPower t c k
  · exact .refl t

/-- A relay that closes keeps its cavity fed. -/
theorem closeRelay_keepsPower (s : State) (c : Cavity) : KeepsPower s (s.closeRelay c) := by
  have hothers := closeRelay_keepsOthers s c
  rcases closeRelay_cases s c with h | h | ⟨_, _, _, h⟩ <;> rw [h] at hothers ⊢
  · exact .refl s
  · exact raise_keepsPower s c _
  · refine ⟨keepsGrants_of_keepsOthers hothers (.of_alloc_eq rfl rfl rfl) fun _ _ hs => ?_,
      ringsSound_of_stay ⟨rfl, rfl, fun _ => rfl, rfl, fun _ => Iff.rfl⟩⟩
    obtain ⟨htripped, hfed⟩ := hs
    rcases hfed with ⟨hheat, _⟩ | hnotice
    · exact ⟨htripped, .inl ⟨hheat, by simp [State.relayClosed]⟩⟩
    · exact ⟨htripped, .inr (by simpa [State.sendRelayClosing, State.box] using hnotice)⟩

/-! ### The Sequencer -/

theorem postRequest_keepsPower (s : State) (c : Cavity) (mode : RegMode) (reading : Option CavityReading) :
    KeepsPower s (s.postRequest c mode reading) :=
  (setMail_keepsPower s c (x := { s.box c with
    regulation := (s.box c).regulation ++ [s.regRequest c mode reading] }) rfl).trans
    (setSeq_keepsPower_of_same _ c (q := { s.seq.get c with newPhase := false }) rfl rfl)

theorem leave_state_ne_absent (q : Sequencer) : q.leave.state ≠ .absent := by
  rw [leave_state]
  dsimp only
  split <;> simp

/-- The settling test of a Sequencer that is present and not in RUNNING (R54, R57). -/
theorem settlingTest_keepsPower (hrest : (s.seq.get c).state ≠ .running) (hpresent : (s.seq.get c).state ≠ .absent) :
    KeepsPower s (s.settlingTest c) := by
  rcases settlingTest_cases s c with h | h | ⟨_, _, h⟩ | ⟨_, h⟩ <;> rw [h]
  · exact .refl s
  · exact setSeq_keepsPower_of_resting s c hrest hpresent (leave_state_ne_absent _)
  · exact (setSeq_keepsPower_of_resting s c hrest hpresent (by simp)).trans (setLock_keepsPower _ c _)
  · exact setSeq_keepsPower_of_resting s c hrest hpresent (leave_state_ne_absent _)

theorem settledState_ne_absent {lock : LockState} {owned : Bool} {waiting : SeqState} {outcome : CycleOutcome}
    (h : waiting ≠ .absent) : settledState lock owned waiting outcome ≠ .absent := by
  unfold settledState
  split
  case h_1 | h_2 | h_3 => exact h
  case h_4 => simp
  case h_5 => split <;> simp

/-- A cycle that ends out of RUNNING sends the notice that lets the cavity's grants stand until it is taken (R52,
R103). -/
theorem endCycle_keepsPower (hpresent : (s.seq.get c).state ≠ .absent) (outcome : CycleOutcome)
    (reason : Option AbortReason) (reading : Option CavityReading) :
    KeepsPower s (s.endCycle c outcome reason reading) := by
  have hothers := endCycle_keepsOthers s c outcome reason reading
  have hends := endCycle_ends s c outcome reason reading
  have hlink : (s.endCycle c outcome reason reading).link.quietCap = s.link.quietCap := by
    rw [endCycle_link]
    cases outcome <;> simp [State.cycleEvent, State.queueEvent]
  have htripped : (s.endCycle c outcome reason reading).tripped c = s.tripped c := by
    simp [State.tripped]
  obtain ⟨_, _, _, hstate, _, _, _, _, _, _, _, _, _, _, _, _, _, hnotices, halloc, _⟩ := hends
  obtain ⟨_, _, _, _, happliance, _⟩ := id hothers
  refine ⟨keepsGrants_of_keepsOthers hothers (.of_alloc_eq halloc happliance hlink) fun _ _ hs => ?_,
    ringsSound_of_stay (ringsStay_of_keepsOthers hothers (by rw [halloc]) (by rw [halloc]) (by rw [halloc]) ?_)⟩
  · obtain ⟨hclear, hfed⟩ := hs
    refine ⟨htripped.trans hclear, .inr ?_⟩
    rw [hnotices]
    rcases hfed with ⟨hheat, _⟩ | hnotice
    · simp [running_of_heating hheat]
    · exact Nat.add_pos_left hnotice _
  · exact iff_of_false (hstate ▸ settledState_ne_absent (by simp)) hpresent

/-! ### The rings -/

section
variable (a : Allocator) (c : Cavity)

theorem count_tier1_leaveRings (x : RingEntry) :
    (a.leaveRings c).tier1.count x = if x = .cavity c then 0 else a.tier1.count x :=
  count_filter_ne a.tier1 (.cavity c) x

theorem count_tier2_leaveRings (d : Cavity) :
    (a.leaveRings c).tier2.count d = if d = c then 0 else a.tier2.count d :=
  count_filter_ne a.tier2 c d

theorem count_tier1_joinRing (t : Tier) (x : RingEntry) :
    (a.joinRing c t).tier1.count x = a.tier1.count x + if x = .cavity c ∧ t = .one then 1 else 0 := by
  cases t <;> by_cases hx : x = .cavity c <;> simp [Allocator.joinRing, hx, eq_comm (a := RingEntry.cavity c)]

theorem count_tier2_joinRing (t : Tier) (d : Cavity) :
    (a.joinRing c t).tier2.count d = a.tier2.count d + if d = c ∧ t = .two then 1 else 0 := by
  cases t <;> by_cases hd : d = c <;> simp [Allocator.joinRing, hd, eq_comm (a := c)]

end

section
variable (a : Allocator) (c : Cavity) (t : Tier)

/-- A cavity that leaves its ring for the end of one stands once in that ring, and every other entry as often as
before. -/
theorem count_tier1_moved (x : RingEntry) : ((a.leaveRings c).joinRing c t).tier1.count x =
    if x = .cavity c then (if t = .one then 1 else 0) else a.tier1.count x := by
  rw [count_tier1_joinRing, count_tier1_leaveRings]
  by_cases hx : x = .cavity c <;> simp [hx]

theorem count_tier2_moved (d : Cavity) : ((a.leaveRings c).joinRing c t).tier2.count d =
    if d = c then (if t = .two then 1 else 0) else a.tier2.count d := by
  rw [count_tier2_joinRing, count_tier2_leaveRings]
  by_cases hd : d = c <;> simp [hd]

theorem joinRing_demand : ((a.leaveRings c).joinRing c t).demand = a.demand := by
  cases t <;> rfl

/-- Moving a cavity between the rings writes the rings alone. -/
theorem joinRing_alloc :
    { (a.leaveRings c).joinRing c t with tier1 := a.tier1, tier2 := a.tier2, demand := a.demand } = a := by
  cases t <;> rfl

end

/-- A cavity that stands in a ring changes its tier with its ring (R93). -/
theorem writeTier_keepsPower (hpresent : (s.seq.get c).state ≠ .absent) (t : Tier) :
    KeepsPower s (s.writeTier c t) := by
  unfold State.writeTier
  dsimp only
  split
  · exact .refl s
  refine ⟨.of_leave (.of_rings (joinRing_alloc s.alloc c t) rfl rfl) fun d _ _ => mayHold_of_same ⟨rfl, rfl, rfl, rfl⟩,
    fun hrings => ?_⟩
  · obtain ⟨hmarker, hstands⟩ := (ringsSound_iff s).mp hrings
    refine (ringsSound_iff _).mpr ⟨(count_tier1_moved s.alloc c t .marker).trans hmarker, fun d => ?_⟩
    have htier1 := count_tier1_moved s.alloc c t (.cavity d)
    have htier2 := count_tier2_moved s.alloc c t d
    by_cases hd : d = c
    · subst hd
      obtain ⟨hpresence, _⟩ := hstands d
      have henabled : s.enabled d = true := hpresence.mpr hpresent
      refine ⟨hpresence, htier1.trans ?_, htier2.trans ?_⟩ <;>
        simp [State.setDemand, State.enabled, show s.appliance.enabled.get d = true from henabled]
    · simp only [hd, RingEntry.cavity.injEq, if_false] at htier1 htier2
      exact ringStands_of_same (s := s) ⟨rfl, Iff.rfl, by simp [State.setDemand, joinRing_demand, hd], htier1, htier2⟩
        (hstands d)

/-! ### The begin and the end of a phase -/

theorem sendWithdrawNotice_keepsPower (s : State) (c : Cavity) : KeepsPower s (s.sendWithdrawNotice c) := by
  refine ⟨keepsGrants_of_keepsOthers (setMail_keepsOthers s c _) (.of_alloc_eq rfl rfl rfl) fun _ _ hs => ?_,
    ringsSound_of_stay ⟨rfl, rfl, fun _ => rfl, rfl, fun _ => Iff.rfl⟩⟩
  obtain ⟨htripped, _⟩ := hs
  exact ⟨htripped, .inr (by simp [State.sendWithdrawNotice, State.box])⟩

/-- A phase that begins up to the order to close the relay: a HEAT or SOAK phase keeps the cavity heating, and of any
other the Allocator has notice (R43, R93, R103). -/
theorem phaseWritten_keepsPower (hpresent : (s.seq.get c).state ≠ .absent) (n : Nat) (r : PhaseRecord) :
    KeepsPower s (s.phaseWritten c n r) := by
  have hwritten (t : State) :
      KeepsPower t ((t.queueEvent .phaseBegun (some c) 0 (some n)).writeElements c r.elements) :=
    (queueEvent_keepsPower t _ _ _ _ _).trans (setDemand_keepsPower _ c rfl)
  cases hheats : r.kind.heats
  · have hsent : s.phaseWritten c n r = (((s.sendWithdrawNotice c).setSeq c { s.seq.get c with
        current := some (n, r.kind), phaseElapsed := 0, soakProgress := 0 }).queueEvent .phaseBegun (some c) 0
        (some n)).writeElements c r.elements := by
      simp only [State.phaseWritten, hheats]
      rfl
    rw [hsent]
    refine (sendWithdrawNotice_keepsPower s c).trans
      ((setSeq_keepsPower _ c (by simp) fun _ => .inr ?_).trans (hwritten _))
    simp [State.sendWithdrawNotice, State.box]
  · have hchanged : s.phaseWritten c n r = (((s.setSeq c { s.seq.get c with
        current := some (n, r.kind), phaseElapsed := 0, soakProgress := 0 }).queueEvent .phaseBegun (some c) 0
        (some n)).writeElements c r.elements).writeTier c r.tier := by
      simp only [State.phaseWritten, hheats, if_true]
    rw [hchanged]
    refine ((setSeq_keepsPower s c (by simp) fun hheat => .inl ?_).trans (hwritten _)).trans
      (writeTier_keepsPower (by simpa [State.writeElements] using hpresent) r.tier)
    have hrunning := running_of_heating hheat
    cases hkind : r.kind <;> simp_all [State.heating, PhaseKind.heats]

/-- A phase begin is its written part, the order to close the relay at the entry into RUNNING, and the outputs that no
grant rests on (R43). -/
theorem beginPhase_keepsPower (hpresent : (s.seq.get c).state ≠ .absent) (entering : Bool) :
    KeepsPower s (s.beginPhase c entering) := by
  unfold State.beginPhase
  split
  · rename_i n r _ _
    have hwritten := phaseWritten_keepsPower hpresent n r
    cases entering
    · exact (hwritten.trans (setFan_keepsPower _ _)).trans (setSeq_keepsPower_of_same _ c (by rfl) (by rfl))
    · exact ((hwritten.trans (closeRelay_keepsPower _ c)).trans (setFan_keepsPower _ _)).trans
        (setSeq_keepsPower_of_same _ c (by rfl) (by rfl))
  · exact .refl s

theorem enterRunning_keepsPower (hrest : (s.seq.get c).state ≠ .running) (hpresent : (s.seq.get c).state ≠ .absent) :
    KeepsPower s (s.enterRunning c) :=
  (setSeq_keepsPower_of_resting s c hrest hpresent (by simp)).trans (beginPhase_keepsPower (by simp) true)

theorem endPhase_keepsPower (hpresent : (s.seq.get c).state ≠ .absent) (reading : Option CavityReading) :
    KeepsPower s (s.endPhase c reading) := by
  unfold State.endPhase
  dsimp only
  split
  · split
    · exact (setSeq_keepsPower_of_same s c (by rfl) (by rfl)).trans
        (endCycle_keepsPower (by simpa using hpresent) _ _ _)
    · exact (setSeq_keepsPower_of_same s c (by rfl) (by rfl)).trans
        (beginPhase_keepsPower (by simpa using hpresent) false)
  · exact .refl s

/-! ### Readings and notices that the Sequencer takes -/

theorem limitReached_keepsPower (hpresent : (s.seq.get c).state ≠ .absent) (r : PhaseRecord)
    (reading : CavityReading) : KeepsPower s (s.limitReached c r reading) := by
  unfold State.limitReached
  dsimp only
  split
  · exact (queueEvent_keepsPower s _ _ _ _ _).trans (endPhase_keepsPower (by simpa using hpresent) _)
  · exact (queueEvent_keepsPower s _ _ _ _ _).trans (endCycle_keepsPower (by simpa using hpresent) _ _ _)

theorem progress_standing (q : Sequencer) (r : PhaseRecord) (soakBand : Nat) (reading : CavityReading) :
    (q.progress r soakBand reading).state = q.state ∧ (q.progress r soakBand reading).current = q.current := by
  unfold Sequencer.progress
  split <;> exact ⟨rfl, rfl⟩

theorem phaseTests_keepsPower (hpresent : (s.seq.get c).state ≠ .absent) (reading : CavityReading) :
    KeepsPower s (s.phaseTests c reading) := by
  unfold State.phaseTests
  split
  · exact .refl s
  · rename_i r _
    obtain ⟨hstate, hcurrent⟩ := progress_standing (s.seq.get c) r (s.profiles.get c).soakBand reading
    have hset := setSeq_keepsPower_of_same s c hstate hcurrent
    have hpresent' := hstate ▸ hpresent
    dsimp only
    split_ifs
    · exact hset.trans (endPhase_keepsPower (by simpa using hpresent') _)
    · exact hset.trans (limitReached_keepsPower (by simpa using hpresent') r _)
    · exact hset

theorem countTime_keepsPower (s : State) (c : Cavity) : KeepsPower s (s.countTime c) := by
  have hspent : KeepsPower s (s.spendCount (s.seq.get c).cycleElapsed) :=
    .of_same (by simp [SamePower, State.tripped, State.box])
  exact hspent.trans (setSeq_keepsPower_of_same _ c (by simp) (by simp))

theorem runningReading_keepsPower (hpresent : (s.seq.get c).state ≠ .absent) (reading : CavityReading) :
    KeepsPower s (s.runningReading c reading) := by
  have htested := (countTime_keepsPower s c).trans
    (phaseTests_keepsPower (s := s.countTime c) (c := c) (by simpa [State.countTime] using hpresent) reading)
  unfold State.runningReading
  dsimp only
  split
  · exact htested.trans (postRequest_keepsPower _ c _ _)
  · exact htested

theorem countBlind_keepsPower (s : State) (c : Cavity) (reading : CavityReading) :
    KeepsPower s (s.countBlind c reading) := by
  unfold State.countBlind
  dsimp only
  split
  · exact .refl s
  · exact setSeq_keepsPower_of_same s c (by rfl) (by rfl)

theorem releaseTest_keepsPower (s : State) (c : Cavity) (reading : CavityReading) :
    KeepsPower s (s.releaseTest c reading) := by
  unfold State.releaseTest
  split
  · exact setLock_keepsPower s c _
  · exact .refl s

theorem settlingReading_keepsPower (hrest : (s.seq.get c).state ≠ .running)
    (hpresent : (s.seq.get c).state ≠ .absent) (reading : CavityReading) :
    KeepsPower s (s.settlingReading c reading) := by
  have hstate : (((s.countBlind c reading).releaseTest c reading).seq.get c).state = (s.seq.get c).state := by
    unfold State.releaseTest State.countBlind
    split_ifs <;> simp
  exact ((countBlind_keepsPower s c reading).trans (releaseTest_keepsPower _ c reading)).trans
    (settlingTest_keepsPower (hstate ▸ hrest) (hstate ▸ hpresent))

theorem sequenceReading_keepsPower (s : State) (c : Cavity) (reading : CavityReading) :
    KeepsPower s (s.sequenceReading c reading) := by
  unfold State.sequenceReading
  split <;> rename_i hstate
  case h_1 => exact runningReading_keepsPower (by simp [hstate]) reading
  case h_2 | h_3 => exact settlingReading_keepsPower (by simp [hstate]) (by simp [hstate]) reading
  case h_4 => exact countBlind_keepsPower s c reading
  all_goals exact .refl s

theorem takeSequencerReading_keepsPower (s : State) (c : Cavity) : KeepsPower s (takeSequencerReading c s) := by
  unfold takeSequencerReading
  split
  · exact .refl s
  · exact (setMail_keepsPower s c (by rfl)).trans (sequenceReading_keepsPower _ c _)

theorem heatCompleted_keepsPower (s : State) (c : Cavity) (position : Nat) :
    KeepsPower s (s.heatCompleted c position) := by
  unfold State.heatCompleted
  dsimp only
  split
  · rename_i hheating
    obtain ⟨hstate, _⟩ := hheating
    exact endPhase_keepsPower (by simp [hstate]) none
  · exact .refl s

theorem takeHeatComplete_keepsPower (s : State) (c : Cavity) : KeepsPower s (takeHeatComplete c s) := by
  unfold takeHeatComplete
  split
  · exact .refl s
  · exact (setMail_keepsPower s c (by rfl)).trans (heatCompleted_keepsPower _ c _)

theorem lockNoticed_keepsPower (s : State) (c : Cavity) (n : LockNotice) : KeepsPower s (s.lockNoticed c n) := by
  unfold State.lockNoticed
  split
  case h_1 h => exact enterRunning_keepsPower (by simp [h]) (by simp [h])
  case h_2 h => exact endCycle_keepsPower (by simp [h]) _ _ _
  case h_3 h => exact settlingTest_keepsPower (by simp [h]) (by simp [h])
  case h_4 h => exact settlingTest_keepsPower (by simp [h]) (by simp [h])
  case h_5 => exact .refl s

theorem takeLockNotice_keepsPower (s : State) (c : Cavity) : KeepsPower s (takeLockNotice c s) := by
  unfold takeLockNotice
  split
  · exact .refl s
  · exact (setMail_keepsPower s c (by rfl)).trans (lockNoticed_keepsPower _ c _)

theorem tripNoticed_keepsPower (s : State) (c : Cavity) : KeepsPower s (s.tripNoticed c) := by
  unfold State.tripNoticed
  dsimp only
  split <;> rename_i hstate
  case h_1 | h_2 => exact endCycle_keepsPower (by simp [hstate]) _ _ _
  case h_3 =>
    exact (setSeq_keepsPower_of_same s c (by rfl) (by rfl)).trans
      (settlingTest_keepsPower (by simp [hstate]) (by simp [hstate]))
  case h_4 => exact setSeq_keepsPower_of_same s c (by rfl) (by rfl)
  case h_5 => exact setSeq_keepsPower_of_resting s c (by simp [hstate]) (by simp [hstate]) (by simp)
  case h_6 | h_7 => exact .refl s

theorem takeTripNotice_keepsPower (s : State) (c : Cavity) : KeepsPower s (takeTripNotice c s) := by
  unfold takeTripNotice
  split
  · exact .refl s
  · exact (setMail_keepsPower s c (by rfl)).trans (tripNoticed_keepsPower _ c)

/-! ### Starts and clearances -/

theorem acceptStart_keepsPower (hidle : (s.seq.get c).state = .idle) (walked : List Nat) (locks : Bool) :
    KeepsPower s (s.acceptStart c walked locks) := by
  have hrest : (s.seq.get c).state ≠ .running := by simp [hidle]
  have hpresent : (s.seq.get c).state ≠ .absent := by simp [hidle]
  unfold State.acceptStart
  dsimp only
  split
  · exact (setSeq_keepsPower_of_resting s c hrest hpresent (by simp)).trans (setLock_keepsPower _ c _)
  · exact (setSeq_keepsPower_of_resting s c hrest hpresent (by simp [Sequencer.fresh])).trans
      (enterRunning_keepsPower (by simp [Sequencer.fresh]) (by simp [Sequencer.fresh]))

end

end Sys2Proof.Machine
end

section
/-! PROOF. The budget, the slot event and the profiles keep the power invariants (R85, R86, R92, R94, R98, R103, R105,
R106). -/

namespace Sys2Proof.Machine

/-! ### The budget worked out afresh -/

section
variable {s : State}

theorem rebudget_relays (s : State) : s.rebudget.drive.relays = s.drive.relays := by
  rcases shedGrants_drive (s.setAlloc { s.alloc with available := s.budget }) with h | ⟨grants, h⟩
  · exact congrArg (·.relays) h
  · exact congrArg (·.relays) h

/-- The budget worked out afresh stands and is met, whatever stood before, and sheds grants alone (R85, R86). -/
theorem rebudget_keepsPower (s : State) : KeepsPower s s.rebudget := by
  have halloc := rebudget_alloc s
  refine ⟨⟨fun _ => rebudget_withinBudget s, fun _ => rebudget_budgetStands s, fun hs c e hmem => ?_⟩,
    ringsSound_of_stay ⟨congrArg (·.tier1) halloc, congrArg (·.tier2) halloc, fun c => ?_, by simp, by simp⟩⟩
  · have hstanding : SameStanding s s.rebudget c :=
      ⟨tripped_congr (by simp) c, heating_congr (by simp) c, relayClosed_congr (rebudget_relays s) c, by
        simp [State.box]⟩
    exact mayHold_of_same hstanding (hs c e ((rebudget_prefix s).subset hmem))
  · rw [show s.rebudget.alloc.demand = s.alloc.demand from congrArg (·.demand) halloc]

/-- Whatever of the supply figures, the appliance profile and the link a step writes, the budget worked out afresh keeps
the invariants on it. -/
theorem rebudget_keepsPower_after {t : State} (hguarded : s.grantsGuarded → t.grantsGuarded)
    (hrings : s.ringsSound → t.ringsSound) : KeepsPower s t.rebudget :=
  ⟨⟨fun _ => rebudget_withinBudget t, fun _ => rebudget_budgetStands t,
    (rebudget_keepsPower t).guarded ∘ hguarded⟩, (rebudget_keepsPower t).rings ∘ hrings⟩

theorem heard_keepsPower (s : State) : KeepsPower s s.heard := by
  rw [heard_eq]
  split
  · rename_i hactive
    exact setLink_keepsPower s (by simp [Link.quietCap, Link.heard, hactive])
  · exact rebudget_keepsPower_after id id

theorem quietReached_keepsPower (s : State) : KeepsPower s (quietReached s) := by
  unfold quietReached
  split
  · exact rebudget_keepsPower_after id id
  · exact .refl s

theorem takeBreak_keepsPower (s : State) : KeepsPower s (takeBreak s) := by
  unfold takeBreak
  dsimp only
  split
  · exact rebudget_keepsPower_after id id
  · rename_i hrest
    exact setLink_keepsPower s (by simp [Link.quietCap, hrest])

end

/-! ### The slot event -/

section
variable (s : State)

/-- The rings turn by the rotating cavity (R98). -/
theorem grantSlot_rings :
    (s.grantSlot.alloc.tier1, s.grantSlot.alloc.tier2) = match s.rotating with
      | some c => ((s.alloc.rotate c).tier1, (s.alloc.rotate c).tier2)
      | none => (s.alloc.tier1, s.alloc.tier2) := by
  unfold State.grantSlot
  cases s.rotating with
  | none => rfl
  | some c =>
    have hdemand (f : CavityElement → RequestRecord → RequestRecord) : (s.alloc.mapRecords f).demand = s.alloc.demand :=
      rfl
    simp only [State.setAlloc_alloc, Allocator.rotate, hdemand]
    cases (s.alloc.demand.get c).tier <;> rfl

/-- A slot event turns the rings as they stood before it (R98). -/
theorem takeSlot_rings :
    ((takeSlot s).alloc.tier1, (takeSlot s).alloc.tier2) = match s.slotPrepared.rotating with
      | some c => ((s.alloc.rotate c).tier1, (s.alloc.rotate c).tier2)
      | none => (s.alloc.tier1, s.alloc.tier2) := by
  obtain ⟨_, _, _, hdemand, htier1, htier2, _⟩ := slotPrepared_parts s
  rw [takeSlot_alloc, grantSlot_rings, htier1, htier2]
  cases s.slotPrepared.rotating with
  | none => rfl
  | some c =>
    simp only [Allocator.rotate, hdemand, htier1, htier2, PerCavity.get_map]
    cases (s.alloc.demand.get c).tier <;> rfl

variable {s} {c : Cavity}

/-- Only a cavity in the priority order rotates: an element of it was granted (R96, R98). -/
theorem mem_priority_of_rotating (h : s.rotating = some c) : c ∈ s.alloc.priority := by
  have hgranted : ∃ x ∈ s.passThree.granted, x.1 = c := by
    unfold State.rotating at h
    split at h
    · rename_i x rest hone
      refine ⟨x, passOne_prefix_passThree.subset (by simp [hone]), by simpa using h⟩
    · obtain ⟨x, hx, hc⟩ := Option.map_eq_some_iff.mp h
      exact ⟨x, List.mem_of_mem_drop (List.mem_of_mem_head? hx), hc⟩
  obtain ⟨x, hx, rfl⟩ := hgranted
  obtain ⟨hring, _⟩ := mem_candidates_iff.mp (mem_candidates_of_granted hx)
  exact hring

theorem mem_priority_iff {a : Allocator} : c ∈ a.priority ↔
    .cavity c ∈ a.tier1 ∨ (.marker ∈ a.tier1 ∧ c ∈ a.tier2) := by
  unfold Allocator.priority
  rw [List.mem_flatMap]
  constructor
  · rintro ⟨x, hx, hc⟩
    cases x with
    | cavity d =>
      obtain rfl := List.mem_singleton.mp hc
      exact .inl hx
    | marker => exact .inr ⟨hx, hc⟩
  · rintro (hx | ⟨hx, hc⟩)
    · exact ⟨_, hx, by simp⟩
    · exact ⟨_, hx, hc⟩

/-- A cavity in sound rings' priority order is enabled. -/
theorem enabled_of_mem_priority (hrings : s.ringsSound) (h : c ∈ s.alloc.priority) : s.enabled c = true := by
  obtain ⟨_, hstands⟩ := hrings
  obtain ⟨_, htier1, htier2⟩ := hstands c
  by_contra hdisabled
  rw [if_neg (by simp [hdisabled]), List.count_eq_zero] at htier1 htier2
  rcases mem_priority_iff.mp h with hone | ⟨_, htwo⟩
  · exact htier1 hone
  · exact htier2 htwo

/-- Turning a ring by a cavity that stands in it leaves every count (R98). -/
theorem rotate_counts (hrings : s.ringsSound) (henabled : s.enabled c = true) :
    (∀ x, (s.alloc.rotate c).tier1.count x = s.alloc.tier1.count x) ∧
      ∀ d, (s.alloc.rotate c).tier2.count d = s.alloc.tier2.count d := by
  obtain ⟨hmarker, hstands⟩ := hrings
  obtain ⟨_, htier1, htier2⟩ := hstands c
  unfold Allocator.rotate
  cases htier : (s.alloc.demand.get c).tier <;> rw [henabled, htier] at htier1 htier2 <;>
    refine ⟨fun x => ?_, fun d => ?_⟩
  case one.refine_1 =>
    by_cases hx : x = .cavity c
    · rw [count_moved, if_pos hx, hx, htier1, if_pos ⟨rfl, rfl⟩]
    · rw [count_moved, if_neg hx]
  case one.refine_2 => rfl
  case two.refine_1 =>
    by_cases hx : x = .marker
    · rw [count_moved, if_pos hx, hx, hmarker]
    · rw [count_moved, if_neg hx]
  case two.refine_2 =>
    by_cases hd : d = c
    · rw [count_moved, if_pos hd, hd, htier2, if_pos ⟨rfl, rfl⟩]
    · rw [count_moved, if_neg hd]

theorem takeSlot_counts (hrings : s.ringsSound) : (∀ x, (takeSlot s).alloc.tier1.count x = s.alloc.tier1.count x) ∧
    ∀ d, (takeSlot s).alloc.tier2.count d = s.alloc.tier2.count d := by
  have hturned := takeSlot_rings s
  cases hrotating : s.slotPrepared.rotating with
  | none =>
    simp only [hrotating, Prod.mk.injEq] at hturned
    obtain ⟨htier1, htier2⟩ := hturned
    simp [htier1, htier2]
  | some c =>
    simp only [hrotating, Prod.mk.injEq] at hturned
    obtain ⟨htier1, htier2⟩ := hturned
    rw [htier1, htier2]
    refine rotate_counts hrings (enabled_of_mem_priority hrings ?_)
    obtain ⟨_, _, _, _, htier1, htier2, _⟩ := slotPrepared_parts s
    have hring := mem_priority_of_rotating hrotating
    rwa [mem_priority_iff, htier1, htier2, ← mem_priority_iff] at hring

end

/-- The window end queues events, and changes nothing else of the link (R90). -/
theorem windowEnd_quietCap (s : State) : s.windowEnd.link.quietCap = s.link.quietCap := by
  refine List.foldlRecOn (motive := fun t : State => t.link.quietCap = s.link.quietCap) Cavity.all windowEndCavity rfl
    fun t ht c _ => ?_
  rw [← ht]
  unfold windowEndCavity
  split
  · rfl
  · dsimp only
    split <;> simp [State.queueEvent]

theorem windowWork_quietCap (s : State) (first : Bool) : (s.windowWork first).link.quietCap = s.link.quietCap := by
  unfold State.windowWork
  split
  · cases first
    · exact windowEnd_quietCap s
    · rfl
  · rfl

theorem takeSlot_link (s : State) : (takeSlot s).link = s.slotPrepared.link := by simp [takeSlot_eq]

theorem takeSlot_quietCap (s : State) : (takeSlot s).link.quietCap = s.link.quietCap := by
  rw [takeSlot_link, State.slotPrepared, windowWork_quietCap]
  simp

/-- The relays at a slot event stay as they are; which of them stand closed is noted (R99, R114). -/
theorem takeSlot_relays (s : State) :
    (takeSlot s).drive.relays = s.drive.relays.map fun _ r => { r with sinceSlot := r.closedAt.isSome } := by
  have hgranted : s.slotPrepared.grantSlot.drive = s.drive := by simp
  rw [← hgranted]
  rfl

theorem takeSlot_relayClosed (s : State) (c : Cavity) : (takeSlot s).relayClosed c = s.relayClosed c := by
  rw [State.relayClosed, takeSlot_relays, PerCavity.get_map, State.relayClosed]

/-- What a slot event grants is eligible, fits the budget, and turns the rings by an enabled cavity (R94, R96, R98). -/
theorem takeSlot_keepsPower (s : State) : KeepsPower s (takeSlot s) := by
  obtain ⟨hsupply, hdeclared, havailable, hdemand, _⟩ := takeSlot_parts s
  refine ⟨⟨fun _ => ?_, fun hs => ?_, fun _ c e hmem => ?_⟩, fun hrings => ?_⟩
  · rw [State.withinBudget, havailable]
    exact takeSlot_grantedSum_le s
  · rw [State.budgetStands] at hs ⊢
    rw [havailable, hs, budget_congr hsupply hdeclared (by simp) (takeSlot_quietCap s)]
  · obtain ⟨_, hheating, hrelay, htripped, _⟩ := slotPrepared_eligible_iff.mp (eligible_of_granted hmem)
    refine ⟨(tripped_congr (by simp) c).trans htripped, .inl ⟨(heating_congr (by simp) c).trans hheating, ?_⟩⟩
    exact (takeSlot_relayClosed s c).trans hrelay
  · obtain ⟨htier1, htier2⟩ := takeSlot_counts hrings
    exact ringsSound_of_same (htier1 _) (fun c => ⟨enabled_congr (by simp) c, by simp, by simp [hdemand], htier1 _,
      htier2 c⟩) hrings

end Sys2Proof.Machine
end

section
/-! PROOF. The profiles keep the power invariants: cavities disabled and enabled, and a cavity profile bound (R92, R105,
R106, R190, R192). -/

namespace Sys2Proof.Machine

theorem setGrants_relays (s : State) (grants : List CavityElement) :
    (s.setGrants grants).drive.relays = s.drive.relays := rfl

/-! ### A cavity's grants and request records replaced -/

section
variable {s t : State} {c : Cavity}

/-- A cavity whose grants leave the list may have its request records replaced. -/
theorem GrantsLeave.of_dropped (hgrants : t.alloc.grants = s.alloc.grants.filter fun x => decide (x.1 ≠ c))
    (hrequests : ∀ d, d ≠ c → t.alloc.requests.get d = s.alloc.requests.get d)
    (hsupply : t.alloc.supply = s.alloc.supply) (hdeclared : t.alloc.declared = s.alloc.declared)
    (havailable : t.alloc.available = s.alloc.available) (happliance : t.appliance = s.appliance)
    (hlink : t.link.quietCap = s.link.quietCap) : GrantsLeave s t := by
  refine ⟨?_, fun x hx => ?_, hsupply, hdeclared, havailable, happliance, hlink⟩
  · rw [hgrants]
    exact List.filter_sublist
  · rw [hgrants, List.mem_filter, decide_eq_true_iff] at hx
    obtain ⟨_, hx⟩ := hx
    exact watts_congr (by rw [Allocator.record, Allocator.record, hrequests x.1 hx])

theorem KeepsGrants.of_dropped (hleave : GrantsLeave s t)
    (hgrants : t.alloc.grants = s.alloc.grants.filter fun x => decide (x.1 ≠ c))
    (hstanding : ∀ d, d ≠ c → SameStanding s t d) : KeepsGrants s t := by
  refine .of_leave hleave fun d e hmem => mayHold_of_same (hstanding d ?_)
  rw [hgrants, List.mem_filter, decide_eq_true_iff] at hmem
  obtain ⟨_, hd⟩ := hmem
  exact hd

theorem SameRing.of_stay (h : RingsStay s t) (d : Cavity) : SameRing s t d :=
  ⟨enabled_congr h.appliance d, h.present d, h.tier d, by rw [h.tier1], by rw [h.tier2]⟩

end

section
variable (s : State) (c : Cavity)

/-! ### A cavity disabled -/

theorem disableCavity_alloc : (disableCavity s c).alloc = { s.alloc.leaveRings c with
    grants := s.alloc.grants.filter fun x => decide (x.1 ≠ c)
    requests := s.alloc.requests.set c noRecords
    demand := s.alloc.demand.set c DemandEntry.powerUp
    powerLimited := s.alloc.powerLimited.set c false } := by
  simp [disableCavity, State.disableAlloc, dropCavityGrants_alloc, State.setGrants, Allocator.leaveRings]

theorem disableCavity_seq : (disableCavity s c).seq = s.seq.set c (Sequencer.fresh .absent) := by
  simp [disableCavity, State.disableSequencer]

theorem disableCavity_standing {d : Cavity} (hd : d ≠ c) : SameStanding s (disableCavity s c) d := by
  have hrelays : (disableCavity s c).drive.relays.get d = s.drive.relays.get d := by
    simp [disableCavity, setGrants_relays, openRelay_relays, State.disableAlloc, hd]
  refine ⟨?_, ?_, ?_, ?_⟩
  · simp [State.tripped, disableCavity, State.disableLimit, hd]
  · simp [State.heating, disableCavity_seq, hd]
  · rw [State.relayClosed, hrelays, State.relayClosed]
  · simp [State.box, disableCavity, hd]

theorem disableCavity_keepsGrants : KeepsGrants s (disableCavity s c) := by
  have halloc := disableCavity_alloc s c
  have hgrants : (disableCavity s c).alloc.grants = s.alloc.grants.filter fun x => decide (x.1 ≠ c) := by rw [halloc]
  refine .of_dropped (.of_dropped hgrants (fun d hd => ?_) ?_ ?_ ?_ (by simp) (by simp)) hgrants
    fun d => disableCavity_standing s c
  · simp [halloc, hd]
  all_goals
    rw [halloc]
    rfl

theorem disableCavity_sameRing {d : Cavity} (hd : d ≠ c) : SameRing s (disableCavity s c) d := by
  refine ⟨enabled_congr (by simp) d, by simp [disableCavity_seq, hd], by simp [disableCavity_alloc, hd], ?_, ?_⟩
  · rw [disableCavity_alloc]
    exact (count_tier1_leaveRings s.alloc c _).trans (if_neg (by simpa using hd))
  · rw [disableCavity_alloc]
    exact (count_tier2_leaveRings s.alloc c _).trans (if_neg hd)

theorem disableCavity_marker : (disableCavity s c).alloc.tier1.count .marker = s.alloc.tier1.count .marker := by
  rw [disableCavity_alloc]
  exact count_tier1_leaveRings s.alloc c _

/-- A cavity that is disabled stands in no ring (R106). -/
theorem disableCavity_ringStands (h : s.enabled c = false) : (disableCavity s c).ringStands c := by
  have hdisabled : (disableCavity s c).enabled c = false := (enabled_congr (by simp) c).trans h
  refine ⟨?_, ?_, ?_⟩
  · simp [hdisabled, disableCavity_seq, Sequencer.fresh]
  · simpa [hdisabled, disableCavity_alloc] using count_tier1_leaveRings s.alloc c (.cavity c)
  · simpa [hdisabled, disableCavity_alloc] using count_tier2_leaveRings s.alloc c c

/-! ### A cavity enabled -/

/-- An enabled cavity up to its lock's part (R190). -/
def State.enabledUnlocked (s : State) (c : Cavity) : State :=
  ((resetChannels ((s.enableSequencer c).enableAlloc c) c).enableFan c).enableLimit c

theorem enableCavity_eq : enableCavity s c = (s.enabledUnlocked c).enableLock c := rfl

theorem rebuildRequests_alloc : (s.rebuildRequests c).alloc = { s.alloc with
    grants := s.alloc.grants.filter fun x => decide (x.1 ≠ c)
    requests := s.alloc.requests.set c (noRecords.map fun e _ => (s.dropCavityGrants c).drive.requestFor (c, e)) } := by
  simp [State.rebuildRequests, dropCavityGrants_alloc]

theorem enabledUnlocked_alloc :
    (s.enabledUnlocked c).alloc.tier1 = ((s.alloc.leaveRings c).joinRing c .one).tier1 ∧
    (s.enabledUnlocked c).alloc.tier2 = ((s.alloc.leaveRings c).joinRing c .one).tier2 ∧
    (s.enabledUnlocked c).alloc.demand = s.alloc.demand.set c DemandEntry.powerUp ∧
    (s.enabledUnlocked c).alloc.grants = (s.alloc.grants.filter fun x => decide (x.1 ≠ c)) ∧
    (s.enabledUnlocked c).alloc.supply = s.alloc.supply ∧ (s.enabledUnlocked c).alloc.declared = s.alloc.declared ∧
    (s.enabledUnlocked c).alloc.available = s.alloc.available := by
  simp [State.enabledUnlocked, State.enableSequencer, State.enableAlloc, rebuildRequests_alloc, Allocator.leaveRings,
    Allocator.joinRing]

theorem enabledUnlocked_requests {d : Cavity} (hd : d ≠ c) :
    (s.enabledUnlocked c).alloc.requests.get d = s.alloc.requests.get d := by
  simp [State.enabledUnlocked, State.enableSequencer, State.enableAlloc, rebuildRequests_alloc, Allocator.leaveRings,
    Allocator.joinRing, hd]

@[simp] theorem enabledUnlocked_frame : (s.enabledUnlocked c).seq = s.seq.set c (Sequencer.fresh .idle) ∧
    (s.enabledUnlocked c).appliance = s.appliance ∧ (s.enabledUnlocked c).link = s.link ∧
    (s.enabledUnlocked c).mail = s.mail ∧ (s.enabledUnlocked c).drive.relays = s.drive.relays := by
  simp [State.enabledUnlocked, State.enableSequencer, State.enableAlloc, State.rebuildRequests]

theorem enabledUnlocked_standing {d : Cavity} (hd : d ≠ c) : SameStanding s (s.enabledUnlocked c) d := by
  refine ⟨?_, ?_, relayClosed_congr (by simp) d, by simp [State.box]⟩
  · simp [State.tripped, State.enabledUnlocked, State.enableLimit, hd]
  · simp [State.heating, hd]

theorem enabledUnlocked_keepsGrants : KeepsGrants s (s.enabledUnlocked c) := by
  obtain ⟨_, _, _, hgrants, hsupply, hdeclared, havailable⟩ := enabledUnlocked_alloc s c
  exact .of_dropped (.of_dropped hgrants (fun d => enabledUnlocked_requests s c) hsupply hdeclared havailable (by simp)
    (by simp)) hgrants fun d => enabledUnlocked_standing s c

theorem enabledUnlocked_sameRing {d : Cavity} (hd : d ≠ c) : SameRing s (s.enabledUnlocked c) d := by
  obtain ⟨htier1, htier2, hdemand, _⟩ := enabledUnlocked_alloc s c
  refine ⟨enabled_congr (by simp) d, by simp [hd], by simp [hdemand, hd], ?_, ?_⟩
  · rw [htier1]
    exact (count_tier1_moved s.alloc c .one _).trans (if_neg (by simpa using hd))
  · rw [htier2]
    exact (count_tier2_moved s.alloc c .one _).trans (if_neg hd)

/-- A cavity that is enabled stands in the ring of tier 1 (R106). -/
theorem enabledUnlocked_ringStands (h : s.enabled c = true) : (s.enabledUnlocked c).ringStands c := by
  obtain ⟨htier1, htier2, hdemand, _⟩ := enabledUnlocked_alloc s c
  have henabled : (s.enabledUnlocked c).enabled c = true := (enabled_congr (by simp) c).trans h
  refine ⟨?_, ?_, ?_⟩
  · simp [henabled, Sequencer.fresh]
  · simp [henabled, htier1, hdemand, DemandEntry.powerUp, count_tier1_moved]
  · simp [henabled, htier2, hdemand, DemandEntry.powerUp, count_tier2_moved]

theorem enableLock_keepsPower : KeepsPower s (s.enableLock c) := by
  unfold State.enableLock
  dsimp only
  split
  · exact setLock_keepsPower s c _
  · exact (setLock_keepsPower s c _).trans (raise_keepsPower _ c _)

theorem enableLock_ringsStay : RingsStay s (s.enableLock c) := by
  unfold State.enableLock
  dsimp only
  split
  · exact ⟨rfl, rfl, fun _ => rfl, rfl, fun _ => Iff.rfl⟩
  · obtain ⟨htier1, htier2, htier, happliance, hpresent⟩ := raise_ringsStay
      (s.setLock c { (s.locks.get c).restOpen with
        door := (s.pins.get c).door, switch := (s.pins.get c).lock, state := .jammed }) c .lockLost
    exact ⟨htier1, htier2, htier, happliance, hpresent⟩

theorem enableCavity_keepsGrants : KeepsGrants s (enableCavity s c) :=
  (enabledUnlocked_keepsGrants s c).trans (enableLock_keepsPower _ c).toKeepsGrants

theorem SameRing.trans {s t u : State} {c : Cavity} (hst : SameRing s t c) (htu : SameRing t u c) : SameRing s u c :=
  ⟨htu.enabled.trans hst.enabled, htu.present.trans hst.present, htu.tier.trans hst.tier, htu.tier1.trans hst.tier1,
    htu.tier2.trans hst.tier2⟩

theorem enableCavity_sameRing {d : Cavity} (hd : d ≠ c) : SameRing s (enableCavity s c) d :=
  (enabledUnlocked_sameRing s c hd).trans (.of_stay (enableLock_ringsStay _ c) d)

theorem enableCavity_ringStands (h : s.enabled c = true) : (enableCavity s c).ringStands c :=
  ringStands_of_same (.of_stay (enableLock_ringsStay _ c) c) (enabledUnlocked_ringStands s c h)

theorem enableCavity_marker : (enableCavity s c).alloc.tier1.count .marker = s.alloc.tier1.count .marker := by
  obtain ⟨htier1, _⟩ := enabledUnlocked_alloc s c
  rw [enableCavity_eq, (enableLock_ringsStay _ c).tier1, htier1]
  exact count_tier1_moved s.alloc c .one _

end

/-! ### An appliance profile accepted -/

/-- A fold over cavities each of which its step places in the rings, and each other of which its step leaves there. -/
theorem foldl_ringStands {f : State → Cavity → State} {enabled : Bool} {c : Cavity}
    (hframe : ∀ t d, (f t d).appliance = t.appliance) (hother : ∀ t d, c ≠ d → SameRing t (f t d) c)
    (hself : ∀ t, t.enabled c = enabled → (f t c).ringStands c) {l : List Cavity} {t : State}
    (hl : c ∈ l → t.enabled c = enabled) (h : c ∈ l ∨ t.ringStands c) : (l.foldl f t).ringStands c := by
  induction l generalizing t with
  | nil => exact h.resolve_left (by simp)
  | cons d l ih =>
    have hkept : (f t d).enabled c = t.enabled c := enabled_congr (hframe t d) c
    refine ih (fun hc => hkept.trans (hl (.tail d hc))) ?_
    by_cases hd : c = d
    · subst hd
      exact .inr (hself t (hl (.head l)))
    · rcases h with hc | hstands
      · exact .inl ((List.mem_cons.mp hc).resolve_left hd)
      · exact .inr (ringStands_of_same (hother t d hd) hstands)

/-- The cavities that an appliance profile disables, and those that it enables (R190). -/
def State.disabledBy (s : State) (a : ApplianceProfile) : List Cavity :=
  (Cavity.all.filter (s.changesEnable a)).filter fun c => !a.enabled.get c

def State.enabledBy (s : State) (a : ApplianceProfile) : List Cavity :=
  (Cavity.all.filter (s.changesEnable a)).filter fun c => a.enabled.get c

/-- The state with an appliance profile in force and the cavities that it disables disabled, and then also with those
that it enables enabled, before a changed quiet budget is worked in (R190). -/
def State.applianceDisabled (s : State) (a : ApplianceProfile) : State :=
  (s.disabledBy a).foldl disableCavity { s with appliance := a }

def State.applianceSet (s : State) (a : ApplianceProfile) : State :=
  (s.enabledBy a).foldl enableCavity (s.applianceDisabled a)

theorem mem_disabledBy {s : State} {a : ApplianceProfile} {c : Cavity} :
    c ∈ s.disabledBy a ↔ s.enabled c = true ∧ a.enabled.get c = false := by
  have hall : c ∈ Cavity.all := by cases c <;> decide
  cases h : a.enabled.get c <;> simp [State.disabledBy, State.changesEnable, State.enabled, hall, h]

theorem mem_enabledBy {s : State} {a : ApplianceProfile} {c : Cavity} :
    c ∈ s.enabledBy a ↔ s.enabled c = false ∧ a.enabled.get c = true := by
  have hall : c ∈ Cavity.all := by cases c <;> decide
  cases h : a.enabled.get c <;> simp [State.enabledBy, State.changesEnable, State.enabled, hall, h]

section
variable (s : State) (a : ApplianceProfile)

theorem acceptAppliance_eq : s.acceptAppliance a =
    if a.quietBudget = s.appliance.quietBudget then s.applianceSet a else (s.applianceSet a).rebudget := rfl

theorem applianceSet_keepsGrants : KeepsGrants { s with appliance := a } (s.applianceSet a) :=
  List.foldlRecOn _ _
    (List.foldlRecOn _ _ (.refl _) fun t ht c _ => ht.trans (disableCavity_keepsGrants t c))
    fun t ht c _ => ht.trans (enableCavity_keepsGrants t c)

theorem applianceDisabled_appliance : (s.applianceDisabled a).appliance = a :=
  List.foldlRecOn (motive := fun t : State => t.appliance = a) _ _ rfl fun t ht d _ => by simpa using ht

theorem applianceSet_marker :
    (s.applianceSet a).alloc.tier1.count .marker = s.alloc.tier1.count .marker :=
  List.foldlRecOn (motive := fun t : State => t.alloc.tier1.count .marker = s.alloc.tier1.count .marker) _ _
    (List.foldlRecOn (motive := fun t : State => t.alloc.tier1.count .marker = s.alloc.tier1.count .marker) _ _ rfl
      fun t ht d _ => (disableCavity_marker t d).trans ht) fun t ht d _ => (enableCavity_marker t d).trans ht

/-- Every cavity whose enable the profile changes is placed in the rings anew, and every other stays there (R190). -/
theorem applianceSet_rings (hs : s.ringsSound) : (s.applianceSet a).ringsSound := by
  obtain ⟨hmarker, hstands⟩ := (ringsSound_iff s).mp hs
  refine (ringsSound_iff _).mpr ⟨(applianceSet_marker s a).trans hmarker, fun c => ?_⟩
  have henabled (t : State) (ht : t.appliance = a) : t.enabled c = a.enabled.get c := by rw [State.enabled, ht]
  have hdisabled : c ∈ s.enabledBy a ∨ (s.applianceDisabled a).ringStands c := by
    by_cases hon : c ∈ s.enabledBy a
    · exact .inl hon
    refine .inr (foldl_ringStands (enabled := false) (fun t d => by simp) (fun t d => disableCavity_sameRing t d)
      (fun t => disableCavity_ringStands t c) (fun hoff => ?_) ?_)
    · obtain ⟨_, hoff⟩ := mem_disabledBy.mp hoff
      exact hoff
    · by_cases hoff : c ∈ s.disabledBy a
      · exact .inl hoff
      · have hsame : a.enabled.get c = s.enabled c := by
          rw [mem_enabledBy] at hon
          rw [mem_disabledBy] at hoff
          cases h : a.enabled.get c <;> cases h' : s.enabled c <;> simp_all
        exact .inr (ringStands_of_same (s := s) ⟨hsame, Iff.rfl, rfl, rfl, rfl⟩ (hstands c))
  refine foldl_ringStands (enabled := true) (fun t d => by simp) (fun t d => enableCavity_sameRing t d)
    (fun t => enableCavity_ringStands t c) (fun hon => ?_) hdisabled
  rw [henabled _ (applianceDisabled_appliance s a)]
  obtain ⟨_, hon⟩ := mem_enabledBy.mp hon
  exact hon

theorem acceptAppliance_keepsPower : KeepsPower s (s.acceptAppliance a) := by
  have hgrants := applianceSet_keepsGrants s a
  rw [acceptAppliance_eq]
  split
  · rename_i hquiet
    have hbudget : ({ s with appliance := a } : State).budget = s.budget := by rw [State.budget, hquiet, State.budget]
    refine ⟨⟨hgrants.within, fun hs => hgrants.budget ?_, hgrants.guarded⟩, applianceSet_rings s a⟩
    rw [State.budgetStands] at hs ⊢
    rw [hbudget]
    exact hs
  · exact rebudget_keepsPower_after hgrants.guarded (applianceSet_rings s a)

/-! ### A cavity profile accepted -/

theorem rebuildRequests_keepsPower (c : Cavity) : KeepsPower s (s.rebuildRequests c) := by
  have hgrants : (s.rebuildRequests c).alloc.grants = s.alloc.grants.filter fun x => decide (x.1 ≠ c) := by
    rw [rebuildRequests_alloc]
  refine ⟨.of_dropped (.of_dropped hgrants (fun d hd => ?_) ?_ ?_ ?_ (by simp) (by simp)) hgrants fun d _ => ?_,
    ringsSound_of_stay ?_⟩
  case refine_5 =>
    exact ⟨tripped_congr (by simp) d, heating_congr (by simp) d,
      relayClosed_congr (by simp [State.rebuildRequests]) d, by simp [State.box]⟩
  case refine_6 => constructor <;> simp [rebuildRequests_alloc]
  all_goals simp [rebuildRequests_alloc, *]

/-- A cavity bound to a profile keeps its standing; its grants leave the list (R105, R192). -/
theorem acceptProfile_keepsPower (c : Cavity) (x : CavityProfile) : KeepsPower s (s.acceptProfile c x) := by
  have hbound : KeepsPower s ((s.setProfile c x).setSeq c { s.seq.get c with bound := true }) :=
    KeepsPower.trans (t := s.setProfile c x) (.of_same ⟨rfl, rfl, rfl, rfl, rfl, fun _ => rfl, fun _ => rfl⟩)
      (setSeq_keepsPower_of_same _ c (by rfl) (by rfl))
  have hrebuilt (t : State) : KeepsPower t (t.rebuildOutputs c x) :=
    .of_same ⟨rfl, rfl, rfl, rfl, rfl, fun _ => rfl, fun _ => rfl⟩
  exact ((hbound.trans (hrebuilt _)).trans (rebuildRequests_keepsPower _ c)).trans (setReg_keepsPower _ c _)

end

end Sys2Proof.Machine
end

section
/-! PROOF. Every command keeps the power invariants (R85, R86, R92, R94, R103, R104). -/

namespace Sys2Proof.Machine

section
variable (s : State) (c : Cavity)

/-! ### The Limit Supervisor, the sense check and the Regulation Unit -/

theorem superviseReading_keepsPower (r : CavityReading) : KeepsPower s (s.superviseReading c r) := by
  have hstored : KeepsPower s (s.storeReading c r) := setLimit_keepsPower s c (by simp [State.tripped])
  exact (((hstored.trans (raiseIf_keepsPower _ _ c _)).trans (raiseIf_keepsPower _ _ c _)).trans
    (raiseIf_keepsPower _ _ c _)).trans (raiseIf_keepsPower _ _ c _)

theorem takeSupervisorReading_keepsPower : KeepsPower s (takeSupervisorReading c s) := by
  unfold takeSupervisorReading
  split
  · exact .refl s
  · exact (setMail_keepsPower s c (by rfl)).trans (superviseReading_keepsPower _ c _)

theorem takeSupervisorBoard_keepsPower : KeepsPower s (takeSupervisorBoard s) := by
  unfold takeSupervisorBoard
  split
  · exact .refl s
  · rename_i b rest _
    have hstored : KeepsPower s { s with
        mail := { s.mail with supervisorBoard := rest }, limit := { s.limit with board := some b } } :=
      .of_same ⟨rfl, rfl, rfl, rfl, rfl, fun _ => rfl, fun _ => rfl⟩
    unfold State.superviseBoard
    dsimp only
    split
    · exact hstored.trans (raiseForEnabled_keepsPower _ _)
    · exact hstored

theorem takeRelayClosing_keepsPower : KeepsPower s (takeRelayClosing c s) := by
  unfold takeRelayClosing
  split
  · exact .refl s
  · exact (setMail_keepsPower s c (by rfl)).trans (raiseIf_keepsPower _ _ c _)

theorem setPins_keepsPower (p : SwitchPins) : KeepsPower s (s.setPins c p) :=
  .of_same ⟨rfl, rfl, rfl, rfl, rfl, fun _ => rfl, fun _ => rfl⟩

theorem changeCutout_keepsPower (value : Cutout) : KeepsPower s (changeCutout c value s) := by
  unfold changeCutout
  dsimp only
  split
  · exact ((setPins_keepsPower s c _).trans (setLimit_keepsPower _ c (by simp [State.tripped]))).trans
      (raiseIf_keepsPower _ _ c _)
  · exact setPins_keepsPower s c _

theorem countMiss_keepsPower (j : Judgement) : KeepsPower s (s.countMiss j) := by
  unfold State.countMiss
  dsimp only
  split_ifs
  · exact setOutput_keepsPower s _ _
  · exact setOutput_keepsPower s _ _
  · exact ((setOutput_keepsPower s _ _).trans (queueEvent_keepsPower _ _ _ _ _ _)).trans (dropGrant_keepsPower _ _)

theorem countStuck_keepsPower (j : Judgement) : KeepsPower s (s.countStuck j) := by
  unfold State.countStuck
  dsimp only
  split
  · exact setOutput_keepsPower s _ _
  · exact (setOutput_keepsPower s _ _).trans (raise_keepsPower _ _ _)

theorem judge_keepsPower (j : Judgement) : KeepsPower s (s.judge j) := by
  unfold State.judge
  dsimp only
  split
  · exact .refl s
  · split
    · exact setOutput_keepsPower s _ _
    · exact countMiss_keepsPower s j
    · exact countStuck_keepsPower s j
    · exact setOutput_keepsPower s _ _

theorem checkSense_keepsPower (loads : BitVec 12) : KeepsPower s (checkSense loads s) := by
  unfold checkSense
  exact ((foldl_keepsPower (fun t j => setOutput_keepsPower t _ _) _ s).trans
    (foldl_keepsPower judge_keepsPower _ _)).trans (foldl_keepsPower (fun t d => raiseIf_keepsPower t _ d _) _ _)

theorem postDemand_keepsPower (u : Nat) : KeepsPower s (s.postDemand c u) := setDemand_keepsPower s c rfl

theorem takeRegulate_keepsPower (r : RegRequest) : KeepsPower s (s.takeRegulate c r) := by
  unfold State.takeRegulate
  dsimp only
  split
  · exact ((setReg_keepsPower s c _).trans (postDemand_keepsPower _ c _)).trans (setMail_keepsPower _ c (by rfl))
  · exact (setReg_keepsPower s c _).trans (postDemand_keepsPower _ c _)

theorem takeRegulateRequest_keepsPower : KeepsPower s (takeRegulateRequest c s) := by
  unfold takeRegulateRequest
  split
  · exact .refl s
  · split
    · exact (setMail_keepsPower s c (by rfl)).trans (takeRegulate_keepsPower _ c _)
    · exact .refl s

theorem takeOffRequest_keepsPower : KeepsPower s (takeOffRequest c s) := by
  unfold takeOffRequest
  split
  · exact .refl s
  · split
    · exact ((setMail_keepsPower s c (by rfl)).trans (setReg_keepsPower _ c _)).trans (postDemand_keepsPower _ c _)
    · exact .refl s

/-! ### The Door Lock Controllers -/

theorem lockTravelled_keepsPower (l : DoorLock) (kind : EventKind) (cavity : Option Cavity) (severity : Nat)
    (detail : Option Nat) (additional : Bool) (n : LockNotice) :
    KeepsPower s (((s.setLock c l).queueEvent kind cavity severity detail additional).sendLockNotice c n) :=
  ((setLock_keepsPower s c l).trans (queueEvent_keepsPower _ _ _ _ _ _)).trans (sendLockNotice_keepsPower _ c n)

theorem lockEngaged_keepsPower (l : DoorLock) : KeepsPower s (s.lockEngaged c l) :=
  lockTravelled_keepsPower s c _ _ _ _ _ _ _

theorem lockReleased_keepsPower (l : DoorLock) : KeepsPower s (s.lockReleased c l) :=
  lockTravelled_keepsPower s c _ _ _ _ _ _ _

theorem lockJammed_keepsPower (l : DoorLock) (detail : Nat) : KeepsPower s (s.lockJammed c l detail) :=
  (((setLock_keepsPower s c _).trans (queueEvent_keepsPower _ _ _ _ _ _)).trans (raise_keepsPower _ c _)).trans
    (sendLockNotice_keepsPower _ c _)

theorem lockLost_keepsPower (l : DoorLock) : KeepsPower s (s.lockLost c l) :=
  ((setLock_keepsPower s c _).trans (raise_keepsPower _ c _)).trans (sendLockNotice_keepsPower _ c _)

theorem doorChanged_keepsPower (value : DoorSwitch) : KeepsPower s (s.doorChanged c value) := by
  unfold State.doorChanged
  dsimp only
  split
  · exact (setLock_keepsPower s c _).trans (sendLockNotice_keepsPower _ c _)
  · exact (setLock_keepsPower s c _).trans (raise_keepsPower _ c _)
  · exact setLock_keepsPower s c _

theorem changeDoor_keepsPower (value : DoorSwitch) : KeepsPower s (changeDoor c value s) := by
  unfold changeDoor
  dsimp only
  split
  · exact (setPins_keepsPower s c _).trans (doorChanged_keepsPower _ c value)
  · exact setPins_keepsPower s c _

theorem lockSwitchChanged_keepsPower (value : LockSwitch) : KeepsPower s (s.lockSwitchChanged c value) := by
  unfold State.lockSwitchChanged
  dsimp only
  split
  · exact lockEngaged_keepsPower s c _
  · exact lockReleased_keepsPower s c _
  · exact setLock_keepsPower s c _
  · exact lockLost_keepsPower s c _
  · exact lockLost_keepsPower s c _
  · exact setLock_keepsPower s c _

theorem changeLockSwitch_keepsPower (value : LockSwitch) : KeepsPower s (changeLockSwitch c value s) := by
  unfold changeLockSwitch
  dsimp only
  split
  · exact (setPins_keepsPower s c _).trans (lockSwitchChanged_keepsPower _ c value)
  · exact setPins_keepsPower s c _

theorem engageTimeout_keepsPower : KeepsPower s (engageTimeout c s) := by
  unfold engageTimeout
  split
  · exact lockJammed_keepsPower s c _ 1
  · exact .refl s

theorem releaseTimeout_keepsPower : KeepsPower s (releaseTimeout c s) := by
  unfold releaseTimeout
  split
  · exact lockJammed_keepsPower s c _ 2
  · exact .refl s

theorem reversalReached_keepsPower : KeepsPower s (reversalReached c s) := by
  unfold reversalReached
  dsimp only
  split
  · exact lockReleased_keepsPower s c _
  · exact .refl s

/-! ### The Fan Controller and the Sensor Scanner -/

theorem takeFanReading_keepsPower : KeepsPower s (takeFanReading c s) := by
  unfold takeFanReading
  split
  · exact .refl s
  · exact (setMail_keepsPower s c (by rfl)).trans (setFan_keepsPower _ _)

theorem takeFanBoard_keepsPower : KeepsPower s (takeFanBoard s) := by
  unfold takeFanBoard
  split
  · exact .refl s
  · exact .of_same ⟨rfl, rfl, rfl, rfl, rfl, fun _ => rfl, fun _ => rfl⟩

theorem recoveryTest_keepsPower (rpm : Nat) : KeepsPower s (s.recoveryTest rpm) := by
  unfold State.recoveryTest
  split_ifs
  · exact setFan_keepsPower s _
  · exact setFan_keepsPower s _
  · exact (setFan_keepsPower s _).trans (queueEvent_keepsPower _ _ _ _ _ _)

theorem stallTest_keepsPower (rpm : Nat) : KeepsPower s (s.stallTest rpm) := by
  unfold State.stallTest
  split_ifs
  · exact setFan_keepsPower s _
  · exact setFan_keepsPower s _
  · exact ((setFan_keepsPower s _).trans (queueEvent_keepsPower _ _ _ _ _ _)).trans (raiseForEnabled_keepsPower _ _)

theorem speedTest_keepsPower (rpm : Nat) : KeepsPower s (s.speedTest rpm) := by
  unfold State.speedTest
  split
  · exact stallTest_keepsPower s rpm
  · exact (raiseForEnabled_keepsPower s _).trans (recoveryTest_keepsPower _ rpm)
  · exact .refl s
  · exact .refl s

theorem evaluateFan_keepsPower : KeepsPower s (evaluateFan s) :=
  (((setFan_keepsPower s _).trans (speedTest_keepsPower _ _)).trans (setFan_keepsPower _ _)).trans
    (setFan_keepsPower _ _)

theorem setScanner_keepsPower (x : Scanner) : KeepsPower s (s.setScanner x) :=
  .of_same ⟨rfl, rfl, rfl, rfl, rfl, fun _ => rfl, fun _ => rfl⟩

theorem referenceSecond_keepsPower : KeepsPower s (referenceSecond s) := by
  unfold referenceSecond
  dsimp only
  split
  · exact (setScanner_keepsPower s _).trans (queueEvent_keepsPower _ _ _ _ _ _)
  · exact (setScanner_keepsPower s _).trans (queueEvent_keepsPower _ _ _ _ _ _)
  · exact setScanner_keepsPower s _

theorem channelEvent_keepsPower (k : ProbeKind) (before after : ChannelState) :
    KeepsPower s (channelEvent s c k before after) := by
  unfold channelEvent
  split_ifs
  · exact queueEvent_keepsPower s _ _ _ _ _
  · exact queueEvent_keepsPower s _ _ _ _ _
  · exact .refl s

theorem gradeChannel_keepsPower (x : Cavity × ProbeKind) : KeepsPower s (gradeChannel s x) := by
  unfold gradeChannel
  split
  · exact (setScanner_keepsPower s _).trans (channelEvent_keepsPower _ _ _ _ _)
  · exact .refl s

theorem deliverCavity_keepsPower (graded : PerCavity Bool) : KeepsPower s (deliverCavity graded s c) := by
  unfold deliverCavity
  split
  · exact (setScanner_keepsPower s _).trans (setMail_keepsPower _ c (by rfl))
  · exact .refl s

theorem wholeSecond_keepsPower (board : Int) : KeepsPower s (wholeSecond board s) := by
  have hgraded := (referenceSecond_keepsPower s).trans (foldl_keepsPower gradeChannel_keepsPower probeChannels _)
  have hdelivered := hgraded.trans
    (foldl_keepsPower (fun t d => deliverCavity_keepsPower t d (fullSecond s)) Cavity.all _)
  exact hdelivered.trans (.of_same ⟨rfl, rfl, rfl, rfl, rfl, fun _ => rfl, fun _ => rfl⟩)

/-! ### The notice that the Allocator takes -/

/-- The grants that stood on the notice leave with it (R103). -/
theorem takeWithdrawNotice_keepsPower : KeepsPower s (takeWithdrawNotice c s) := by
  unfold takeWithdrawNotice
  split
  · exact .refl s
  · refine ⟨.of_dropped (c := c) (.of_dropped (c := c) ?_ ?_ ?_ ?_ ?_ ?_ ?_) ?_ fun d hd => ?_, ringsSound_of_stay ?_⟩
    case refine_9 =>
      exact ⟨tripped_congr (by simp) d, heating_congr (by simp) d, relayClosed_congr (by simp) d,
        by simp [State.box, hd]⟩
    case refine_10 => constructor <;> simp [dropCavityGrants_alloc]
    all_goals simp [dropCavityGrants_alloc]

/-! ### Clearing a trip -/

/-- A cavity whose trip is cleared leaves FAULTED with nothing granted (R166). -/
theorem clearTrip_keepsPower (h : s.clearRefusal c = none) : KeepsPower s (s.clearTrip c) := by
  have hfaulted : (s.seq.get c).state = .faulted := by
    unfold State.clearRefusal at h
    by_contra hne
    rw [if_pos hne] at h
    cases h
  have hmailed := setMail_keepsPower s c (x := { s.box c with tripNotices := 0 }) rfl
  unfold State.clearTrip
  dsimp only
  split
  · exact ((hmailed.trans (setLimit_keepsPower _ c (by simp))).trans
      (setSeq_keepsPower_of_resting _ c (by simp [hfaulted]) (by simp [hfaulted]) (by simp))).trans
      (queueEvent_keepsPower _ _ _ _ _ _)
  · exact hmailed.trans (setSeq_keepsPower_of_resting _ c (by simp [hfaulted]) (by simp [hfaulted]) (by simp))

end

/-! ### The requests -/

/-- The owner of a request keeps the power invariants of any state. -/
def OwnerKeepsPower (f : Owner) : Prop := ∀ p s, KeepsPower s (f p s).1

theorem ownerKeepsPower_of_reads {f : Owner} (h : ∀ p s, (f p s).1 = s) : OwnerKeepsPower f :=
  fun p s => (h p s).symm ▸ .refl s

theorem ownerKeepsPower_ofCavity {f : Cavity → List Byte → State → State × Reply} (h : ∀ c, OwnerKeepsPower (f c)) :
    OwnerKeepsPower (ownerOfCavity f) := by
  intro p s
  unfold ownerOfCavity
  split
  · exact .refl s
  · exact h _ p s

theorem setAttention_keepsPower : OwnerKeepsPower setAttention := by
  intro p s
  unfold setAttention
  dsimp only
  split
  · exact .refl s
  · exact setLink_keepsPower s rfl

theorem setFanFloor_keepsPower : OwnerKeepsPower setFanFloor := by
  intro p s
  unfold setFanFloor
  dsimp only
  split
  · exact .refl s
  · exact setFan_keepsPower s _

theorem setSupply_keepsPower : OwnerKeepsPower setSupply := by
  intro p s
  unfold setSupply
  split
  · exact .refl s
  · exact rebudget_keepsPower_after id id

theorem declareLoad_keepsPower : OwnerKeepsPower declareLoad := by
  intro p s
  unfold declareLoad
  split
  · exact .refl s
  · exact rebudget_keepsPower_after id id

theorem writePhase_keepsPower : OwnerKeepsPower writePhase := by
  intro p s
  unfold writePhase
  dsimp only
  split
  · exact .refl s
  · split
    · exact .refl s
    · split
      · exact .refl s
      · exact setRecord_keepsPower s _ _

theorem erasePhase_keepsPower : OwnerKeepsPower erasePhase := by
  intro p s
  unfold erasePhase
  dsimp only
  split
  · exact .refl s
  · split
    · exact .refl s
    · exact setRecord_keepsPower s _ _

/-- The rest of a start, from a state that writes nothing the Sequencer reads. -/
theorem finishStart_keepsPower {s : State} {c : Cavity} (hidle : (s.seq.get c).state = .idle)
    (table : Nat → Option PhaseRecord) (chain : Except (Nat × ChainCheck) (List Nat)) {write : State → State}
    (hwrite : KeepsPower s (write s)) (hseq : (write s).seq = s.seq) :
    KeepsPower s (s.finishStart c table chain write).1 := by
  unfold State.finishStart
  split
  · exact .refl s
  · split
    · exact .refl s
    · exact hwrite.trans (acceptStart_keepsPower (hseq ▸ hidle) _ _)

theorem startCycle_keepsPower : OwnerKeepsPower startCycle :=
  ownerKeepsPower_ofCavity fun c p s => by
    dsimp only
    split
    · exact .refl s
    · rename_i hrefusal
      split
      · exact .refl s
      · exact finishStart_keepsPower (idle_of_startRefusal hrefusal) _ _ (.refl s) rfl

theorem startInline_keepsPower : OwnerKeepsPower startInline :=
  ownerKeepsPower_ofCavity fun c p s => by
    dsimp only
    split
    · exact .refl s
    · rename_i hrefusal
      split
      · exact .refl s
      · exact finishStart_keepsPower (idle_of_startRefusal hrefusal) _ _ (setRecord_keepsPower s _ _) rfl

theorem abortCycle_keepsPower : OwnerKeepsPower abortCycle :=
  ownerKeepsPower_ofCavity fun c p s => by
    split <;> rename_i hstate
    case h_1 | h_2 => exact endCycle_keepsPower (by simp [hstate]) _ _ none
    case h_3 => exact .refl s

theorem lockDoor_keepsPower : OwnerKeepsPower lockDoor :=
  ownerKeepsPower_ofCavity fun c p s => by
    dsimp only
    split
    · exact .refl s
    · split
      case h_5 =>
        split
        · exact .refl s
        · exact setLock_keepsPower s c _
      all_goals exact .refl s

theorem unlockDoor_keepsPower : OwnerKeepsPower unlockDoor :=
  ownerKeepsPower_ofCavity fun c p s => by
    dsimp only
    split
    · exact .refl s
    · split
      case h_4 =>
        split_ifs
        · exact .refl s
        · exact lockReleased_keepsPower s c _
        · exact setLock_keepsPower s c _
      all_goals exact .refl s

theorem applianceProfile_keepsPower : OwnerKeepsPower applianceProfile := by
  intro p s
  unfold applianceProfile
  split
  · exact .refl s
  · exact acceptAppliance_keepsPower s _

theorem cavityProfile_keepsPower : OwnerKeepsPower cavityProfile :=
  ownerKeepsPower_ofCavity fun c p s => by
    split
    · exact .refl s
    · exact acceptProfile_keepsPower s c _

theorem clearTripOwner_keepsPower : OwnerKeepsPower clearTrip :=
  ownerKeepsPower_ofCavity fun c p s => by
    split
    · exact .refl s
    · rename_i hrefusal
      exact clearTrip_keepsPower s c hrefusal

theorem ownerOf_keepsPower (before : LinkState) (k : RequestKind) : OwnerKeepsPower (ownerOf before k) := by
  cases k with
  | identify | readStatus | readSensor => exact ownerKeepsPower_of_reads fun _ _ => rfl
  | readTrip => exact ownerKeepsPower_ofCavity fun _ => ownerKeepsPower_of_reads fun _ _ => rfl
  | readEvents => exact ownerKeepsPower_of_reads readEvents_reads
  | readPhase => exact ownerKeepsPower_of_reads readPhase_reads
  | readProfile => exact ownerKeepsPower_of_reads readProfile_reads
  | setAttention => exact setAttention_keepsPower
  | setFanFloor => exact setFanFloor_keepsPower
  | setSupply => exact setSupply_keepsPower
  | declareLoad => exact declareLoad_keepsPower
  | writePhase => exact writePhase_keepsPower
  | erasePhase => exact erasePhase_keepsPower
  | startCycle => exact startCycle_keepsPower
  | startInline => exact startInline_keepsPower
  | abortCycle => exact abortCycle_keepsPower
  | lockDoor => exact lockDoor_keepsPower
  | unlockDoor => exact unlockDoor_keepsPower
  | applianceProfile => exact applianceProfile_keepsPower
  | cavityProfile => exact cavityProfile_keepsPower
  | clearTrip => exact clearTripOwner_keepsPower

theorem answer_keepsPower (s : State) (h : Header) (code : Nat) (c : Option Cavity) (r : Reply) :
    KeepsPower s (s.answer h code c r) := by
  unfold State.answer
  split
  · split
    · exact .refl s
    · exact queueEvent_keepsPower s _ _ _ _ _
  · exact setLink_keepsPower s rfl

/-- Every frame and every request keeps the power invariants of the state that it came upon. -/
theorem framesKeep_power (s : State) : FramesKeep (KeepsPower s) where
  heard t ht := ht.trans (heard_keepsPower t)
  answer t h code c r ht := ht.trans (answer_keepsPower t h code c r)
  receiver t _ ht := ht.trans (setLink_keepsPower t rfl)
  owner before k p t ht := ht.trans (ownerOf_keepsPower before k p t)

/-! ### Power-up -/

section
variable (s : State) (pins : PowerUpPins)

/-- At power-up nothing is granted or budgeted, and every cavity stands IDLE in the ring of tier 1 (R61, R108). -/
theorem poweredUp_sound : (s.poweredUp pins).withinBudget ∧ (s.poweredUp pins).budgetStands ∧
    (s.poweredUp pins).grantsGuarded ∧ (s.poweredUp pins).ringsSound := by
  refine ⟨Nat.le_refl 0, ?_, fun c e hmem => ?_, rfl, fun c => ?_⟩
  · simp [State.budgetStands, State.budget, State.poweredUp, State.reset, Allocator.powerUp]
  · simp [State.poweredUp, State.reset, Allocator.powerUp] at hmem
  · cases c <;> exact ⟨by simp [State.enabled, State.poweredUp, State.reset, ApplianceProfile.default, Sequencer.fresh],
      rfl, rfl⟩

/-- A Sequencer at rest, present, is what recovery begins from and leaves (R61). -/
def State.resting (s : State) : Prop :=
  ∀ c, (s.seq.get c).state ≠ .running ∧ (s.seq.get c).state ≠ .absent

variable {s}

theorem recoverCavity_keepsPower (hs : s.resting) (c : Cavity) :
    KeepsPower s (recoverCavity s c) ∧ (recoverCavity s c).resting := by
  obtain ⟨hrest, hpresent⟩ := hs c
  unfold recoverCavity
  dsimp only
  split
  · refine ⟨((setSeq_keepsPower_of_resting s c hrest hpresent (by simp [Sequencer.recovering, Sequencer.fresh])).trans
      (queueEvent_keepsPower _ _ _ _ _ _)).trans (raiseIf_keepsPower _ _ c _), fun d => ?_⟩
    by_cases hd : d = c
    · simp [hd, Sequencer.recovering, Sequencer.fresh]
    · simpa [hd] using hs d
  · exact ⟨.refl s, hs⟩

theorem powerUp_keepsPower (s : State) (pins : PowerUpPins) : KeepsPower s (powerUp pins s) := by
  have hresting : (s.poweredUp pins).resting := fun c => by
    simp [State.poweredUp, State.reset, Sequencer.fresh]
  obtain ⟨hkept, _⟩ : KeepsPower (s.poweredUp pins) (powerUp pins s) ∧ (powerUp pins s).resting :=
    List.foldlRecOn (motive := fun t => KeepsPower (s.poweredUp pins) t ∧ t.resting) Cavity.all recoverCavity
      ⟨.refl _, hresting⟩ fun t ⟨ht, hrest⟩ c _ => by
        obtain ⟨hstep, hrest'⟩ := recoverCavity_keepsPower hrest c
        exact ⟨ht.trans hstep, hrest'⟩
  obtain ⟨hwithin, hbudget, hguarded, hrings⟩ := poweredUp_sound s pins
  exact ⟨⟨fun _ => hkept.within hwithin, fun _ => hkept.budget hbudget, fun _ => hkept.guarded hguarded⟩,
    fun _ => hkept.rings hrings⟩

end

/-! ### The line -/

theorem lineHigh_keepsPower (s : State) : KeepsPower s (lineHigh s) := by
  unfold lineHigh
  split
  · exact setLink_keepsPower s rfl
  · exact .refl s

theorem characterGap_keepsPower (s : State) : KeepsPower s (characterGap s) := by
  unfold characterGap
  split
  · exact setLink_keepsPower s rfl
  · exact .refl s

theorem completeReply_keepsPower (s : State) : KeepsPower s (completeReply s) := by
  unfold completeReply
  split
  · refine setLink_keepsPower s ?_
    unfold Link.replySent
    split <;> rfl
  · exact .refl s

/-! ### Every command -/

theorem exec_keepsPower {s t : State} {i : Instr} (h : exec i s = .next t) : KeepsPower s t := by
  have hframes := framesKeep_power s
  cases i <;> cases h
  case powerUp pins => exact powerUp_keepsPower s pins
  case wholeSecondReading board => exact wholeSecond_keepsPower s board
  case sequencerCavityReading c => exact takeSequencerReading_keepsPower s c
  case regulateRequest c => exact takeRegulateRequest_keepsPower s c
  case offRequest c => exact takeOffRequest_keepsPower s c
  case heatCompleteNotice c => exact takeHeatComplete_keepsPower s c
  case lockNotice c => exact takeLockNotice_keepsPower s c
  case tripNotice c => exact takeTripNotice_keepsPower s c
  case slotEvent => exact takeSlot_keepsPower s
  case grantWithdrawNotice c => exact takeWithdrawNotice_keepsPower s c
  case senseCheck loads => exact checkSense_keepsPower s loads
  case doorChange c value => exact changeDoor_keepsPower s c value
  case lockSwitchChange c value => exact changeLockSwitch_keepsPower s c value
  case engageTravelTimeout c => exact engageTimeout_keepsPower s c
  case releaseTravelTimeout c => exact releaseTimeout_keepsPower s c
  case reversalTimeReached c => exact reversalReached_keepsPower s c
  case cutoutChange c value => exact changeCutout_keepsPower s c value
  case supervisorCavityReading c => exact takeSupervisorReading_keepsPower s c
  case supervisorBoardReading => exact takeSupervisorBoard_keepsPower s
  case supplyRelayClosed c => exact takeRelayClosing_keepsPower s c
  case fanCavityReading c => exact takeFanReading_keepsPower s c
  case fanBoardReading => exact takeFanBoard_keepsPower s
  case fanEvaluation => exact evaluateFan_keepsPower s
  case quietTimeout => exact quietReached_keepsPower s
  case lineBreak => exact takeBreak_keepsPower s
  case frameDiscarded chars | frameForOtherNode chars => exact hframes.takeChars (.refl s) chars
  case unknownKind h code p | frameWhileReplyOwed h code p => exact hframes.takeFrame (.refl s) h _ p
  case applianceProfile h p pins =>
    have hread : KeepsPower s { s with pins := pins } :=
      .of_same ⟨rfl, rfl, rfl, rfl, rfl, fun _ => rfl, fun _ => rfl⟩
    exact hframes.takeRequest hread s.link.state .applianceProfile h p
  case lineReturnHigh => exact lineHigh_keepsPower s
  case characterGapTimeout => exact characterGap_keepsPower s
  case replyComplete => exact completeReply_keepsPower s
  case sampleInstant | tachPulse =>
    exact .of_same (by simp [SamePower, State.tripped, State.box])
  all_goals exact hframes.takeRequest (.refl s) s.link.state _ _ _

/-- Every step keeps the power invariants: a tenth of a second changes nothing that they read. -/
theorem step_keepsPower {s t : State} (h : step s = .next t) : KeepsPower s t := by
  unfold step at h
  split at h
  · rename_i i rest _
    have htaken : KeepsPower s { s with pending := rest } :=
      .of_same ⟨rfl, rfl, rfl, rfl, rfl, fun _ => rfl, fun _ => rfl⟩
    exact htaken.trans (exec_keepsPower h)
  · cases h
    exact .of_same ⟨rfl, rfl, rfl, rfl, rfl, fun _ => rfl, fun _ => rfl⟩

/-- Settles O5, by what every step keeps. -/
theorem budgetNeverExceeded : Obligations.BudgetNeverExceeded := fun _ _ hwithin hbudget h =>
  ⟨(step_keepsPower h).within hwithin, (step_keepsPower h).budget hbudget⟩

/-- Settles O8, by what every step keeps. -/
theorem grantsOnlyWhileHeating : Obligations.GrantsOnlyWhileHeating := fun _ _ hguarded h =>
  (step_keepsPower h).guarded hguarded

/-- Settles O10, by what every step keeps. -/
theorem ringsStaySound : Obligations.RingsStaySound := fun _ _ hrings h => (step_keepsPower h).rings hrings

end Sys2Proof.Machine
end

section
/-! PROOF. The outputs and the slot grant list (R99, R103, R111): what grants set and grants dropped switch, and the
notice that the Allocator takes. -/

namespace Sys2Proof.Machine

section
variable (s : State)

/-- Grants that are set switch every output to follow them (R111). -/
theorem setGrants_output (grants : List CavityElement) (i : Fin 12) : (s.setGrants grants).output i =
    { s.output i with drive := driven s.enabled grants (s.output i) } := by
  simp [State.output, State.setGrants, Drive.follow]

variable {s}

theorem drive_of_drivesFollow (h : s.drivesFollow) (i : Fin 12) :
    (s.output i).drive = driven s.enabled s.alloc.grants (s.output i) :=
  h _ (Vector.mem_toList_iff.mpr (Vector.getElem_mem i.isLt))

/-- Outputs that follow the list go on doing so when a cavity's grants leave it (R103, R111). -/
theorem dropCavityGrants_output (h : s.drivesFollow) (c : Cavity) (i : Fin 12) : (s.dropCavityGrants c).output i =
    { s.output i with drive := driven s.enabled (s.dropCavityGrants c).alloc.grants (s.output i) } := by
  unfold State.dropCavityGrants
  split
  · exact setGrants_output s _ i
  · rw [← drive_of_drivesFollow h i]

theorem dropCavityGrants_handed (s : State) (c : Cavity) : (s.dropCavityGrants c).drive.handed = s.drive.handed := by
  unfold State.dropCavityGrants
  split <;> rfl

end

/-- Settles O47: the notice is taken from the cavity's mail, and its grants are dropped. -/
theorem withdrawNoticeDropsGrants : Obligations.WithdrawNoticeDropsGrants := by
  intro s c hnotice
  have htaken : takeWithdrawNotice c s = (s.setMail c { s.box c with
      withdrawNotices := (s.box c).withdrawNotices - 1 }).dropCavityGrants c := if_neg (by omega)
  refine ⟨_, congrArg Host.Outcome.next htaken, dropCavityGrants_alloc _ c, fun hdrives i => ?_,
    dropCavityGrants_relays _ c, dropCavityGrants_handed _ c, ?_⟩
  · exact dropCavityGrants_output (s := s.setMail c _) hdrives c i
  · unfold State.dropCavityGrants
    split <;> rfl

end Sys2Proof.Machine
end

section
/-! PROOF. The slot event (R88 to R101): its numbers, the window end, the rings and the request records. -/

namespace Sys2Proof.Machine

/-! ### The numbers -/

/-- The slot and window numbers after a slot event (R88). -/
theorem advanceSlot_numbers (s : State) :
    (s.alloc.started = false → s.advanceSlot.alloc.slot = s.alloc.slot ∧ s.advanceSlot.alloc.window = s.alloc.window) ∧
    (s.alloc.started = true → s.alloc.slot < 30 →
      s.advanceSlot.alloc.slot = s.alloc.slot + 1 ∧ s.advanceSlot.alloc.window = s.alloc.window) ∧
    (s.alloc.started = true → s.alloc.slot = 30 →
      s.advanceSlot.alloc.slot = 1 ∧ (s.alloc.window + 1 < 2 ^ 32 →
        s.advanceSlot.alloc.window = s.alloc.window + 1)) := by
  unfold State.advanceSlot State.nextCount
  refine ⟨fun hfirst => ?_, fun hstarted hslot => ?_, fun hstarted hslot => ?_⟩
  · simp [hfirst]
  · simp [hstarted, hslot]
  · simp +contextual [hstarted, hslot]

theorem closeSlot_numbers (s : State) : s.closeSlot.alloc.started = s.alloc.started ∧
    s.closeSlot.alloc.slot = s.alloc.slot ∧ s.closeSlot.alloc.window = s.alloc.window :=
  ⟨rfl, rfl, rfl⟩

/-- Where the slot number stands at 1 to 30, a window starts at the first slot event in slot 1, and at any later one
behind slot 30 (R88). -/
theorem startsWindow_eq {s : State} (hlow : 1 ≤ s.alloc.slot) (hhigh : s.alloc.slot ≤ 30) :
    s.startsWindow = if s.alloc.started then decide (s.alloc.slot = 30) else decide (s.alloc.slot = 1) := by
  obtain ⟨hstarted, hslot, _⟩ := closeSlot_numbers s
  obtain ⟨hfirst, hnext, hlast⟩ := advanceSlot_numbers s.closeSlot
  rw [hstarted, hslot] at hfirst hnext hlast
  unfold State.startsWindow
  cases hs : s.alloc.started with
  | false =>
    obtain ⟨hsame, _⟩ := hfirst hs
    simp [hsame]
  | true =>
    rcases Nat.lt_or_eq_of_le hhigh with hlt | heq
    · obtain ⟨hadvanced, _⟩ := hnext hs hlt
      simp only [hadvanced, if_true, decide_eq_decide]
      omega
    · obtain ⟨hone, _⟩ := hlast hs heq
      simp [hone, heq]

/-! ### A window start -/

/-- Settles O46: a record asked afresh has no slot granted, and the passes count at most the one that they grant. -/
theorem windowStartSetsRequests : Obligations.WindowStartSetsRequests := by
  intro s c e r hstarted hslot henabled hr
  have hstarts : s.startsWindow = true := by simp [startsWindow_eq (s := s) (by omega) (by omega), hstarted, hslot]
  have hrecord := takeSlot_record s (c, e)
  rw [hr, Option.map_some] at hrecord
  have hq : (s.recordAsked (c, e) r).q = if (s.alloc.demand.get c).elements.has e = true ∧ s.dead (c, e) = false
      then ((s.alloc.demand.get c).u * 30 + 500) / 1000 else 0 := by
    simp [State.recordAsked, hstarts, henabled, slotsFor]
  have hg : (s.recordAsked (c, e) r).g = 0 := by simp [State.recordAsked, hstarts, henabled]
  refine ⟨_, _, rfl, hrecord, ?_, ?_⟩
  · rw [← hq]
    unfold RequestRecord.afterPasses
    split_ifs <;> rfl
  · by_cases hgranted : (c, e) ∈ (takeSlot s).alloc.grants
    · have helig := eligible_of_granted hgranted
      rw [takeSlot_grants] at hgranted
      simp [helig, hgranted, takeSlot_grants, RequestRecord.afterPasses, hg]
    · rw [if_neg hgranted]
      rw [takeSlot_grants] at hgranted
      unfold RequestRecord.afterPasses
      split_ifs <;> simp_all

end Sys2Proof.Machine
end

section
/-! PROOF. The window end of a slot event (R90): the power-limited flags and their events. -/

namespace Sys2Proof.Machine

/-! ### The flag of one cavity -/

/-- The power-limited flag that a window end leaves a cavity (R90). -/
def State.limitedAfter (s : State) (c : Cavity) : Bool :=
  if s.enabled c then decide (0 < s.alloc.shortfall c) else s.alloc.powerLimited.get c

/-- The link behind a cavity's part of a window end, with its event where the flag changes (R90). -/
def State.limitEvent (s : State) (l : Link) (c : Cavity) : Link :=
  if s.alloc.powerLimited.get c = false ∧ s.limitedAfter c = true then
    l.enqueue (s.event .powerLimited (some c) 2 (some (s.alloc.shortfall c)) false)
  else if s.alloc.powerLimited.get c = true ∧ s.limitedAfter c = false then
    l.enqueue (s.event .powerRestored (some c) 0 none false)
  else l

theorem any_eq_decide_sum_pos {α : Type} {f : α → Bool} {g : α → Nat} (h : ∀ x, f x = decide (0 < g x)) (l : List α) :
    l.any f = decide (0 < (l.map g).sum) := by
  induction l with
  | nil => rfl
  | cons x l ih =>
    rw [List.any_cons, ih, h, List.map_cons, List.sum_cons, Bool.eq_iff_iff]
    simp only [Bool.or_eq_true, decide_eq_true_eq]
    omega

/-- A window end's part of an enabled cavity: its flag stands where a record of it has not had its slots, and a change
queues an event (R90). -/
theorem windowEndCavity_eq (s : State) (c : Cavity) : windowEndCavity s c =
    if s.enabled c then
      (s.setAlloc { s.alloc with powerLimited := s.alloc.powerLimited.set c (s.limitedAfter c) }).setLink
        (s.limitEvent s.link c)
    else s := by
  cases henabled : s.enabled c with
  | false => simp [windowEndCavity, henabled]
  | true =>
    unfold windowEndCavity
    simp only [henabled, Bool.not_true, Bool.false_eq_true, if_false, if_true]
    generalize hafter : Element.all.any _ = after
    have hlimited : s.limitedAfter c = after := by
      rw [State.limitedAfter, henabled, if_pos rfl, Allocator.shortfall, ← hafter]
      refine (any_eq_decide_sum_pos (fun e => ?_) Element.all).symm
      cases s.alloc.record (c, e) <;> simp
    unfold State.limitEvent
    rw [hlimited]
    cases s.alloc.powerLimited.get c <;> cases after <;> rfl

section
variable (s : State) (c : Cavity)

theorem windowEndCavity_link : (windowEndCavity s c).link = s.limitEvent s.link c := by
  rw [windowEndCavity_eq]
  cases henabled : s.enabled c with
  | true => rfl
  | false => cases hflag : s.alloc.powerLimited.get c <;> simp [State.limitEvent, State.limitedAfter, henabled, hflag]

theorem windowEndCavity_flag (d : Cavity) : (windowEndCavity s c).alloc.powerLimited.get d =
    if d = c then s.limitedAfter c else s.alloc.powerLimited.get d := by
  rw [windowEndCavity_eq]
  cases henabled : s.enabled c with
  | true => by_cases hd : d = c <;> simp [hd]
  | false => simp +contextual [State.limitedAfter, henabled]

/-! ### The window end in its cavities -/

variable {s c}

/-- What a cavity's part of a window end reads, the part of another cavity leaves. -/
theorem limitedAfter_of_other {d : Cavity} (hd : d ≠ c) :
    (windowEndCavity s c).limitedAfter d = s.limitedAfter d ∧
      ∀ l, (windowEndCavity s c).limitEvent l d = s.limitEvent l d := by
  have halloc := windowEndCavity_alloc s c
  have hflag := (windowEndCavity_flag s c d).trans (if_neg hd)
  have hshort : (windowEndCavity s c).alloc.shortfall d = s.alloc.shortfall d := congrArg (·.shortfall d) halloc
  have henabled : (windowEndCavity s c).enabled d = s.enabled d := enabled_congr (by simp) d
  have hlimited : (windowEndCavity s c).limitedAfter d = s.limitedAfter d := by
    rw [State.limitedAfter, hflag, hshort, henabled, State.limitedAfter]
  refine ⟨hlimited, fun l => ?_⟩
  simp [State.limitEvent, State.event, hlimited, hflag, hshort]

/-- A window end over cavities that differ, each flag and event by what stood before it (R90). -/
theorem windowEnd_foldl {l : List Cavity} (hl : l.Nodup) (s : State) :
    (l.foldl windowEndCavity s).link = l.foldl s.limitEvent s.link ∧
      ∀ d, (l.foldl windowEndCavity s).alloc.powerLimited.get d =
        if d ∈ l then s.limitedAfter d else s.alloc.powerLimited.get d := by
  induction l generalizing s with
  | nil => simp
  | cons c l ih =>
    obtain ⟨hc, hl⟩ := List.nodup_cons.mp hl
    obtain ⟨hlink, hflags⟩ := ih hl (windowEndCavity s c)
    have hother {d : Cavity} (hd : d ∈ l) : d ≠ c := fun h => hc (h ▸ hd)
    refine ⟨?_, fun d => ?_⟩
    · rw [List.foldl_cons, hlink, windowEndCavity_link, List.foldl_cons]
      refine List.foldl_ext _ _ _ fun lk d hd => ?_
      obtain ⟨_, hevent⟩ := limitedAfter_of_other (s := s) (hother hd)
      exact hevent lk
    · rw [List.foldl_cons, hflags]
      by_cases hd : d ∈ l
      · obtain ⟨hlimited, _⟩ := limitedAfter_of_other (s := s) (hother hd)
        simp [hd, hlimited]
      · by_cases hdc : d = c <;> simp [hd, hdc, windowEndCavity_flag, hc]

theorem windowEnd_link (s : State) : s.windowEnd.link = Cavity.all.foldl s.limitEvent s.link := by
  obtain ⟨hlink, _⟩ := windowEnd_foldl (l := Cavity.all) (by decide) s
  exact hlink

theorem windowEnd_flag (s : State) (d : Cavity) : s.windowEnd.alloc.powerLimited.get d = s.limitedAfter d := by
  obtain ⟨_, hflags⟩ := windowEnd_foldl (l := Cavity.all) (by decide) s
  have hall : d ∈ Cavity.all := by cases d <;> decide
  exact (hflags d).trans (if_pos hall)

end

end Sys2Proof.Machine
end

section
/-! PROOF. The slot event as a whole (R88 to R101): the flags at a window end, the rings, the records and the frame. -/

namespace Sys2Proof.Machine

section
variable {s : State}

/-! ### The power-limited flags -/

/-- A slot event with no window behind it leaves the flags and the link (R88, R90). -/
theorem takeSlot_of_no_end (h : s.startsWindow = false ∨ s.alloc.started = false) :
    (takeSlot s).alloc.powerLimited = s.alloc.powerLimited ∧ (takeSlot s).link = s.link := by
  obtain ⟨_, _, _, _, _, _, hlimited⟩ := takeSlot_parts s
  obtain ⟨_, _, _, _, _, _, hflags, hslot, _⟩ := withdrawn_parts s
  have hlink : s.closeSlot.advanceSlot.slotWithdrawals.link = s.link := by simp
  rw [hlimited, takeSlot_link, State.slotPrepared, State.windowWork, hslot]
  rcases h with hstarts | hfirst
  · have hwithin : s.closeSlot.advanceSlot.alloc.slot ≠ 1 := by simpa [State.startsWindow] using hstarts
    rw [if_neg hwithin]
    exact ⟨hflags, hlink⟩
  · simp only [hfirst, Bool.not_false, if_true]
    split
    · exact ⟨hflags, hlink⟩
    · exact ⟨hflags, hlink⟩

/-- At a window end the flags and the link are those of the state that the withdrawals of the slot event leave (R90). -/
theorem takeSlot_of_end (hstarts : s.startsWindow = true) (hstarted : s.alloc.started = true) :
    (∀ c, (takeSlot s).alloc.powerLimited.get c = s.closeSlot.advanceSlot.slotWithdrawals.limitedAfter c) ∧
      (takeSlot s).link = Cavity.all.foldl s.closeSlot.advanceSlot.slotWithdrawals.limitEvent s.link := by
  obtain ⟨_, _, _, _, _, _, hlimited⟩ := takeSlot_parts s
  obtain ⟨_, _, _, _, _, _, _, hslot, _⟩ := withdrawn_parts s
  have hone : s.closeSlot.advanceSlot.alloc.slot = 1 := by simpa [State.startsWindow] using hstarts
  have hprepared : s.slotPrepared = s.closeSlot.advanceSlot.slotWithdrawals.windowEnd.windowStart := by
    rw [State.slotPrepared, State.windowWork, hslot, hone, hstarted]
    rfl
  rw [hlimited, takeSlot_link, hprepared]
  refine ⟨fun c => windowEnd_flag _ c, (windowEnd_link _).trans ?_⟩
  simp

/-- The slots that a record has not had, as a slot event's window end counts them: none where the slot event withdraws
it (R90, R101). -/
def State.shortOf (s : State) (x : CavityElement) : Nat :=
  match s.alloc.record x with
  | some r => if s.withdrawnAtSlot x then 0 else r.q - r.g
  | none => 0

theorem withdrawn_shortfall (s : State) (c : Cavity) : s.closeSlot.advanceSlot.slotWithdrawals.alloc.shortfall c =
    s.shortOf (c, .upper) + s.shortOf (c, .lower) + s.shortOf (c, .ring) + s.shortOf (c, .grill) := by
  rw [Allocator.shortfall]
  refine (congrArg List.sum (List.map_congr_left (g := fun e => s.shortOf (c, e)) fun e _ => ?_)).trans ?_
  · rw [withdrawn_record, State.shortOf]
    cases s.alloc.record (c, e) with
    | none => rfl
    | some r => cases h : s.withdrawnAtSlot (c, e) <;> simp [State.recordKept, RequestRecord.withdrawn, h]
  · simp [Element.all, Nat.add_assoc]

/-- The flag of a cavity behind a window end, read off the state before the slot event (R90). -/
theorem withdrawn_limitedAfter (s : State) (c : Cavity) : s.closeSlot.advanceSlot.slotWithdrawals.limitedAfter c =
    if s.enabled c then decide (0 < s.shortOf (c, .upper) + s.shortOf (c, .lower) + s.shortOf (c, .ring) +
      s.shortOf (c, .grill)) else s.alloc.powerLimited.get c := by
  obtain ⟨_, _, _, _, _, _, hflags, _⟩ := withdrawn_parts s
  rw [State.limitedAfter, withdrawn_shortfall, hflags, enabled_congr (s := s) (by simp)]

/-- The link behind a cavity's part of the window end, read off the state before the slot event (R90). -/
theorem withdrawn_limitEvent (s : State) (l : Link) (c : Cavity) :
    s.closeSlot.advanceSlot.slotWithdrawals.limitEvent l c =
      if s.alloc.powerLimited.get c = false ∧ s.closeSlot.advanceSlot.slotWithdrawals.limitedAfter c = true then
        l.enqueue (s.event .powerLimited (some c) 2 (some (s.shortOf (c, .upper) + s.shortOf (c, .lower) +
          s.shortOf (c, .ring) + s.shortOf (c, .grill))) false)
      else if s.alloc.powerLimited.get c = true ∧ s.closeSlot.advanceSlot.slotWithdrawals.limitedAfter c = false then
        l.enqueue (s.event .powerRestored (some c) 0 none false)
      else l := by
  obtain ⟨_, _, _, _, _, _, hflags, _⟩ := withdrawn_parts s
  simp [State.limitEvent, withdrawn_shortfall, hflags, State.event]

/-! ### The rings -/

/-- The rotating cavity goes to the end of its own ring, with the marker to the end of tier 1 where it is of tier 2
(R98). -/
theorem takeSlot_turned {c : Cavity} (h : s.slotPrepared.rotating = some c) :
    match (s.alloc.demand.get c).tier with
    | .one => (takeSlot s).alloc.tier1 = (s.alloc.tier1.filter fun x => decide (x ≠ .cavity c)) ++ [.cavity c] ∧
      (takeSlot s).alloc.tier2 = s.alloc.tier2
    | .two => (takeSlot s).alloc.tier2 = (s.alloc.tier2.filter fun x => decide (x ≠ c)) ++ [c] ∧
      (takeSlot s).alloc.tier1 = (s.alloc.tier1.filter fun x => decide (x ≠ .marker)) ++ [.marker] := by
  have hrings := takeSlot_rings s
  simp only [h, Prod.mk.injEq] at hrings
  obtain ⟨htier1, htier2⟩ := hrings
  rw [htier1, htier2, Allocator.rotate]
  cases (s.alloc.demand.get c).tier <;> exact ⟨rfl, rfl⟩

theorem takeSlot_unturned (h : s.slotPrepared.rotating = none) :
    (takeSlot s).alloc.tier1 = s.alloc.tier1 ∧ (takeSlot s).alloc.tier2 = s.alloc.tier2 := by
  have hrings := takeSlot_rings s
  simpa only [h, Prod.mk.injEq] using hrings

/-- The rotating cavity is that of the first grant of pass 1, or else of pass 3 (R98). -/
theorem rotating_of_passOne {x : CavityElement} {rest : List CavityElement} (h : s.passOne.granted = x :: rest) :
    s.rotating = some x.1 := by
  simp [State.rotating, h]

theorem rotating_of_passThree {x : CavityElement} {rest : List CavityElement} (hone : s.passOne.granted = [])
    (h : s.passThree.granted = s.passTwo.granted ++ x :: rest) : s.rotating = some x.1 := by
  simp [State.rotating, hone, h]

theorem rotating_of_none (hone : s.passOne.granted = []) (h : s.passThree.granted = s.passTwo.granted) :
    s.rotating = none := by
  simp [State.rotating, hone, h]

/-! ### The outputs and the frame -/

theorem takeSlot_output (s : State) (i : Fin 12) : (takeSlot s).output i =
    { s.output i with drive := driven s.enabled (takeSlot s).alloc.grants (s.output i) } := by
  have houtput : s.slotPrepared.grantSlot.output i = s.output i := by simp [State.output]
  have henabled : s.slotPrepared.grantSlot.enabled = s.enabled := funext (enabled_congr (by simp))
  have hset := setGrants_output s.slotPrepared.grantSlot s.slotPrepared.grantSlot.alloc.grants i
  rw [henabled, houtput] at hset
  exact hset

theorem takeSlot_outside (s : State) :
    { takeSlot s with alloc := s.alloc, drive := s.drive, link := s.link, free := s.free } = s := by
  simp

end

/-! ### The whole event -/

theorem recordAsked_eq {s : State} {x : CavityElement} {r : RequestRecord} (hlow : 1 ≤ s.alloc.slot)
    (hhigh : s.alloc.slot ≤ 30) : s.recordAsked x r =
      let d := s.alloc.demand.get x.1
      let closed : RequestRecord := { r with held := s.alloc.grants.contains x }
      let kept : RequestRecord :=
        if d.withdraw = true ∨ d.elements.has x.2 = false ∨ s.dead x = true then
          { closed with q := r.g, deferral := 0, overdue := false }
        else closed
      if (if s.alloc.started then decide (s.alloc.slot = 30) else decide (s.alloc.slot = 1)) = true ∧
          s.enabled x.1 = true then
        { kept with
          q := if d.elements.has x.2 = true ∧ s.dead x = false then (d.u * 30 + 500) / 1000 else 0
          g := 0 }
      else kept := by
  simp [State.recordAsked, startsWindow_eq hlow hhigh, State.recordKept, State.withdrawnAtSlot,
    RequestRecord.withdrawn, slotsFor, or_assoc]

/-- What the passes make of a record: granted, passed over, or not eligible (R97). -/
theorem takeSlot_record_cases {s : State} {c : Cavity} {e : Element} {r : RequestRecord}
    (hr : s.alloc.record (c, e) = some r) :
    let asked := s.recordAsked (c, e) r
    let eligible : Prop := asked.g < asked.q ∧ s.heating c = true ∧ s.relayClosed c = true ∧ s.tripped c = false ∧
      s.dead (c, e) = false
    ((c, e) ∈ (takeSlot s).alloc.grants → eligible ∧ (takeSlot s).alloc.record (c, e) =
      some { asked with g := asked.g + 1, deferral := 0, overdue := false }) ∧
    ((c, e) ∉ (takeSlot s).alloc.grants → eligible → (takeSlot s).alloc.record (c, e) = some { asked with
      deferral := min 4 (asked.deferral + 1), overdue := asked.overdue || decide (4 ≤ asked.deferral + 1) }) ∧
    (¬ eligible → (takeSlot s).alloc.record (c, e) = some asked) := by
  intro asked eligible
  have helig : s.slotPrepared.eligible (c, e) = true ↔ eligible := by
    rw [slotPrepared_eligible_iff, hr]
    simp [eligible, asked]
  have hrecord := takeSlot_record s (c, e)
  rw [hr, Option.map_some] at hrecord
  refine ⟨fun hgranted => ⟨helig.mp (eligible_of_granted hgranted), ?_⟩, fun hpassed heligible => ?_, fun hnot => ?_⟩
  · have heligible := eligible_of_granted hgranted
    rw [takeSlot_grants] at hgranted
    rw [hrecord, if_pos heligible, RequestRecord.afterPasses, if_pos (by simpa using hgranted)]
  · rw [takeSlot_grants] at hpassed
    rw [hrecord, if_pos (helig.mpr heligible), RequestRecord.afterPasses, if_neg (by simpa using hpassed)]
  · rw [hrecord, if_neg (mt helig.mp hnot)]

/-- Settles O44: the grants and the frame, the flags, the rings and the records, in the order of the statement. -/
theorem slotEventGrants : Obligations.SlotEventGrants := by
  refine ⟨fun s => ?_, fun s => ?_, fun s => ?_, fun s c e r hr hlow hhigh => ?_⟩
  · obtain ⟨hsupply, hdeclared, havailable, hdemand, hslot, hwindow, _⟩ := takeSlot_parts s
    obtain ⟨hfirst, hnext, hlast⟩ := advanceSlot_numbers s.closeSlot
    have hrelays := takeSlot_relays s
    refine ⟨takeSlot s, rfl, passThree_nodup _, takeSlot_grantedSum_le s, fun c e hmem => ?_, fun h => ?_,
      fun h h' => ?_, fun h h' h'' => ?_, fun x r hr => ?_, fun c => ?_, rfl, takeSlot_output s, fun c => ?_,
      hsupply, hdeclared, havailable, takeSlot_outside s⟩
    · obtain ⟨⟨r, hr, _⟩, hstanding⟩ := slotPrepared_eligible_iff.mp (eligible_of_granted hmem)
      obtain ⟨hheating, hrelay, htripped, hdead⟩ := hstanding
      exact ⟨hheating, hrelay, htripped, hdead, by simp [hr]⟩
    · rw [hslot, hwindow]
      exact hfirst h
    · rw [hslot, hwindow]
      exact hnext h h'
    · rw [hslot, hwindow]
      obtain ⟨hone, hadvanced⟩ := hlast h h'
      exact ⟨hone, hadvanced h''⟩
    · obtain ⟨houtput, hwatts, hheld⟩ := recordAsked_parts s x r
      refine ⟨_, by rw [takeSlot_record, hr, Option.map_some], ?_⟩
      unfold RequestRecord.afterPasses
      split_ifs <;> exact ⟨houtput, hwatts, hheld⟩
    · rw [hdemand, PerCavity.get_map]
    · rw [hrelays, PerCavity.get_map]
      exact ⟨rfl, rfl⟩
  · refine ⟨takeSlot s, rfl, fun hno => takeSlot_of_no_end ?_, fun hend => ?_⟩
    · cases hstarted : s.alloc.started with
      | false => exact .inr rfl
      | true =>
        obtain ⟨hlow, hhigh⟩ := hno.resolve_left (by simp [hstarted])
        have hwithin : s.alloc.slot ≠ 30 := by omega
        exact .inl (by simp [startsWindow_eq hlow (by omega), hstarted, hwithin])
    · obtain ⟨hstarted, hslot⟩ : s.alloc.started = true ∧ s.alloc.slot = 30 := by simpa using hend
      have hstarts : s.startsWindow = true := by
        simp [startsWindow_eq (s := s) (by omega) (by omega), hstarted, hslot]
      obtain ⟨hflags, hlink⟩ := takeSlot_of_end hstarts hstarted
      refine ⟨fun c => (hflags c).trans (withdrawn_limitedAfter s c), hlink.trans ?_⟩
      refine List.foldl_ext _ _ _ fun l c _ => ?_
      rw [withdrawn_limitEvent, withdrawn_limitedAfter]
      rfl
  · refine ⟨takeSlot s, rfl, takeSlot_grants s, fun x rest hone => ?_, fun hone x rest hthree => ?_,
      fun hone hthree => ?_⟩
    · exact takeSlot_turned (rotating_of_passOne hone)
    · exact takeSlot_turned (rotating_of_passThree hone hthree)
    · exact takeSlot_unturned (rotating_of_none hone hthree)
  · have hcases := takeSlot_record_cases hr
    simp only [recordAsked_eq hlow hhigh] at hcases
    exact ⟨takeSlot s, rfl, hcases⟩

end Sys2Proof.Machine
end

section
/-! PROOF. A cavity profile accepted (R89, R105, R121, R191, R192): the outputs that it names, the request records made
anew from them, and the grants that leave. -/

namespace Sys2Proof.Machine

/-! ### The output map -/

section
variable {x : CavityProfile} {c : Cavity} {e : Element} {i : Nat} {o : OutputRecord}

theorem mem_named_iff : i ∈ x.named ↔ ∃ e, x.outputs.get e = some i := by
  simp [CavityProfile.named, List.mem_filterMap, Element.mem_all]

/-- A map that names no output twice gives every output one element (R110). -/
theorem element_unique {d : Element} (h : x.named.Nodup) (hd : x.outputs.get d = some i)
    (he : x.outputs.get e = some i) : d = e := by
  have hapart : Element.all.Pairwise fun a b => ∀ p, x.outputs.get a = some p → ∀ q, x.outputs.get b = some q → p ≠ q :=
    List.pairwise_filterMap.mp h
  have hsymm : Std.Symm fun a b => ∀ p, x.outputs.get a = some p → ∀ q, x.outputs.get b = some q → p ≠ q :=
    ⟨fun a b hab p hp q hq => (hab q hq p hp).symm⟩
  by_contra hne
  exact hapart.forall (Element.mem_all d) (Element.mem_all e) hne i hd i he rfl

theorem elementAt_eq_some_iff (h : x.named.Nodup) : x.elementAt i = some e ↔ x.outputs.get e = some i := by
  constructor
  · intro hfound
    simpa using List.find?_some hfound
  · intro he
    cases hfound : x.elementAt i with
    | none => simpa [he] using List.find?_eq_none.mp hfound e (Element.mem_all e)
    | some d => exact congrArg some (element_unique h (by simpa using List.find?_some hfound) he)

theorem elementAt_eq_none (h : i ∉ x.named) : x.elementAt i = none := by
  refine List.find?_eq_none.mpr fun e _ hfound => h (mem_named_iff.mpr ⟨e, ?_⟩)
  simpa using hfound

/-! ### The outputs rebuilt -/

/-- A named output gets its owner and its rating (R121). -/
theorem rebuilt_of_named (h : x.named.Nodup) (he : x.outputs.get e = some i) : o.rebuilt c x i =
    { OutputRecord.unmapped with owner := some (c, e), rating := some (x.ratings.get e) } := by
  simp [OutputRecord.rebuilt, (elementAt_eq_some_iff h).mpr he]

/-- Any other output of the cavity is freed, and every other output stands (R121). -/
theorem rebuilt_of_not_named (h : i ∉ x.named) : o.rebuilt c x i =
    if o.owner.map Prod.fst = some c then OutputRecord.unmapped else o := by
  simp [OutputRecord.rebuilt, elementAt_eq_none h]

theorem rebuildOutputs_output (s : State) (c : Cavity) (x : CavityProfile) (i : Fin 12) :
    (s.rebuildOutputs c x).output i = (s.output i).rebuilt c x i := by
  simp [State.output, State.rebuildOutputs]

/-- An element owns the output that the profile maps it to, and no other (R109, R121). -/
theorem rebuilt_owner_iff (h : x.named.Nodup) : (o.rebuilt c x i).owner = some (c, e) ↔ x.outputs.get e = some i := by
  by_cases hnamed : i ∈ x.named
  · obtain ⟨d, hd⟩ := mem_named_iff.mp hnamed
    rw [rebuilt_of_named h hd]
    constructor
    · rintro howner
      obtain rfl : d = e := by simpa using howner
      exact hd
    · intro he
      rw [element_unique h hd he]
  · rw [rebuilt_of_not_named hnamed]
    refine iff_of_false (fun howner => ?_) fun he => hnamed (mem_named_iff.mpr ⟨e, he⟩)
    split at howner
    · cases howner
    · rename_i hother
      simp [howner] at hother

end

/-! ### Grants dropped under any outputs -/

section
variable (s : State) (c : Cavity) (i : Fin 12)

/-- Dropping a cavity's grants leaves an output, or switches it to follow what stays (R103, R111). -/
theorem dropCavityGrants_output_cases : (s.dropCavityGrants c).output i = s.output i ∨
    (s.dropCavityGrants c).output i = { s.output i with
      drive := driven s.enabled (s.alloc.grants.filter fun x => decide (x.1 ≠ c)) (s.output i) } := by
  unfold State.dropCavityGrants
  split
  · exact .inr (setGrants_output s _ i)
  · exact .inl rfl

theorem dropCavityGrants_output_parts : { (s.dropCavityGrants c).output i with drive := (s.output i).drive } =
    s.output i := by
  rcases dropCavityGrants_output_cases s c i with h | h <;> rw [h]

/-- An output that stands as the grants that stay would drive it is not switched. -/
theorem dropCavityGrants_output_of_driven
    (h : (s.output i).drive = driven s.enabled (s.alloc.grants.filter fun x => decide (x.1 ≠ c)) (s.output i)) :
    (s.dropCavityGrants c).output i = s.output i := by
  rcases dropCavityGrants_output_cases s c i with h' | h' <;> rw [h']
  rw [← h]

end

/-- No output of the cavity is driven by the grants of others. -/
theorem driven_filter_of_owner {enabled : Cavity → Bool} {grants : List CavityElement} {c : Cavity} {e : Element}
    {o : OutputRecord} (h : o.owner = some (c, e)) :
    driven enabled (grants.filter fun x => decide (x.1 ≠ c)) o = false := by
  simp [driven, h]

/-- An output of another cavity, or of none, is driven by the grants of others as by all. -/
theorem driven_filter_of_other {enabled : Cavity → Bool} {grants : List CavityElement} {c : Cavity}
    {o : OutputRecord} (h : o.owner.map Prod.fst ≠ some c) :
    driven enabled (grants.filter fun x => decide (x.1 ≠ c)) o = driven enabled grants o := by
  cases howner : o.owner with
  | none => simp [driven, howner]
  | some y =>
    have hy : y.1 ≠ c := by simpa [howner] using h
    simp [driven, howner, hy]

/-! ### The request records made anew -/

/-- An element that owns an output, and no other, gets a fresh record of it (R89). -/
theorem requestFor_of_owner {d : Drive} {y : CavityElement} {i : Fin 12} {w : Nat}
    (howner : ∀ j : Fin 12, (d.outputs[j]).owner = some y ↔ j = i) (hrating : (d.outputs[i]).rating = some w) :
    d.requestFor y = some (RequestRecord.fresh i w) := by
  have hfound : (d.outputs.toList.findIdx? fun o => decide (o.owner = some y)) = some i.val := by
    refine List.findIdx?_eq_some_iff_getElem.mpr ⟨by simp, ?_, fun j hj => ?_⟩
    · simpa using (howner i).mpr rfl
    · have hlast : j ≠ i.val := Nat.ne_of_lt hj
      simpa [Fin.ext_iff, hlast] using howner ⟨j, hj.trans i.isLt⟩
  have hwatts : (d.outputs[i.val]).rating = some w := hrating
  simp [Drive.requestFor, hfound, hwatts]

/-- An element that owns no output has no record (R89). -/
theorem requestFor_of_none {d : Drive} {y : CavityElement} (howner : ∀ j : Fin 12, (d.outputs[j]).owner ≠ some y) :
    d.requestFor y = none := by
  have hfound : (d.outputs.toList.findIdx? fun o => decide (o.owner = some y)) = none := by
    refine List.findIdx?_eq_none_iff.mpr fun o ho => ?_
    obtain ⟨j, hj, rfl⟩ := Vector.mem_iff_getElem.mp (Vector.mem_toList_iff.mp ho)
    simpa using howner ⟨j, hj⟩
  simp [Drive.requestFor, hfound]

/-! ### A profile taken -/

theorem output_le_of_badField {x : CavityProfile} (h : x.badField = none) {e : Element} {i : Nat}
    (he : x.outputs.get e = some i) : i ≤ 11 := by
  by_contra hlarge
  have hbad : (Element.all.any fun e => (x.outputs.get e).any fun o => decide (11 < o)) = true :=
    List.any_eq_true.mpr ⟨e, Element.mem_all e, by simp [he, Nat.lt_of_not_le hlarge]⟩
  rw [CavityProfile.badField, if_pos hbad] at h
  cases h

theorem heard_output (s : State) (i : Fin 12) :
    { s.heard.output i with drive := (s.output i).drive } = s.output i := by
  unfold State.output
  rcases heard_drive s with h | ⟨grants, h⟩ <;> rw [h]
  simp [Drive.follow]

theorem heard_handed (s : State) : s.heard.drive.handed = s.drive.handed := by
  rcases heard_drive s with h | ⟨grants, h⟩ <;> rw [h]
  rfl

theorem heard_owner (s : State) (i : Fin 12) : (s.heard.output i).owner = (s.output i).owner :=
  congrArg (·.owner) (heard_output s i)

theorem heard_ownedElsewhere (s : State) (c : Cavity) (i : Nat) :
    s.heard.ownedElsewhere c i = s.ownedElsewhere c i := by
  have howner :
      (s.heard.drive.outputs[i]?).bind OutputRecord.owner = (s.drive.outputs[i]?).bind OutputRecord.owner := by
    rcases heard_drive s with h | ⟨grants, h⟩ <;> rw [h]
    simp [Drive.follow, Option.bind_map]
  rw [State.ownedElsewhere, howner, State.ownedElsewhere]

/-- A profile with no bad field, its map without a conflict, is accepted by an IDLE cavity (R191). -/
theorem profileRefusal_none {s : State} {c : Cavity} {x : CavityProfile} (hidle : (s.seq.get c).state = .idle)
    (htripped : s.tripped c = false) (hfields : x.badField = none) (hnodup : x.named.Nodup)
    (hfree : ∀ i ∈ x.named, s.ownedElsewhere c i = false) : s.profileRefusal c x = none := by
  have hmap : s.mapConflict c x = false := by simpa [State.mapConflict, hnodup] using hfree
  simp [State.profileRefusal, hidle, htripped, hfields, hmap]

theorem cavityProfile_of_accepted {s : State} {c : Cavity} {p : List Byte} (hnamed : byteAt p 0 = c.num)
    (hidle : (s.seq.get c).state = .idle) (haccepted : s.profileRefusal c (cavityProfileOf p) = none) :
    cavityProfile p s = (s.acceptProfile c (cavityProfileOf p), Reply.done []) := by
  have hcavity : s.namedCavity (byteAt p 0) = .ok c := by simp [State.namedCavity, hnamed, cavityOf_num, hidle]
  simp only [cavityProfile, ownerOfCavity, hcavity, haccepted]

/-! ### What an accepted profile leaves -/

/-- The state with a profile bound and the outputs rebuilt, before the request records are (R192). -/
def State.profiled (s : State) (c : Cavity) (x : CavityProfile) : State :=
  ((s.setProfile c x).setSeq c { s.seq.get c with bound := true }).rebuildOutputs c x

section
variable (s : State) (c : Cavity) (x : CavityProfile)

theorem profiled_output (i : Fin 12) : (s.profiled c x).output i = (s.output i).rebuilt c x i :=
  rebuildOutputs_output _ c x i

theorem acceptProfile_output (i : Fin 12) :
    (s.acceptProfile c x).output i = ((s.profiled c x).dropCavityGrants c).output i := rfl

/-- The Allocator's part: the cavity's grants leave, and its records are made anew (R105). -/
theorem acceptProfile_alloc : (s.acceptProfile c x).alloc = { s.alloc with
    grants := s.alloc.grants.filter fun y => decide (y.1 ≠ c)
    requests := s.alloc.requests.set c
      (noRecords.map fun e _ => ((s.profiled c x).dropCavityGrants c).drive.requestFor (c, e)) } :=
  rebuildRequests_alloc (s.profiled c x) c

/-- The other blocks' parts (R121, R192). -/
theorem acceptProfile_parts : (s.acceptProfile c x).profiles = s.profiles.set c x ∧
    (s.acceptProfile c x).seq = s.seq.set c { s.seq.get c with bound := true } ∧
    (s.acceptProfile c x).reg = s.reg.set c Regulation.powerUp ∧
    (s.acceptProfile c x).drive.relays = s.drive.relays ∧ (s.acceptProfile c x).drive.handed = s.drive.handed := by
  refine ⟨by simp [State.acceptProfile], by simp [State.acceptProfile], by simp [State.acceptProfile], ?_, ?_⟩
  · exact dropCavityGrants_relays (s.profiled c x) c
  · exact dropCavityGrants_handed (s.profiled c x) c

theorem acceptProfile_record (e : Element) : (s.acceptProfile c x).alloc.record (c, e) =
    ((s.profiled c x).dropCavityGrants c).drive.requestFor (c, e) := by
  simp [acceptProfile_alloc, Allocator.record]

variable {s c x} {i : Fin 12} {e : Element}

/-- An output rebuilt to what the grants that stay would drive stands so. -/
theorem acceptProfile_output_of_driven
    (h : ((s.output i).rebuilt c x i).drive =
      driven s.enabled (s.alloc.grants.filter fun y => decide (y.1 ≠ c)) ((s.output i).rebuilt c x i)) :
    (s.acceptProfile c x).output i = (s.output i).rebuilt c x i := by
  rw [acceptProfile_output, ← profiled_output]
  refine dropCavityGrants_output_of_driven (s.profiled c x) c i ?_
  rw [profiled_output]
  exact h

theorem acceptProfile_named (hnodup : x.named.Nodup) (he : x.outputs.get e = some i.val) :
    (s.acceptProfile c x).output i =
      { OutputRecord.unmapped with owner := some (c, e), rating := some (x.ratings.get e) } := by
  have hrebuilt := rebuilt_of_named (o := s.output i) (c := c) hnodup he
  rw [acceptProfile_output_of_driven, hrebuilt]
  rw [hrebuilt, driven_filter_of_owner (e := e) rfl]
  rfl

theorem acceptProfile_freed (hi : i.val ∉ x.named) (howner : (s.output i).owner.map Prod.fst = some c) :
    (s.acceptProfile c x).output i = OutputRecord.unmapped := by
  have hrebuilt := (rebuilt_of_not_named (o := s.output i) (c := c) hi).trans (if_pos howner)
  rw [acceptProfile_output_of_driven, hrebuilt]
  rw [hrebuilt]
  rfl

/-- The outputs of other cavities stay as they stand, and where they follow the list go on doing so. -/
theorem acceptProfile_kept (hi : i.val ∉ x.named) (howner : (s.output i).owner.map Prod.fst ≠ some c) :
    { (s.acceptProfile c x).output i with drive := (s.output i).drive } = s.output i ∧
      (s.drivesFollow → ((s.acceptProfile c x).output i).drive = (s.output i).drive) := by
  have hrebuilt := (rebuilt_of_not_named (o := s.output i) (c := c) hi).trans (if_neg howner)
  constructor
  · have hparts := dropCavityGrants_output_parts (s.profiled c x) c i
    rw [profiled_output, hrebuilt] at hparts
    exact hparts
  · intro hdrives
    rw [acceptProfile_output_of_driven, hrebuilt]
    rw [hrebuilt, driven_filter_of_other howner]
    exact drive_of_drivesFollow hdrives i

theorem profiled_owner_iff (hnodup : x.named.Nodup) (j : Fin 12) :
    (((s.profiled c x).dropCavityGrants c).output j).owner = some (c, e) ↔ x.outputs.get e = some j.val := by
  have howner := congrArg (·.owner) (dropCavityGrants_output_parts (s.profiled c x) c j)
  rw [show (((s.profiled c x).dropCavityGrants c).output j).owner = ((s.profiled c x).output j).owner from howner,
    profiled_output]
  exact rebuilt_owner_iff hnodup

/-- Every element that the profile maps has a fresh record (R89, R105). -/
theorem acceptProfile_record_of_named (hnodup : x.named.Nodup) (he : x.outputs.get e = some i.val) :
    (s.acceptProfile c x).alloc.record (c, e) = some (RequestRecord.fresh i.val (x.ratings.get e)) := by
  rw [acceptProfile_record]
  refine requestFor_of_owner (fun j => (profiled_owner_iff hnodup j).trans ?_) ?_
  · rw [he, Option.some.injEq, Fin.ext_iff]
    exact eq_comm
  · exact congrArg (·.rating) (acceptProfile_named (s := s) (c := c) hnodup he)

theorem acceptProfile_record_of_none (hnodup : x.named.Nodup) (he : x.outputs.get e = none) :
    (s.acceptProfile c x).alloc.record (c, e) = none := by
  rw [acceptProfile_record]
  refine requestFor_of_none fun j => (profiled_owner_iff hnodup j).not.mpr ?_
  simp [he]

end

/-- Settles O31, on the state that the frame's end leaves: its outputs have the owners that they had, and its Allocator
has but fewer grants and another budget. -/
theorem cavityProfileBinds : Obligations.CavityProfileBinds := by
  intro s h c p howed hlength hnamed hidle htripped hfields hnodup hfree x
  have haccepted : s.heard.profileRefusal c x = none :=
    profileRefusal_none (by simpa using hidle) ((tripped_congr (by simp) c).trans htripped) hfields hnodup
      fun i hi => (heard_ownedElsewhere s c i).trans (hfree i hi)
  have howner := cavityProfile_of_accepted hnamed (by simpa using hidle) haccepted
  have hcavity : RequestKind.cavityIn .cavityProfile p = some c := by
    simp [RequestKind.cavityIn, RequestKind.namesCavity, RequestKind.length, hlength, hnamed, cavityOf_num]
  have hrequest := takeRequest_of_taken (k := .cavityProfile) howed hlength rfl h cavityProfile
  rw [howner, hcavity] at hrequest
  have hheard := heard_alloc s
  have halloc := acceptProfile_alloc s.heard c x
  have hframe : { (s.heard.acceptProfile c x).alloc with
      requests := s.heard.alloc.requests, grants := s.heard.alloc.grants } = s.heard.alloc := by rw [halloc]
  obtain ⟨hprofiles, hseq, hreg, hrelays, hhanded⟩ := acceptProfile_parts s.heard c x
  refine ⟨s.heard.acceptProfile c x, congrArg Host.Outcome.next hrequest, ?_, ?_, ?_,
    fun i e he => acceptProfile_named hnodup he, fun i hi ho => acceptProfile_freed hi (by rwa [heard_owner]),
    fun e i he => ?_, fun e he => acceptProfile_record_of_none hnodup he, fun d hd => ?_, fun i hi ho => ?_, ?_, hframe,
    hrelays.trans (heard_relays s), hhanded.trans (heard_handed s),
    (congrArg (·.demand) hframe).trans (congrArg (·.demand) hheard),
    (congrArg (·.tier1) hframe).trans (congrArg (·.tier1) hheard),
    (congrArg (·.tier2) hframe).trans (congrArg (·.tier2) hheard),
    (congrArg (·.powerLimited) hframe).trans (congrArg (·.powerLimited) hheard), ?_⟩
  · simpa using hprofiles
  · simpa using hseq
  · simpa using hreg
  · have hi : i < 12 := Nat.lt_succ_of_le (output_le_of_badField hfields he)
    exact acceptProfile_record_of_named (i := ⟨i, hi⟩) hnodup he
  · rw [halloc]
    simp [hd]
  · obtain ⟨hparts, hdrive⟩ := acceptProfile_kept (s := s.heard) (c := c) hi (by rwa [heard_owner])
    exact ⟨hparts, fun hdrives => hdrive (heard_drivesFollow hdrives)⟩
  · rw [halloc]
  · simp

end Sys2Proof.Machine
end

section
/-! PROOF. A first cause and a later one (R104, R157, R162, R163), part by part, and the NO_HEAT test of the sense check
(R119). -/

namespace Sys2Proof.Machine

/-! ### A cause raised -/

section
variable {s : State} {c : Cavity} {k : Cause}

theorem raise_of_not_applies (h : k.applies (s.seq.get c).state = false) : s.raise c k = s := by
  simp [State.raise, h]

theorem raise_of_first (h : k.applies (s.seq.get c).state = true) (hnone : (s.limit.cavity.get c).active = none) :
    s.raise c k = s.trip c k := by
  simp [State.raise, h, hnone]

theorem raise_of_later {r : TripRecord} (h : k.applies (s.seq.get c).state = true)
    (hactive : (s.limit.cavity.get c).active = some r) : s.raise c k = s.laterCause c r k := by
  simp [State.raise, h, hactive]

end

section
variable (s : State) (c : Cavity) (k : Cause)

/-- The record that a first cause creates, with its figures written out (R162). -/
theorem newTrip_eq : s.newTrip c k =
    { first := k
      uptime := s.clock.uptime
      tf := match (s.limit.cavity.get c).reading with
        | some x => if x.probe = .valid ∨ x.probe = .suspect then x.probeTf else none
        | none => none
      position := if (s.seq.get c).state = .running then (s.seq.get c).current.map Prod.fst else none
      later := [] } := by
  unfold State.newTrip LimitRecord.tfAtTrip Sequencer.tripPosition
  cases (s.limit.cavity.get c).reading <;> simp [usable_eq]

/-- The state that a first cause takes the cavity's grants from: the record is created and the relay open (R162). -/
def State.tripOpened (s : State) (c : Cavity) (k : Cause) : State :=
  (s.setLimit c { s.limit.cavity.get c with active := some (s.newTrip c k) }).openRelay c

/-- The rest of a first cause leaves the Drive as the grants dropped leave it. -/
theorem trip_drive : (s.trip c k).drive = ((s.tripOpened c k).dropCavityGrants c).drive := rfl

theorem tripOpened_outputs : (s.tripOpened c k).drive.outputs = s.drive.outputs ∧
    (s.tripOpened c k).drive.handed = s.drive.handed :=
  openRelay_outputs (s.setLimit c { s.limit.cavity.get c with active := some (s.newTrip c k) }) c

theorem trip_handed : (s.trip c k).drive.handed = s.drive.handed := by
  obtain ⟨_, hhanded⟩ := tripOpened_outputs s c k
  rw [trip_drive, dropCavityGrants_handed, hhanded]

theorem tripOpened_output (i : Fin 12) : (s.tripOpened c k).output i = s.output i := by
  obtain ⟨houtputs, _⟩ := tripOpened_outputs s c k
  rw [State.output, houtputs, State.output]

/-- The outputs of a cavity that a first cause trips are off, and every other goes on following the list (R104,
R111). -/
theorem trip_output {s : State} (h : s.drivesFollow) (c : Cavity) (k : Cause) (i : Fin 12) : (s.trip c k).output i =
    { s.output i with drive := driven s.enabled (s.trip c k).alloc.grants (s.output i) } := by
  obtain ⟨houtputs, _⟩ := tripOpened_outputs s c k
  obtain ⟨_, _, hgrants, _⟩ := trip_parts s c k
  have henabled : (s.tripOpened c k).enabled = s.enabled := funext (enabled_congr (by simp [State.tripOpened]))
  have halloc : (s.tripOpened c k).alloc = s.alloc := by simp [State.tripOpened]
  have hfollow : (s.tripOpened c k).drivesFollow := by
    rw [State.drivesFollow, houtputs, henabled, halloc]
    exact h
  have hdropped := dropCavityGrants_output hfollow c i
  rw [henabled, dropCavityGrants_alloc, halloc, tripOpened_output] at hdropped
  rw [hgrants]
  exact hdropped

theorem trip_requests : (s.trip c k).alloc.requests =
    s.alloc.requests.set c ((s.alloc.requests.get c).map fun _ r => r.map RequestRecord.withdrawn) := by
  simp [State.trip, State.tripWithdraw, State.sendTripNotice, State.withdrawRequests, dropCavityGrants_alloc]

theorem trip_limit : (s.trip c k).limit = { s.limit with
    cavity := s.limit.cavity.set c { s.limit.cavity.get c with active := some (s.newTrip c k) } } := by
  simp [State.trip, State.sendTripNotice, State.setLimit]

theorem trip_mail : (s.trip c k).mail = { s.mail with cavity := s.mail.cavity.set c { s.box c with
    tripNotices := (s.box c).tripNotices + 1 } } := by
  simp [State.trip, State.sendTripNotice, State.setMail, State.box]

theorem trip_outside : { s.trip c k with
    limit := s.limit, drive := s.drive, alloc := s.alloc, link := s.link, mail := s.mail } = s := by
  simp [State.trip, State.sendTripNotice]

end

/-! ### What raising a cause leaves -/

section
variable (s : State) (c : Cavity) (k : Cause)

theorem raise_demand : (s.raise c k).alloc.demand = s.alloc.demand := by
  rcases raise_cases s c k with h | ⟨_, _, h⟩ | ⟨_, r, _, h⟩ <;> rw [h]
  · obtain ⟨_, halloc, _⟩ := trip_parts s c k
    exact congrArg (·.demand) halloc
  · unfold State.laterCause
    split <;> rfl

theorem dropCavityGrants_dead (x : CavityElement) : (s.dropCavityGrants c).dead x = s.dead x := by
  unfold State.dropCavityGrants
  split
  · simp [State.dead, State.setGrants, Drive.follow]
  · rfl

theorem raise_dead (x : CavityElement) : (s.raise c k).dead x = s.dead x := by
  rcases raise_cases s c k with h | ⟨_, _, h⟩ | ⟨_, r, _, h⟩ <;> rw [h]
  · obtain ⟨houtputs, _⟩ := tripOpened_outputs s c k
    rw [State.dead, trip_drive, ← State.dead, dropCavityGrants_dead, State.dead, houtputs, State.dead]
  · unfold State.laterCause
    split <;> rfl

variable {s c k}

/-- Raising a cause adds it to its own cavity's record, and no other to any (R162, R163). -/
theorem holdsCause_of_raise {d : Cavity} {j : Cause} (h : (s.raise c k).holdsCause d j) :
    s.holdsCause d j ∨ (d = c ∧ j = k) := by
  by_cases hd : d = c
  · subst hd
    rcases raise_cases s d k with h' | ⟨_, hnone, h'⟩ | ⟨_, r, hactive, h'⟩ <;> rw [h'] at h
    · exact .inl h
    · obtain ⟨r, hr, hj⟩ := h
      obtain rfl : s.newTrip d k = r := by simpa [trip_limit] using hr
      exact .inr ⟨rfl, by simpa [State.newTrip, eq_comm] using hj⟩
    · unfold State.laterCause at h
      split at h
      · exact .inl h
      · obtain ⟨r', hr, hj⟩ := h
        obtain rfl : { r with later := r.later ++ [k] } = r' := by simpa using hr
        rcases hj with hfirst | hlater
        · exact .inl ⟨r, hactive, .inl hfirst⟩
        · rcases List.mem_append.mp hlater with hlater | hadded
          · exact .inl ⟨r, hactive, .inr hlater⟩
          · exact .inr ⟨rfl, List.mem_singleton.mp hadded⟩
  · obtain ⟨hcavity, _⟩ := raise_keepsOthers s c k
    obtain ⟨_, _, _, hlimit, _⟩ := hcavity d hd
    exact .inl (by rwa [State.holdsCause, hlimit] at h)

end

/-! ### The NO_HEAT test -/

/-- A step that writes no demand and raises no NO_HEAT. -/
def RaisesNoNoHeat (s t : State) : Prop :=
  t.alloc.demand = s.alloc.demand ∧ ∀ c, t.holdsCause c .noHeat → s.holdsCause c .noHeat

section
variable {s t u : State}

theorem RaisesNoNoHeat.of_eq (hdemand : t.alloc.demand = s.alloc.demand) (hlimit : t.limit = s.limit) :
    RaisesNoNoHeat s t :=
  ⟨hdemand, fun c h => by rwa [State.holdsCause, hlimit] at h⟩

theorem RaisesNoNoHeat.trans (hst : RaisesNoNoHeat s t) (htu : RaisesNoNoHeat t u) : RaisesNoNoHeat s u := by
  obtain ⟨hdemand, hholds⟩ := hst
  obtain ⟨hdemand', hholds'⟩ := htu
  exact ⟨hdemand'.trans hdemand, fun c h => hholds c (hholds' c h)⟩

theorem RaisesNoNoHeat.of_raise (s : State) (c : Cavity) {k : Cause} (hk : k ≠ .noHeat) :
    RaisesNoNoHeat s (s.raise c k) :=
  ⟨raise_demand s c k, fun _ h => (holdsCause_of_raise h).resolve_right fun ⟨_, hj⟩ => hk hj.symm⟩

/-- Judging an output raises no cause but RELAY_STUCK (R116 to R118). -/
theorem judge_raisesNoNoHeat (s : State) (j : Judgement) : RaisesNoNoHeat s (s.judge j) := by
  have hset (o : OutputRecord) : RaisesNoNoHeat s (s.setOutput j.output o) := .of_eq rfl rfl
  unfold State.judge
  dsimp only
  split
  · exact .of_eq rfl rfl
  · split
    · exact hset _
    · unfold State.countMiss
      dsimp only
      split_ifs
      · exact hset _
      · exact hset _
      · exact .of_eq (by simp [dropGrant_alloc]) (by simp)
    · unfold State.countStuck
      dsimp only
      split
      · exact hset _
      · exact (hset _).trans (.of_raise _ _ (by simp))
    · exact hset _

/-- The state of a sense check whose outputs are judged, before the NO_HEAT test (R120). -/
def State.senseJudged (s : State) (loads : BitVec 12) : State :=
  (s.judgements loads).foldl State.judge ((s.judgements loads).foldl State.sampleLoad s)

theorem senseJudged_raisesNoNoHeat (s : State) (loads : BitVec 12) : RaisesNoNoHeat s (s.senseJudged loads) :=
  List.foldlRecOn (motive := RaisesNoNoHeat s) _ _
    (List.foldlRecOn (motive := RaisesNoNoHeat s) _ _ (.of_eq rfl rfl) fun _ ht _ _ => ht.trans (.of_eq rfl rfl))
    fun _ ht j _ => ht.trans (judge_raisesNoNoHeat _ j)

theorem senseJudged_seq (s : State) (loads : BitVec 12) : (s.senseJudged loads).seq = s.seq :=
  List.foldlRecOn (motive := fun t : State => t.seq = s.seq) _ _
    (List.foldlRecOn (motive := fun t : State => t.seq = s.seq) _ _ rfl fun _ ht _ _ => ht)
    fun t ht j _ => by simpa using ht

/-- One cavity's NO_HEAT test (R119). -/
def noHeatTest (s : State) (c : Cavity) : State := s.raiseIf (s.noHeat c) c .noHeat

theorem checkSense_eq (s : State) (loads : BitVec 12) :
    checkSense loads s = Cavity.all.foldl noHeatTest (s.senseJudged loads) := rfl

/-- A cavity is heating with every element of its set DEAD (R119). -/
theorem noHeat_iff (s : State) (c : Cavity) : s.noHeat c = true ↔
    s.heating c = true ∧ ∀ e, (s.alloc.demand.get c).elements.has e = true → s.dead (c, e) = true := by
  have helement (e : Element) : (!(s.alloc.demand.get c).elements.has e || s.dead (c, e)) = true ↔
      ((s.alloc.demand.get c).elements.has e = true → s.dead (c, e) = true) := by
    cases (s.alloc.demand.get c).elements.has e <;> simp
  simp only [State.noHeat, Bool.and_eq_true, List.all_eq_true, helement, Element.mem_all, true_implies]

theorem noHeat_congr (hseq : t.seq = s.seq) (hdemand : t.alloc.demand = s.alloc.demand)
    (hdead : ∀ x, t.dead x = s.dead x) (c : Cavity) : t.noHeat c = s.noHeat c := by
  rw [Bool.eq_iff_iff, noHeat_iff, noHeat_iff, heating_congr hseq, hdemand]
  simp only [hdead]

theorem noHeatTest_keeps (s : State) (c : Cavity) : (noHeatTest s c).seq = s.seq ∧
    (noHeatTest s c).alloc.demand = s.alloc.demand ∧ ∀ x, (noHeatTest s c).dead x = s.dead x := by
  unfold noHeatTest State.raiseIf
  split
  · exact ⟨by simp, raise_demand s c _, raise_dead s c _⟩
  · exact ⟨rfl, rfl, fun _ => rfl⟩

/-- A heating cavity is RUNNING, so that NO_HEAT applies to it (R157). -/
theorem noHeatTest_holds (s : State) (c d : Cavity) : (noHeatTest s c).holdsCause d .noHeat ↔
    (d = c ∧ s.noHeat c = true) ∨ s.holdsCause d .noHeat := by
  unfold noHeatTest State.raiseIf
  split
  · rename_i hdark
    obtain ⟨hheating, _⟩ := (noHeat_iff s c).mp hdark
    have happlies : Cause.applies .noHeat (s.seq.get c).state = true := by
      simp [Cause.applies, running_of_heating hheating]
    obtain ⟨hraised, _⟩ := raise_raises s c .noHeat happlies
    constructor
    · exact fun h => (holdsCause_of_raise h).symm.imp_left fun ⟨hd, _⟩ => ⟨hd, hdark⟩
    · rintro (⟨rfl, _⟩ | h)
      · exact hraised
      · exact raise_holdsCause s c d _ _ h
  · rename_i hlit
    simp [hlit]

/-- The NO_HEAT tests raise it where a cavity of them is dark, and nowhere else (R119). -/
theorem noHeatTests_holds (l : List Cavity) (s : State) (d : Cavity) :
    ((l.foldl noHeatTest s).holdsCause d .noHeat ↔ (d ∈ l ∧ s.noHeat d = true) ∨ s.holdsCause d .noHeat) ∧
      ∀ x, (l.foldl noHeatTest s).dead x = s.dead x := by
  induction l generalizing s with
  | nil => simp
  | cons c l ih =>
    obtain ⟨hseq, hdemand, hdead⟩ := noHeatTest_keeps s c
    obtain ⟨hholds, hdead'⟩ := ih (noHeatTest s c)
    refine ⟨?_, fun x => (hdead' x).trans (hdead x)⟩
    rw [List.foldl_cons, hholds, noHeat_congr hseq hdemand hdead, noHeatTest_holds, List.mem_cons]
    by_cases hd : d = c
    · subst hd
      simp only [true_or, true_and]
      tauto
    · simp [hd]

end

/-- Settles O56: the cases of raising a cause, and the NO_HEAT test on the state that judging the outputs leaves. -/
theorem firstCauseTrips : Obligations.FirstCauseTrips := by
  refine ⟨fun s c k => ⟨raise_of_not_applies, fun happlies hnone => ?_, fun r happlies hactive hheld => ?_,
    fun r happlies hactive hfirst hlater => ?_⟩, fun s loads => ⟨_, rfl, fun c => ?_⟩⟩
  · obtain ⟨_, hopened, _⟩ := raise_raises s c k happlies
    obtain ⟨hopen, _⟩ := hopened (by simp [State.tripped, hnone])
    rw [raise_of_first happlies hnone] at hopen
    obtain ⟨hlink, halloc, hgrants, _⟩ := trip_parts s c k
    obtain ⟨hcavity, _⟩ := trip_keepsOthers s c k
    dsimp only
    rw [raise_of_first happlies hnone]
    refine ⟨?_, hopen, fun d hd => ?_, trip_handed s c k, hgrants, fun hdrives i => ⟨trip_output hdrives c k i, ?_⟩,
      fun e => ?_, fun d hd => ?_, halloc, hlink, trip_mail s c k, trip_outside s c k⟩
    · exact (trip_limit s c k).trans (congrArg (fun r => { s.limit with
        cavity := s.limit.cavity.set c { s.limit.cavity.get c with active := some r } }) (newTrip_eq s c k))
    · obtain ⟨_, _, _, _, _, hrelay, _⟩ := hcavity d hd
      exact hrelay
    · intro howner
      obtain ⟨⟨d, e⟩, hy, rfl⟩ := Option.map_eq_some_iff.mp howner
      rw [trip_output hdrives d k i, hgrants]
      exact driven_filter_of_owner hy
    · simp only [Allocator.record, trip_requests, PerCavity.get_set, if_true, PerElement.get_map]
      rfl
    · rw [trip_requests]
      simp [hd]
  · rw [raise_of_later happlies hactive, State.laterCause, if_pos (hheld.imp_left Eq.symm)]
  · have hnew : ¬ (r.first = k ∨ k ∈ r.later) := fun h => h.elim (fun h => hfirst h.symm) hlater
    rw [raise_of_later happlies hactive, State.laterCause, if_neg hnew]
    rfl
  · obtain ⟨hdemand, hnew⟩ := senseJudged_raisesNoNoHeat s loads
    obtain ⟨hholds, hdead⟩ := noHeatTests_holds Cavity.all (s.senseJudged loads) c
    have hall : c ∈ Cavity.all := by cases c <;> decide
    have hdark : (s.senseJudged loads).noHeat c = true ↔ s.heating c = true ∧ ∀ e,
        (s.alloc.demand.get c).elements.has e = true → (checkSense loads s).dead (c, e) = true := by
      rw [noHeat_iff, heating_congr (senseJudged_seq s loads), hdemand, checkSense_eq]
      simp only [hdead]
    rw [← checkSense_eq] at hholds
    refine ⟨fun h => hholds.mpr (.inl ⟨hall, hdark.mpr h⟩), fun h => ?_⟩
    rcases hholds.mp h with ⟨_, h⟩ | h
    · exact .inl (hdark.mp h)
    · exact .inr (hnew c h)

end Sys2Proof.Machine
end

section
/-! PROOF. What the outputs and the supply relays rest on (R111, R112): steps that keep both invariants, what those read of
the state, and the shared operations that keep them. -/

namespace Sys2Proof.Machine

/-! ### Steps that keep the invariants -/

/-- A step keeps the outputs on the slot grant list and the supply relays guarded (R111, R112). -/
structure KeepsDrive (s t : State) : Prop where
  drives : s.drivesFollow → t.drivesFollow
  relays : s.relaysGuarded → t.relaysGuarded

/-- A step switches every output to follow its list, or leaves alone all that the outputs follow (R99, R103, R111). -/
def Refollows (s t : State) : Prop :=
  t.drivesFollow ∨
    (t.drive.outputs = s.drive.outputs ∧ t.alloc.grants = s.alloc.grants ∧ t.appliance = s.appliance)

/-- A supply relay is closed only for a RUNNING cavity without an active trip (R112). -/
def State.relayGuarded (s : State) (c : Cavity) : Prop :=
  s.relayClosed c = true → (s.seq.get c).state = .running ∧ s.tripped c = false

/-- The states agree on a cavity's relay and on what guards it. -/
def SameFeed (s t : State) (c : Cavity) : Prop :=
  t.relayClosed c = s.relayClosed c ∧ (t.seq.get c).state = (s.seq.get c).state ∧ t.tripped c = s.tripped c

/-- The states agree in all that both invariants read. -/
def SameGuards (s t : State) : Prop :=
  t.drive = s.drive ∧ t.alloc.grants = s.alloc.grants ∧ t.appliance = s.appliance ∧ t.seq = s.seq ∧ t.limit = s.limit

section
variable {s t u : State}

theorem KeepsDrive.refl (s : State) : KeepsDrive s s := ⟨id, id⟩

theorem KeepsDrive.trans (hst : KeepsDrive s t) (htu : KeepsDrive t u) : KeepsDrive s u :=
  ⟨htu.drives ∘ hst.drives, htu.relays ∘ hst.relays⟩

/-- A fold of steps that keep the invariants keeps them. -/
theorem foldl_keepsDrive {α : Type} {f : State → α → State} (hf : ∀ t x, KeepsDrive t (f t x)) (l : List α)
    (s : State) : KeepsDrive s (l.foldl f s) :=
  List.foldlRecOn (motive := KeepsDrive s) l f (KeepsDrive.refl s) fun t ht x _ => ht.trans (hf t x)

/-! ### The outputs -/

theorem drivesFollow_congr (houtputs : t.drive.outputs = s.drive.outputs) (hgrants : t.alloc.grants = s.alloc.grants)
    (happliance : t.appliance = s.appliance) : t.drivesFollow ↔ s.drivesFollow := by
  have henabled : t.enabled = s.enabled := funext (enabled_congr happliance)
  rw [State.drivesFollow, State.drivesFollow, houtputs, hgrants, henabled]

theorem drivesFollow_iff (s : State) :
    s.drivesFollow ↔ ∀ i, (s.output i).drive = driven s.enabled s.alloc.grants (s.output i) := by
  refine ⟨drive_of_drivesFollow, fun h o ho => ?_⟩
  obtain ⟨i, hi, rfl⟩ := Vector.mem_iff_getElem.mp (Vector.mem_toList_iff.mp ho)
  exact h ⟨i, hi⟩

theorem Refollows.refl (s : State) : Refollows s s := .inr ⟨rfl, rfl, rfl⟩

theorem Refollows.of_same (h : SameGuards s t) : Refollows s t := by
  obtain ⟨hdrive, hgrants, happliance, _⟩ := h
  exact .inr ⟨congrArg (·.outputs) hdrive, hgrants, happliance⟩

theorem Refollows.drives (h : Refollows s t) (hs : s.drivesFollow) : t.drivesFollow := by
  rcases h with h | ⟨houtputs, hgrants, happliance⟩
  · exact h
  · exact (drivesFollow_congr houtputs hgrants happliance).mpr hs

theorem Refollows.trans (hst : Refollows s t) (htu : Refollows t u) : Refollows s u := by
  rcases htu with h | ⟨houtputs, hgrants, happliance⟩
  · exact .inl h
  · rcases hst with h | ⟨houtputs', hgrants', happliance'⟩
    · exact .inl ((drivesFollow_congr houtputs hgrants happliance).mpr h)
    · exact .inr ⟨houtputs.trans houtputs', hgrants.trans hgrants', happliance.trans happliance'⟩

theorem foldl_refollows {α : Type} {f : State → α → State} (hf : ∀ t x, Refollows t (f t x)) (l : List α)
    (s : State) : Refollows s (l.foldl f s) :=
  List.foldlRecOn (motive := Refollows s) l f (.refl s) fun t ht x _ => ht.trans (hf t x)

theorem setGrants_refollows (s : State) (grants : List CavityElement) : Refollows s (s.setGrants grants) :=
  .inl (setGrants_drivesFollow s grants)

theorem dropCavityGrants_refollows (s : State) (c : Cavity) : Refollows s (s.dropCavityGrants c) := by
  unfold State.dropCavityGrants
  split
  · exact setGrants_refollows s _
  · exact .refl s

theorem dropGrant_refollows (s : State) (x : CavityElement) : Refollows s (s.dropGrant x) := by
  unfold State.dropGrant
  split
  · exact setGrants_refollows s _
  · exact .refl s

/-- Opening a relay switches no output (R113). -/
theorem openRelay_refollows (s : State) (c : Cavity) : Refollows s (s.openRelay c) := by
  obtain ⟨houtputs, _⟩ := openRelay_outputs s c
  exact .inr ⟨houtputs, by simp, by simp⟩

/-- A first cause switches the outputs that the cavity's grants leave (R104, R111). -/
theorem trip_refollows (s : State) (c : Cavity) (k : Cause) : Refollows s (s.trip c k) := by
  have hrecord : Refollows s (s.setLimit c { s.limit.cavity.get c with active := some (s.newTrip c k) }) :=
    .inr ⟨rfl, rfl, rfl⟩
  exact ((hrecord.trans (openRelay_refollows _ c)).trans (dropCavityGrants_refollows _ c)).trans (.inr ⟨rfl, rfl, rfl⟩)

theorem raise_refollows (s : State) (c : Cavity) (k : Cause) : Refollows s (s.raise c k) := by
  rcases raise_cases s c k with h | ⟨_, _, h⟩ | ⟨_, r, _, h⟩ <;> rw [h]
  · exact .refl s
  · exact trip_refollows s c k
  · exact .inr ⟨by simp, by simp, by simp⟩

/-! ### The supply relays -/

theorem relayGuarded_of_open {c : Cavity} (h : s.relayClosed c = false) : s.relayGuarded c :=
  fun hclosed => absurd hclosed (by simp [h])

theorem relayGuarded_of_same {c : Cavity} (h : SameFeed s t c) (hs : s.relayGuarded c) : t.relayGuarded c := by
  obtain ⟨hrelay, hstate, htripped⟩ := h
  simpa only [State.relayGuarded, hrelay, hstate, htripped] using hs

/-- A guarded relay is open unless its cavity is in RUNNING. -/
theorem relayOpen_of_not_running {c : Cavity} (hs : s.relayGuarded c) (h : (s.seq.get c).state ≠ .running) :
    s.relayClosed c = false := by
  refine Bool.eq_false_of_not_eq_true fun hclosed => ?_
  obtain ⟨hrunning, _⟩ := hs hclosed
  exact h hrunning

/-- A guarded relay of a tripped cavity is open. -/
theorem relayOpen_of_tripped {c : Cavity} (hs : s.relayGuarded c) (h : s.tripped c = true) :
    s.relayClosed c = false := by
  refine Bool.eq_false_of_not_eq_true fun hclosed => ?_
  obtain ⟨_, hclear⟩ := hs hclosed
  simp [h] at hclear

theorem sameFeed_of_keepsOthers {c d : Cavity} (h : KeepsOthers s t c) (hd : d ≠ c) : SameFeed s t d := by
  obtain ⟨hcavity, _⟩ := h
  obtain ⟨hseq, _, _, hlimit, _, hrelay, _⟩ := hcavity d hd
  simp only [SameFeed, State.relayClosed, State.tripped, hseq, hlimit, hrelay, and_self]

/-- A step about one cavity keeps every relay guarded where it keeps that cavity's. -/
theorem relaysGuarded_of_keepsOthers {c : Cavity} (h : KeepsOthers s t c)
    (hc : s.relayGuarded c → t.relayGuarded c) (hs : s.relaysGuarded) : t.relaysGuarded := by
  intro d
  by_cases hd : d = c
  · subst hd
    exact hc (hs d)
  · exact relayGuarded_of_same (sameFeed_of_keepsOthers h hd) (hs d)

theorem KeepsDrive.of_same (h : SameGuards s t) : KeepsDrive s t := by
  refine ⟨(Refollows.of_same h).drives, fun hs c => relayGuarded_of_same ?_ (hs c)⟩
  obtain ⟨hdrive, _, _, hseq, hlimit⟩ := h
  exact ⟨relayClosed_congr (congrArg (·.relays) hdrive) c, by rw [hseq], tripped_congr hlimit c⟩

end

/-! ### One part replaced -/

section
variable (s : State) (c : Cavity)

theorem setMail_keepsDrive (x : Mailbox) : KeepsDrive s (s.setMail c x) := .of_same ⟨rfl, rfl, rfl, rfl, rfl⟩

theorem setLock_keepsDrive (l : DoorLock) : KeepsDrive s (s.setLock c l) := .of_same ⟨rfl, rfl, rfl, rfl, rfl⟩

theorem setPins_keepsDrive (p : SwitchPins) : KeepsDrive s (s.setPins c p) := .of_same ⟨rfl, rfl, rfl, rfl, rfl⟩

theorem setFan_keepsDrive (f : Fan) : KeepsDrive s (s.setFan f) := .of_same ⟨rfl, rfl, rfl, rfl, rfl⟩

theorem setLink_keepsDrive (l : Link) : KeepsDrive s (s.setLink l) := .of_same ⟨rfl, rfl, rfl, rfl, rfl⟩

theorem setRecord_keepsDrive (n : Nat) (r : Option PhaseRecord) : KeepsDrive s (s.setRecord n r) :=
  .of_same ⟨rfl, rfl, rfl, rfl, rfl⟩

theorem queueEvent_keepsDrive (kind : EventKind) (cavity : Option Cavity) (severity : Nat) (detail : Option Nat)
    (additional : Bool) : KeepsDrive s (s.queueEvent kind cavity severity detail additional) :=
  setLink_keepsDrive s _

/-- An output may be replaced by one of the same owner and drive. -/
theorem setOutput_keepsDrive {i : Fin 12} {o : OutputRecord} (howner : o.owner = (s.output i).owner)
    (hdrive : o.drive = (s.output i).drive) : KeepsDrive s (s.setOutput i o) := by
  refine ⟨fun hs => (drivesFollow_iff _).mpr fun j => ?_, fun hs c => hs c⟩
  have hj := drive_of_drivesFollow hs j
  by_cases hij : i = j
  · subst hij
    have hset : (s.setOutput i o).output i = o := by simp [State.output, State.setOutput]
    rw [hset, hdrive, hj]
    simp only [driven, howner]
    rfl
  · have hset : (s.setOutput i o).output j = s.output j := by
      simp [State.output, State.setOutput, Vector.getElem_set_ne, Fin.val_ne_of_ne hij]
    rw [hset]
    exact hj

/-- A limit record may be replaced where that trips no cavity. -/
theorem setLimit_keepsDrive {l : LimitRecord} (h : l.active.isSome = true → s.tripped c = true) :
    KeepsDrive s (s.setLimit c l) := by
  refine ⟨fun hs => hs, relaysGuarded_of_keepsOthers (setLimit_keepsOthers s c l) fun hs hclosed => ?_⟩
  obtain ⟨hrunning, hclear⟩ := hs hclosed
  refine ⟨hrunning, Bool.eq_false_of_not_eq_true fun htripped => ?_⟩
  simp [h (by simpa [State.tripped] using htripped)] at hclear

/-- A Sequencer may be replaced by any that is RUNNING where it was. -/
theorem setSeq_keepsDrive {q : Sequencer} (h : (s.seq.get c).state = .running → q.state = .running) :
    KeepsDrive s (s.setSeq c q) := by
  refine ⟨fun hs => hs, relaysGuarded_of_keepsOthers (setSeq_keepsOthers s c q) fun hs hclosed => ?_⟩
  obtain ⟨hrunning, hclear⟩ := hs hclosed
  exact ⟨by simpa using h hrunning, hclear⟩

theorem setSeq_keepsDrive_of_same {q : Sequencer} (h : q.state = (s.seq.get c).state) : KeepsDrive s (s.setSeq c q) :=
  setSeq_keepsDrive s c fun hrunning => h.trans hrunning

theorem setSeq_keepsDrive_of_resting {q : Sequencer} (h : (s.seq.get c).state ≠ .running) :
    KeepsDrive s (s.setSeq c q) :=
  setSeq_keepsDrive s c fun hrunning => absurd hrunning h

/-- A step that switches outputs with the grants alone keeps the relays as it keeps their standing. -/
theorem KeepsDrive.of_refollows {s t : State} (h : Refollows s t) (hfeed : ∀ d, SameFeed s t d) : KeepsDrive s t :=
  ⟨h.drives, fun hs d => relayGuarded_of_same (hfeed d) (hs d)⟩

theorem dropCavityGrants_keepsDrive : KeepsDrive s (s.dropCavityGrants c) :=
  .of_refollows (dropCavityGrants_refollows s c) fun d =>
    ⟨relayClosed_congr (dropCavityGrants_relays s c) d, by simp, tripped_congr (by simp) d⟩

theorem dropGrant_keepsDrive (x : CavityElement) : KeepsDrive s (s.dropGrant x) :=
  .of_refollows (dropGrant_refollows s x) fun d =>
    ⟨relayClosed_congr (dropGrant_relays s x) d, by simp, tripped_congr (by simp) d⟩

/-! ### Raised causes -/

/-- A first cause opens the cavity's relay (R162). -/
theorem trip_relayOpen (k : Cause) : (s.trip c k).relayClosed c = false := by
  have hopen : (s.tripOpened c k).relayClosed c = false := openRelay_open _ c
  rw [← hopen]
  exact relayClosed_congr (by rw [trip_drive, dropCavityGrants_relays]) c

/-- A first cause opens the relay before it stands, and a later one finds it open (R112, R162). -/
theorem raise_keepsDrive (k : Cause) : KeepsDrive s (s.raise c k) := by
  refine ⟨(raise_refollows s c k).drives, relaysGuarded_of_keepsOthers (raise_keepsOthers s c k) fun hs => ?_⟩
  rcases raise_cases s c k with h | ⟨_, _, h⟩ | ⟨_, r, hactive, h⟩ <;> rw [h]
  · exact hs
  · exact relayGuarded_of_open (trip_relayOpen s c k)
  · have hopen := relayOpen_of_tripped hs (by simp [State.tripped, hactive])
    exact relayGuarded_of_open ((relayClosed_congr (by simp) c).trans hopen)

theorem raiseIf_keepsDrive (b : Bool) (k : Cause) : KeepsDrive s (s.raiseIf b c k) := by
  unfold State.raiseIf
  split
  · exact raise_keepsDrive s c k
  · exact .refl s

theorem raiseForEnabled_keepsDrive (k : Cause) : KeepsDrive s (s.raiseForEnabled k) := by
  refine foldl_keepsDrive (fun t d => ?_) Cavity.all s
  split
  · exact raise_keepsDrive t d k
  · exact .refl t

variable {s c}

/-- The order to close a relay is given in RUNNING, and refused on an active trip (R112). -/
theorem closeRelay_keepsDrive (hrunning : (s.seq.get c).state = .running) : KeepsDrive s (s.closeRelay c) := by
  have hothers := closeRelay_keepsOthers s c
  rcases closeRelay_cases s c with h | h | ⟨hclear, _, _, h⟩ <;> rw [h] at hothers ⊢
  · exact .refl s
  · exact raise_keepsDrive s c _
  · exact ⟨fun hs => hs, relaysGuarded_of_keepsOthers hothers fun _ _ => ⟨hrunning, hclear⟩⟩

end

end Sys2Proof.Machine
end

section
/-! PROOF. The blocks keep the outputs on the slot grant list and the supply relays guarded (R111, R112): the Sequencer, the
causes that the blocks raise, the sense check and the Power Allocator. -/

namespace Sys2Proof.Machine

section
variable {s : State} {c : Cavity}

/-! ### The Sequencer -/

/-- A cavity out of RUNNING may take any state, its relay being open. -/
theorem settlingTest_keepsDrive (hrest : (s.seq.get c).state ≠ .running) : KeepsDrive s (s.settlingTest c) := by
  rcases settlingTest_cases s c with h | h | ⟨_, _, h⟩ | ⟨_, h⟩ <;> rw [h]
  · exact .refl s
  · exact setSeq_keepsDrive_of_resting s c hrest
  · exact (setSeq_keepsDrive_of_resting s c hrest).trans (setLock_keepsDrive _ c _)
  · exact setSeq_keepsDrive_of_resting s c hrest

/-- A cycle that ends opens the relay, whatever state it ends in, and switches no output (R52). -/
theorem endCycle_keepsDrive (s : State) (c : Cavity) (outcome : CycleOutcome) (reason : Option AbortReason)
    (reading : Option CavityReading) : KeepsDrive s (s.endCycle c outcome reason reading) := by
  obtain ⟨hopen, _⟩ := endCycle_ends s c outcome reason reading
  have houtputs : (s.endCycle c outcome reason reading).drive.outputs = s.drive.outputs := by
    obtain ⟨h, _⟩ := openRelay_outputs (s.postRequest c .off reading) c
    have hpost : (s.postRequest c .off reading).drive = s.drive := by simp
    rw [endCycle_eq, State.cycleClosed]
    rw [hpost] at h
    dsimp only
    split <;> simpa using h
  exact ⟨(drivesFollow_congr houtputs (by simp) (by simp)).mpr,
    relaysGuarded_of_keepsOthers (endCycle_keepsOthers s c outcome reason reading) fun _ => relayGuarded_of_open hopen⟩

theorem phaseWritten_keepsDrive (n : Nat) (r : PhaseRecord) : KeepsDrive s (s.phaseWritten c n r) := by
  obtain ⟨_, hdrive, hlimit, _⟩ := phaseWritten_frame s c n r
  have hothers := phaseWritten_keepsOthers s c n r
  have hgrants : (s.phaseWritten c n r).alloc.grants = s.alloc.grants := congrArg (·.grants) (phaseWritten_alloc s c n r)
  obtain ⟨_, _, _, _, happliance, _⟩ := id hothers
  refine ⟨(drivesFollow_congr (congrArg (·.outputs) hdrive) hgrants happliance).mpr,
    relaysGuarded_of_keepsOthers hothers (relayGuarded_of_same ?_)⟩
  exact ⟨relayClosed_congr (congrArg (·.relays) hdrive) c, phaseWritten_state s c n r, tripped_congr hlimit c⟩

/-- A phase that begins in RUNNING, with the order to close the relay or without (R43, R112). -/
theorem beginPhase_keepsDrive (hrunning : (s.seq.get c).state = .running) (entering : Bool) :
    KeepsDrive s (s.beginPhase c entering) := by
  unfold State.beginPhase
  split
  · rename_i n r _ _
    have hwritten : KeepsDrive s (s.phaseWritten c n r) := phaseWritten_keepsDrive n r
    cases entering
    · exact (hwritten.trans (setFan_keepsDrive _ _)).trans (setSeq_keepsDrive_of_same _ c (by rfl))
    · have hclosed := closeRelay_keepsDrive ((phaseWritten_state s c n r).trans hrunning)
      exact ((hwritten.trans hclosed).trans (setFan_keepsDrive _ _)).trans (setSeq_keepsDrive_of_same _ c (by rfl))
  · exact .refl s

theorem enterRunning_keepsDrive (s : State) (c : Cavity) : KeepsDrive s (s.enterRunning c) :=
  (setSeq_keepsDrive s c fun _ => rfl).trans (beginPhase_keepsDrive (by simp) true)

theorem endPhase_keepsDrive (hrunning : (s.seq.get c).state = .running) (reading : Option CavityReading) :
    KeepsDrive s (s.endPhase c reading) := by
  unfold State.endPhase
  dsimp only
  split
  · split
    · exact (setSeq_keepsDrive_of_same s c (by rfl)).trans (endCycle_keepsDrive _ c _ _ _)
    · exact (setSeq_keepsDrive_of_same s c (by rfl)).trans (beginPhase_keepsDrive (by simpa using hrunning) false)
  · exact .refl s

theorem limitReached_keepsDrive (hrunning : (s.seq.get c).state = .running) (r : PhaseRecord)
    (reading : CavityReading) : KeepsDrive s (s.limitReached c r reading) := by
  unfold State.limitReached
  dsimp only
  split
  · exact (queueEvent_keepsDrive s _ _ _ _ _).trans (endPhase_keepsDrive (by simpa using hrunning) _)
  · exact (queueEvent_keepsDrive s _ _ _ _ _).trans (endCycle_keepsDrive _ c _ _ _)

theorem phaseTests_keepsDrive (hrunning : (s.seq.get c).state = .running) (reading : CavityReading) :
    KeepsDrive s (s.phaseTests c reading) := by
  unfold State.phaseTests
  split
  · exact .refl s
  · rename_i r _
    obtain ⟨hstate, _⟩ := progress_standing (s.seq.get c) r (s.profiles.get c).soakBand reading
    have hset := setSeq_keepsDrive_of_same s c hstate
    have hrunning' := hstate.trans hrunning
    dsimp only
    split_ifs
    · exact hset.trans (endPhase_keepsDrive (by simpa using hrunning') _)
    · exact hset.trans (limitReached_keepsDrive (by simpa using hrunning') r _)
    · exact hset

theorem postRequest_keepsDrive (s : State) (c : Cavity) (mode : RegMode) (reading : Option CavityReading) :
    KeepsDrive s (s.postRequest c mode reading) :=
  (setMail_keepsDrive s c _).trans (setSeq_keepsDrive_of_same _ c (by rfl))

theorem runningReading_keepsDrive (hrunning : (s.seq.get c).state = .running) (reading : CavityReading) :
    KeepsDrive s (s.runningReading c reading) := by
  have hspent : KeepsDrive s (s.spendCount (s.seq.get c).cycleElapsed) := .of_same (by simp [SameGuards])
  have hcounted : KeepsDrive s (s.countTime c) := hspent.trans (setSeq_keepsDrive_of_same _ c (by simp))
  have htested := hcounted.trans
    (phaseTests_keepsDrive (c := c) (by simpa [State.countTime] using hrunning) reading)
  unfold State.runningReading
  dsimp only
  split
  · exact htested.trans (postRequest_keepsDrive _ c _ _)
  · exact htested

theorem countBlind_keepsDrive (s : State) (c : Cavity) (reading : CavityReading) :
    KeepsDrive s (s.countBlind c reading) := by
  unfold State.countBlind
  dsimp only
  split
  · exact .refl s
  · exact setSeq_keepsDrive_of_same s c (by rfl)

theorem releaseTest_keepsDrive (s : State) (c : Cavity) (reading : CavityReading) :
    KeepsDrive s (s.releaseTest c reading) := by
  unfold State.releaseTest
  split
  · exact setLock_keepsDrive s c _
  · exact .refl s

theorem settlingReading_keepsDrive (hrest : (s.seq.get c).state ≠ .running) (reading : CavityReading) :
    KeepsDrive s (s.settlingReading c reading) := by
  have hstate : (((s.countBlind c reading).releaseTest c reading).seq.get c).state = (s.seq.get c).state := by
    unfold State.releaseTest State.countBlind
    split_ifs <;> simp
  exact ((countBlind_keepsDrive s c reading).trans (releaseTest_keepsDrive _ c reading)).trans
    (settlingTest_keepsDrive (hstate ▸ hrest))

theorem sequenceReading_keepsDrive (s : State) (c : Cavity) (reading : CavityReading) :
    KeepsDrive s (s.sequenceReading c reading) := by
  unfold State.sequenceReading
  split <;> rename_i hstate
  case h_1 => exact runningReading_keepsDrive hstate reading
  case h_2 | h_3 => exact settlingReading_keepsDrive (by simp [hstate]) reading
  case h_4 => exact countBlind_keepsDrive s c reading
  all_goals exact .refl s

theorem takeSequencerReading_keepsDrive (s : State) (c : Cavity) : KeepsDrive s (takeSequencerReading c s) := by
  unfold takeSequencerReading
  split
  · exact .refl s
  · exact (setMail_keepsDrive s c _).trans (sequenceReading_keepsDrive _ c _)

theorem heatCompleted_keepsDrive (s : State) (c : Cavity) (position : Nat) :
    KeepsDrive s (s.heatCompleted c position) := by
  unfold State.heatCompleted
  dsimp only
  split
  · rename_i hheating
    obtain ⟨hrunning, _⟩ := hheating
    exact endPhase_keepsDrive hrunning none
  · exact .refl s

theorem takeHeatComplete_keepsDrive (s : State) (c : Cavity) : KeepsDrive s (takeHeatComplete c s) := by
  unfold takeHeatComplete
  split
  · exact .refl s
  · exact (setMail_keepsDrive s c _).trans (heatCompleted_keepsDrive _ c _)

theorem lockNoticed_keepsDrive (s : State) (c : Cavity) (n : LockNotice) : KeepsDrive s (s.lockNoticed c n) := by
  unfold State.lockNoticed
  split
  case h_1 => exact enterRunning_keepsDrive s c
  case h_2 => exact endCycle_keepsDrive s c _ _ _
  case h_3 h | h_4 h => exact settlingTest_keepsDrive (by simp [h])
  case h_5 => exact .refl s

theorem takeLockNotice_keepsDrive (s : State) (c : Cavity) : KeepsDrive s (takeLockNotice c s) := by
  unfold takeLockNotice
  split
  · exact .refl s
  · exact (setMail_keepsDrive s c _).trans (lockNoticed_keepsDrive _ c _)

theorem tripNoticed_keepsDrive (s : State) (c : Cavity) : KeepsDrive s (s.tripNoticed c) := by
  unfold State.tripNoticed
  dsimp only
  split <;> rename_i hstate
  case h_1 | h_2 => exact endCycle_keepsDrive s c _ _ _
  case h_3 => exact (setSeq_keepsDrive_of_same s c (by rfl)).trans (settlingTest_keepsDrive (by simp [hstate]))
  case h_4 => exact setSeq_keepsDrive_of_same s c (by rfl)
  case h_5 => exact setSeq_keepsDrive_of_resting s c (by simp [hstate])
  case h_6 | h_7 => exact .refl s

theorem takeTripNotice_keepsDrive (s : State) (c : Cavity) : KeepsDrive s (takeTripNotice c s) := by
  unfold takeTripNotice
  split
  · exact .refl s
  · exact (setMail_keepsDrive s c _).trans (tripNoticed_keepsDrive _ c)

theorem acceptStart_keepsDrive (hidle : (s.seq.get c).state = .idle) (walked : List Nat) (locks : Bool) :
    KeepsDrive s (s.acceptStart c walked locks) := by
  have hrest : (s.seq.get c).state ≠ .running := by simp [hidle]
  unfold State.acceptStart
  dsimp only
  split
  · exact (setSeq_keepsDrive_of_resting s c hrest).trans (setLock_keepsDrive _ c _)
  · exact (setSeq_keepsDrive_of_resting s c hrest).trans (enterRunning_keepsDrive _ c)

/-- A cleared trip's cavity leaves FAULTED, where its relay is open (R166). -/
theorem clearTrip_keepsDrive (h : s.clearRefusal c = none) : KeepsDrive s (s.clearTrip c) := by
  have hfaulted : (s.seq.get c).state = .faulted := by
    unfold State.clearRefusal at h
    by_contra hne
    rw [if_pos hne] at h
    cases h
  have hmailed := setMail_keepsDrive s c { s.box c with tripNotices := 0 }
  unfold State.clearTrip
  dsimp only
  split
  · exact ((hmailed.trans (setLimit_keepsDrive _ c (by simp))).trans
      (setSeq_keepsDrive_of_resting _ c (by simp [hfaulted]))).trans (queueEvent_keepsDrive _ _ _ _ _ _)
  · exact hmailed.trans (setSeq_keepsDrive_of_resting _ c (by simp [hfaulted]))

end

section
variable (s : State) (c : Cavity)

/-! ### The Limit Supervisor -/

theorem superviseReading_keepsDrive (r : CavityReading) : KeepsDrive s (s.superviseReading c r) := by
  have hstored : KeepsDrive s (s.storeReading c r) := setLimit_keepsDrive s c (by simp [State.tripped])
  exact (((hstored.trans (raiseIf_keepsDrive _ c _ _)).trans (raiseIf_keepsDrive _ c _ _)).trans
    (raiseIf_keepsDrive _ c _ _)).trans (raiseIf_keepsDrive _ c _ _)

theorem takeSupervisorReading_keepsDrive : KeepsDrive s (takeSupervisorReading c s) := by
  unfold takeSupervisorReading
  split
  · exact .refl s
  · exact (setMail_keepsDrive s c _).trans (superviseReading_keepsDrive _ c _)

theorem takeSupervisorBoard_keepsDrive : KeepsDrive s (takeSupervisorBoard s) := by
  unfold takeSupervisorBoard
  split
  · exact .refl s
  · rename_i b rest _
    have hstored : KeepsDrive s { s with
        mail := { s.mail with supervisorBoard := rest }, limit := { s.limit with board := some b } } :=
      ⟨fun hs => hs, fun hs => hs⟩
    unfold State.superviseBoard
    dsimp only
    split
    · exact hstored.trans (raiseForEnabled_keepsDrive _ _)
    · exact hstored

theorem takeRelayClosing_keepsDrive : KeepsDrive s (takeRelayClosing c s) := by
  unfold takeRelayClosing
  split
  · exact .refl s
  · exact (setMail_keepsDrive s c _).trans (raiseIf_keepsDrive _ c _ _)

theorem changeCutout_keepsDrive (value : Cutout) : KeepsDrive s (changeCutout c value s) := by
  unfold changeCutout
  dsimp only
  split
  · exact ((setPins_keepsDrive s c _).trans (setLimit_keepsDrive _ c (by simp [State.tripped]))).trans
      (raiseIf_keepsDrive _ c _ _)
  · exact setPins_keepsDrive s c _

/-! ### The sense check -/

theorem countMiss_keepsDrive (j : Judgement) : KeepsDrive s (s.countMiss j) := by
  unfold State.countMiss
  dsimp only
  split_ifs
  · exact setOutput_keepsDrive s rfl rfl
  · exact setOutput_keepsDrive s rfl rfl
  · exact ((setOutput_keepsDrive s (by rfl) (by rfl)).trans (queueEvent_keepsDrive _ _ _ _ _ _)).trans
      (dropGrant_keepsDrive _ _)

theorem countStuck_keepsDrive (j : Judgement) : KeepsDrive s (s.countStuck j) := by
  unfold State.countStuck
  dsimp only
  split
  · exact setOutput_keepsDrive s rfl rfl
  · exact (setOutput_keepsDrive s (by rfl) (by rfl)).trans (raise_keepsDrive _ _ _)

theorem judge_keepsDrive (j : Judgement) : KeepsDrive s (s.judge j) := by
  unfold State.judge
  dsimp only
  split
  · exact .refl s
  · split
    · exact setOutput_keepsDrive s rfl rfl
    · exact countMiss_keepsDrive s j
    · exact countStuck_keepsDrive s j
    · exact setOutput_keepsDrive s rfl rfl

theorem checkSense_keepsDrive (loads : BitVec 12) : KeepsDrive s (checkSense loads s) := by
  unfold checkSense
  exact ((foldl_keepsDrive (fun t j => setOutput_keepsDrive t (by rfl) (by rfl)) _ s).trans
    (foldl_keepsDrive judge_keepsDrive _ _)).trans (foldl_keepsDrive (fun t d => raiseIf_keepsDrive t d _ _) _ _)

/-! ### The Door Lock Controllers -/

theorem lockJammed_keepsDrive (l : DoorLock) (detail : Nat) : KeepsDrive s (s.lockJammed c l detail) :=
  (((setLock_keepsDrive s c _).trans (queueEvent_keepsDrive _ _ _ _ _ _)).trans (raise_keepsDrive _ c _)).trans
    (setMail_keepsDrive _ c _)

theorem lockLost_keepsDrive (l : DoorLock) : KeepsDrive s (s.lockLost c l) :=
  ((setLock_keepsDrive s c _).trans (raise_keepsDrive _ c _)).trans (setMail_keepsDrive _ c _)

theorem doorChanged_keepsDrive (value : DoorSwitch) : KeepsDrive s (s.doorChanged c value) := by
  unfold State.doorChanged
  dsimp only
  split
  · exact (setLock_keepsDrive s c _).trans (setMail_keepsDrive _ c _)
  · exact (setLock_keepsDrive s c _).trans (raise_keepsDrive _ c _)
  · exact setLock_keepsDrive s c _

theorem changeDoor_keepsDrive (value : DoorSwitch) : KeepsDrive s (changeDoor c value s) := by
  unfold changeDoor
  dsimp only
  split
  · exact (setPins_keepsDrive s c _).trans (doorChanged_keepsDrive _ c value)
  · exact setPins_keepsDrive s c _

theorem lockSwitchChanged_keepsDrive (value : LockSwitch) : KeepsDrive s (s.lockSwitchChanged c value) := by
  unfold State.lockSwitchChanged
  dsimp only
  split
  · exact .of_same (by simp [SameGuards])
  · exact .of_same (by simp [SameGuards])
  · exact setLock_keepsDrive s c _
  · exact lockLost_keepsDrive s c _
  · exact lockLost_keepsDrive s c _
  · exact setLock_keepsDrive s c _

theorem changeLockSwitch_keepsDrive (value : LockSwitch) : KeepsDrive s (changeLockSwitch c value s) := by
  unfold changeLockSwitch
  dsimp only
  split
  · exact (setPins_keepsDrive s c _).trans (lockSwitchChanged_keepsDrive _ c value)
  · exact setPins_keepsDrive s c _

theorem engageTimeout_keepsDrive : KeepsDrive s (engageTimeout c s) := by
  unfold engageTimeout
  split
  · exact lockJammed_keepsDrive s c _ 1
  · exact .refl s

theorem releaseTimeout_keepsDrive : KeepsDrive s (releaseTimeout c s) := by
  unfold releaseTimeout
  split
  · exact lockJammed_keepsDrive s c _ 2
  · exact .refl s

/-! ### The Fan Controller -/

theorem stallTest_keepsDrive (rpm : Nat) : KeepsDrive s (s.stallTest rpm) := by
  unfold State.stallTest
  split_ifs
  · exact setFan_keepsDrive s _
  · exact setFan_keepsDrive s _
  · exact ((setFan_keepsDrive s _).trans (queueEvent_keepsDrive _ _ _ _ _ _)).trans (raiseForEnabled_keepsDrive _ _)

theorem speedTest_keepsDrive (rpm : Nat) : KeepsDrive s (s.speedTest rpm) := by
  unfold State.speedTest
  split
  · exact stallTest_keepsDrive s rpm
  · exact (raiseForEnabled_keepsDrive s .fanStall).trans (.of_same (by simp [SameGuards]))
  · exact .refl s
  · exact .refl s

theorem evaluateFan_keepsDrive : KeepsDrive s (evaluateFan s) :=
  (((setFan_keepsDrive s _).trans (speedTest_keepsDrive _ _)).trans (setFan_keepsDrive _ _)).trans
    (setFan_keepsDrive _ _)

/-! ### The Regulation Unit -/

/-- A demand written is no grant (R87). -/
theorem takeRegulate_keepsDrive (r : RegRequest) : KeepsDrive s (s.takeRegulate c r) := by
  refine .of_same ⟨by simp, ?_, by simp, by simp, by simp⟩
  unfold State.takeRegulate
  dsimp only
  split <;> rfl

theorem takeRegulateRequest_keepsDrive : KeepsDrive s (takeRegulateRequest c s) := by
  unfold takeRegulateRequest
  split
  · exact .refl s
  · split
    · exact (setMail_keepsDrive s c _).trans (takeRegulate_keepsDrive _ c _)
    · exact .refl s

theorem takeOffRequest_keepsDrive : KeepsDrive s (takeOffRequest c s) := by
  unfold takeOffRequest
  split
  · exact .refl s
  · split
    · exact .of_same ⟨rfl, rfl, rfl, rfl, rfl⟩
    · exact .refl s

/-! ### The Power Allocator -/

theorem takeWithdrawNotice_keepsDrive : KeepsDrive s (takeWithdrawNotice c s) := by
  unfold takeWithdrawNotice
  split
  · exact .refl s
  · exact (setMail_keepsDrive s c _).trans (dropCavityGrants_keepsDrive _ c)

theorem takeSlot_drivesFollow : (takeSlot s).drivesFollow := by
  refine (drivesFollow_iff _).mpr fun i => ?_
  have henabled : (takeSlot s).enabled = s.enabled := funext (enabled_congr (by simp))
  rw [takeSlot_output, henabled]
  rfl

/-- A slot event hands its list over to the outputs and moves no relay (R99). -/
theorem takeSlot_keepsDrive : KeepsDrive s (takeSlot s) :=
  .of_refollows (.inl (takeSlot_drivesFollow s)) fun d => ⟨takeSlot_relayClosed s d, by simp, tripped_congr (by simp) d⟩

theorem shedGrants_refollows : Refollows s s.shedGrants := by
  unfold State.shedGrants
  split
  · exact .refl s
  · exact .inl (setGrants_drivesFollow _ _)

theorem rebudget_keepsDrive : KeepsDrive s s.rebudget := by
  have hfigure : Refollows s (s.setAlloc { s.alloc with available := s.budget }) := .inr ⟨rfl, rfl, rfl⟩
  exact .of_refollows (hfigure.trans (shedGrants_refollows _)) fun d =>
    ⟨relayClosed_congr (rebudget_relays s) d, by simp, tripped_congr (by simp) d⟩

theorem heard_keepsDrive : KeepsDrive s s.heard := by
  rw [heard_eq]
  split
  · exact setLink_keepsDrive s _
  · exact (setLink_keepsDrive s _).trans (rebudget_keepsDrive _)

theorem quietReached_keepsDrive : KeepsDrive s (quietReached s) := by
  unfold quietReached
  split
  · exact (setLink_keepsDrive s _).trans (rebudget_keepsDrive _)
  · exact .refl s

theorem takeBreak_keepsDrive : KeepsDrive s (takeBreak s) := by
  unfold takeBreak
  dsimp only
  split
  · exact (setLink_keepsDrive s _).trans (rebudget_keepsDrive _)
  · exact setLink_keepsDrive s _

end

end Sys2Proof.Machine
end

section
/-! PROOF. The profiles, the requests and power-up keep the outputs on the slot grant list and the supply relays guarded
(R105, R106, R111, R112, R121, R190), and with them every command does. -/

namespace Sys2Proof.Machine

/-! ### Grants that only leave the list -/

section
variable (s : State) (c : Cavity)

theorem trip_grants_subset (k : Cause) : (s.trip c k).alloc.grants ⊆ s.alloc.grants := by
  obtain ⟨_, _, hgrants, _⟩ := trip_parts s c k
  rw [hgrants]
  exact List.filter_sublist.subset

/-- Raising a cause grants nothing (R104). -/
theorem raise_grants_subset (k : Cause) : (s.raise c k).alloc.grants ⊆ s.alloc.grants := by
  rcases raise_cases s c k with h | ⟨_, _, h⟩ | ⟨_, r, _, h⟩ <;> rw [h]
  · exact List.Subset.refl _
  · exact trip_grants_subset s c k
  · rw [show (s.laterCause c r k).alloc = s.alloc by simp]
    exact List.Subset.refl _

theorem enableLock_grants_subset : (s.enableLock c).alloc.grants ⊆ s.alloc.grants := by
  unfold State.enableLock
  dsimp only
  split
  · exact List.Subset.refl _
  · exact raise_grants_subset (s.setLock c _) c .lockLost

theorem disableCavity_granted {x : CavityElement} (h : x ∈ (disableCavity s c).alloc.grants) :
    x ∈ s.alloc.grants ∧ x.1 ≠ c := by
  rw [disableCavity_alloc] at h
  simpa using h

theorem enableCavity_granted {x : CavityElement} (h : x ∈ (enableCavity s c).alloc.grants) :
    x ∈ s.alloc.grants ∧ x.1 ≠ c := by
  obtain ⟨_, _, _, hgrants, _⟩ := enabledUnlocked_alloc s c
  have hlocked : x ∈ (s.enabledUnlocked c).alloc.grants := enableLock_grants_subset _ c h
  rw [hgrants] at hlocked
  simpa using hlocked

end

/-- A fold of steps each of which takes its own cavity's grants out of the list takes those of all its cavities. -/
theorem foldl_granted {f : State → Cavity → State}
    (hf : ∀ t c x, x ∈ (f t c).alloc.grants → x ∈ t.alloc.grants ∧ x.1 ≠ c) {l : List Cavity} {s : State}
    {x : CavityElement} (h : x ∈ (l.foldl f s).alloc.grants) : x ∈ s.alloc.grants ∧ x.1 ∉ l := by
  induction l generalizing s with
  | nil => exact ⟨h, by simp⟩
  | cons c l ih =>
    obtain ⟨hstep, hl⟩ := ih h
    obtain ⟨hs, hc⟩ := hf s c x hstep
    exact ⟨hs, by simp [hc, hl]⟩

/-! ### A cavity disabled and a cavity enabled -/

section
variable (s : State) (c : Cavity)

/-- A cavity that is disabled has its list handed over anew. -/
theorem disableCavity_refollows : Refollows s (disableCavity s c) := by
  refine .inl ?_
  unfold disableCavity
  extract_lets s₁ s₂ s₃
  refine (drivesFollow_congr (s := s₂.setGrants s₂.alloc.grants) ?_ ?_ ?_).mpr (setGrants_drivesFollow _ _) <;>
    simp [s₃]

theorem enableLock_refollows : Refollows s (s.enableLock c) := by
  unfold State.enableLock
  dsimp only
  split
  · exact .inr ⟨rfl, rfl, rfl⟩
  · exact Refollows.trans (t := s.setLock c { (s.locks.get c).restOpen with
      door := (s.pins.get c).door, switch := (s.pins.get c).lock, state := .jammed }) (.inr ⟨rfl, rfl, rfl⟩)
      (raise_refollows _ c _)

theorem rebuildRequests_refollows : Refollows s (s.rebuildRequests c) :=
  (dropCavityGrants_refollows s c).trans (.inr ⟨rfl, rfl, rfl⟩)

theorem enableCavity_refollows : Refollows s (enableCavity s c) := by
  have hringed : Refollows s ((s.enableSequencer c).enableAlloc c) :=
    Refollows.trans (t := (s.enableSequencer c).setAlloc { (s.alloc.leaveRings c).joinRing c .one with
      demand := ((s.alloc.leaveRings c).joinRing c .one).demand.set c DemandEntry.powerUp
      powerLimited := ((s.alloc.leaveRings c).joinRing c .one).powerLimited.set c false })
      (.inr ⟨rfl, rfl, rfl⟩) (rebuildRequests_refollows _ c)
  exact (hringed.trans (.inr ⟨rfl, rfl, rfl⟩)).trans (enableLock_refollows (s.enabledUnlocked c) c)

theorem disableCavity_relaysGuarded (hs : s.relaysGuarded) : (disableCavity s c).relaysGuarded := by
  intro d
  by_cases hd : d = c
  · subst hd
    refine relayGuarded_of_open ?_
    simpa [disableCavity, State.relayClosed, setGrants_relays] using
      openRelay_open ((((((resetChannels s d).setRecord (inlineSlot d) none).disableSequencer d).setReg d
        Regulation.powerUp).disableAlloc d)) d
  · obtain ⟨htripped, _, hrelay, _⟩ := disableCavity_standing s c hd
    exact relayGuarded_of_same ⟨hrelay, by simp [disableCavity_seq, hd], htripped⟩ (hs d)

/-- A cavity is enabled out of ABSENT or IDLE, where its relay is open (R189, R190). -/
theorem enableCavity_relaysGuarded (hrest : (s.seq.get c).state ≠ .running) (hs : s.relaysGuarded) :
    (enableCavity s c).relaysGuarded := by
  have hunlocked : (s.enabledUnlocked c).relaysGuarded := by
    intro d
    by_cases hd : d = c
    · subst hd
      exact relayGuarded_of_open ((relayClosed_congr (by simp) d).trans (relayOpen_of_not_running (hs d) hrest))
    · obtain ⟨htripped, _, hrelay, _⟩ := enabledUnlocked_standing s c hd
      exact relayGuarded_of_same ⟨hrelay, by simp [hd], htripped⟩ (hs d)
  rw [enableCavity_eq]
  unfold State.enableLock
  dsimp only
  split
  · exact hunlocked
  · exact ((setLock_keepsDrive _ c _).trans (raise_keepsDrive _ c _)).relays hunlocked

end

/-! ### An appliance profile accepted -/

section
variable {s : State} {a : ApplianceProfile}

theorem changesEnable_of_mem {c : Cavity} (h : c ∈ s.disabledBy a ∨ c ∈ s.enabledBy a) : s.changesEnable a c = true := by
  rw [mem_disabledBy, mem_enabledBy] at h
  rcases h with ⟨h, h'⟩ | ⟨h, h'⟩ <;> simpa [State.changesEnable, State.enabled, h'] using h

/-- The outputs follow the list under the new enables: where nothing is handed over anew, no cavity whose enable changed
had a grant (R111, R190). -/
theorem applianceSet_drivesFollow (hs : s.drivesFollow) : (s.applianceSet a).drivesFollow := by
  have hfolds : Refollows { s with appliance := a } (s.applianceSet a) :=
    (foldl_refollows disableCavity_refollows _ _).trans (foldl_refollows enableCavity_refollows _ _)
  rcases hfolds with h | ⟨houtputs, hgrants, happliance⟩
  · exact h
  · have hkept (x : CavityElement) (hx : x ∈ s.alloc.grants) : a.enabled.get x.1 = s.enabled x.1 := by
      have hx' : x ∈ (s.applianceSet a).alloc.grants := by rwa [hgrants]
      obtain ⟨hx'', hon⟩ := foldl_granted (fun t c x => enableCavity_granted t c) hx'
      obtain ⟨_, hoff⟩ := foldl_granted (fun t c x => disableCavity_granted t c) hx''
      rw [mem_enabledBy] at hon
      rw [mem_disabledBy] at hoff
      cases h : a.enabled.get x.1 <;> cases h' : s.enabled x.1 <;> simp_all
    rw [drivesFollow_congr houtputs hgrants happliance]
    intro o ho
    rw [hs o ho]
    unfold driven
    split
    · rename_i x _
      by_cases hx : x ∈ s.alloc.grants
      · exact congrArg (· && _) (hkept x hx).symm
      · simp [hx]
    · rfl

theorem applianceSet_relaysGuarded (hrest : ∀ c, s.changesEnable a c = true → (s.seq.get c).state ≠ .running)
    (hs : s.relaysGuarded) : (s.applianceSet a).relaysGuarded := by
  have hdisabled : (s.applianceDisabled a).relaysGuarded ∧
      ∀ c ∈ s.enabledBy a, ((s.applianceDisabled a).seq.get c).state ≠ .running := by
    refine List.foldlRecOn (motive := fun t : State => t.relaysGuarded ∧
      ∀ c ∈ s.enabledBy a, (t.seq.get c).state ≠ .running) _ _
      ⟨hs, fun c hc => hrest c (changesEnable_of_mem (.inr hc))⟩ fun t ⟨ht, hidle⟩ d _ => ?_
    refine ⟨disableCavity_relaysGuarded t d ht, fun c hc => ?_⟩
    rw [disableCavity_seq, PerCavity.get_set]
    split
    · simp [Sequencer.fresh]
    · exact hidle c hc
  obtain ⟨henabled, _⟩ := List.foldlRecOn (motive := fun t : State => t.relaysGuarded ∧
      ∀ c ∈ s.enabledBy a, (t.seq.get c).state ≠ .running) (s.enabledBy a) enableCavity hdisabled
    fun t ⟨ht, hidle⟩ d hd => by
      refine ⟨enableCavity_relaysGuarded t d (hidle d hd) ht, fun c hc => ?_⟩
      have hseq : (enableCavity t d).seq = t.seq.set d (Sequencer.fresh .idle) := by simp [enableCavity_eq]
      rw [hseq, PerCavity.get_set]
      split
      · simp [Sequencer.fresh]
      · exact hidle c hc
  exact henabled

theorem acceptAppliance_keepsDrive
    (hrest : ∀ c, s.changesEnable a c = true → (s.seq.get c).state ≠ .running) :
    KeepsDrive s (s.acceptAppliance a) := by
  have hset : KeepsDrive s (s.applianceSet a) := ⟨applianceSet_drivesFollow, applianceSet_relaysGuarded hrest⟩
  rw [acceptAppliance_eq]
  split
  · exact hset
  · exact hset.trans (rebudget_keepsDrive _)

/-- An appliance profile is refused that changes the enable of a cavity in RUNNING (R189). -/
theorem not_running_of_applianceRefusal (h : s.applianceRefusal a = none) {c : Cavity}
    (hc : s.changesEnable a c = true) : (s.seq.get c).state ≠ .running := by
  unfold State.applianceRefusal at h
  split at h
  · cases h
  · rw [Option.map_eq_none_iff, List.findSome?_eq_none_iff] at h
    intro hrunning
    have hrefused := h c (List.mem_filter.mpr ⟨Cavity.mem_all c, hc⟩)
    simp [State.enableRefusal, hrunning] at hrefused

/-! ### A cavity profile accepted -/

/-- An output rebuilt stands as the grants of the other cavities drive it (R121). -/
theorem rebuilt_drive {o : OutputRecord} (h : o.drive = driven s.enabled s.alloc.grants o) (c : Cavity)
    (x : CavityProfile) (i : Nat) : (o.rebuilt c x i).drive =
      driven s.enabled (s.alloc.grants.filter fun y => decide (y.1 ≠ c)) (o.rebuilt c x i) := by
  unfold OutputRecord.rebuilt
  split
  · rename_i e _
    rw [driven_filter_of_owner (e := e) rfl]
    rfl
  · split
    · rfl
    · rename_i hother
      rw [driven_filter_of_other hother]
      exact h

/-- A cavity bound to a profile keeps its relay and what guards it; its grants leave, and its outputs are off (R105, R121,
R192). -/
theorem acceptProfile_keepsDrive (s : State) (c : Cavity) (x : CavityProfile) : KeepsDrive s (s.acceptProfile c x) := by
  obtain ⟨_, hseq, _, hrelays, _⟩ := acceptProfile_parts s c x
  constructor
  · intro hs
    refine (drivesFollow_iff _).mpr fun i => ?_
    have henabled : (s.acceptProfile c x).enabled = s.enabled := funext (enabled_congr (by simp))
    have hdriven := rebuilt_drive (drive_of_drivesFollow hs i) c x i
    rw [acceptProfile_output_of_driven hdriven, henabled, acceptProfile_alloc]
    exact hdriven
  · refine fun hs d => relayGuarded_of_same ⟨relayClosed_congr hrelays d, ?_, tripped_congr (by simp) d⟩ (hs d)
    rw [hseq, PerCavity.get_set]
    split
    · rename_i hd
      rw [hd]
    · rfl

end

/-! ### The requests -/

/-- The owner of a request keeps the outputs and the relays of any state. -/
def OwnerKeepsDrive (f : Owner) : Prop := ∀ p s, KeepsDrive s (f p s).1

theorem ownerKeepsDrive_of_reads {f : Owner} (h : ∀ p s, (f p s).1 = s) : OwnerKeepsDrive f :=
  fun p s => (h p s).symm ▸ .refl s

theorem ownerKeepsDrive_ofCavity {f : Cavity → List Byte → State → State × Reply} (h : ∀ c, OwnerKeepsDrive (f c)) :
    OwnerKeepsDrive (ownerOfCavity f) := by
  intro p s
  unfold ownerOfCavity
  split
  · exact .refl s
  · exact h _ p s

theorem setAttention_keepsDrive : OwnerKeepsDrive setAttention := by
  intro p s
  unfold setAttention
  dsimp only
  split
  · exact .refl s
  · exact setLink_keepsDrive s _

theorem setFanFloor_keepsDrive : OwnerKeepsDrive setFanFloor := by
  intro p s
  unfold setFanFloor
  dsimp only
  split
  · exact .refl s
  · exact setFan_keepsDrive s _

theorem setAlloc_figures_keepsDrive (s : State) (supply declared : Nat) :
    KeepsDrive s (s.setAlloc { s.alloc with supply := supply, declared := declared }) :=
  .of_same ⟨rfl, rfl, rfl, rfl, rfl⟩

theorem setSupply_keepsDrive : OwnerKeepsDrive setSupply := by
  intro p s
  unfold setSupply
  split
  · exact .refl s
  · exact (setAlloc_figures_keepsDrive s _ s.alloc.declared).trans (rebudget_keepsDrive _)

theorem declareLoad_keepsDrive : OwnerKeepsDrive declareLoad := by
  intro p s
  unfold declareLoad
  split
  · exact .refl s
  · exact (setAlloc_figures_keepsDrive s s.alloc.supply _).trans (rebudget_keepsDrive _)

theorem writePhase_keepsDrive : OwnerKeepsDrive writePhase := by
  intro p s
  unfold writePhase
  dsimp only
  split
  · exact .refl s
  · split
    · exact .refl s
    · split
      · exact .refl s
      · exact setRecord_keepsDrive s _ _

theorem erasePhase_keepsDrive : OwnerKeepsDrive erasePhase := by
  intro p s
  unfold erasePhase
  dsimp only
  split
  · exact .refl s
  · split
    · exact .refl s
    · exact setRecord_keepsDrive s _ _

/-- The rest of a start, from a state that writes nothing the Sequencer reads. -/
theorem finishStart_keepsDrive {s : State} {c : Cavity} (hidle : (s.seq.get c).state = .idle)
    (table : Nat → Option PhaseRecord) (chain : Except (Nat × ChainCheck) (List Nat)) {write : State → State}
    (hwrite : KeepsDrive s (write s)) (hseq : (write s).seq = s.seq) :
    KeepsDrive s (s.finishStart c table chain write).1 := by
  unfold State.finishStart
  split
  · exact .refl s
  · split
    · exact .refl s
    · exact hwrite.trans (acceptStart_keepsDrive (hseq ▸ hidle) _ _)

theorem startCycle_keepsDrive : OwnerKeepsDrive startCycle :=
  ownerKeepsDrive_ofCavity fun c p s => by
    dsimp only
    split
    · exact .refl s
    · rename_i hrefusal
      split
      · exact .refl s
      · exact finishStart_keepsDrive (idle_of_startRefusal hrefusal) _ _ (.refl s) rfl

theorem startInline_keepsDrive : OwnerKeepsDrive startInline :=
  ownerKeepsDrive_ofCavity fun c p s => by
    dsimp only
    split
    · exact .refl s
    · rename_i hrefusal
      split
      · exact .refl s
      · exact finishStart_keepsDrive (idle_of_startRefusal hrefusal) _ _ (setRecord_keepsDrive s _ _) rfl

theorem abortCycle_keepsDrive : OwnerKeepsDrive abortCycle :=
  ownerKeepsDrive_ofCavity fun c p s => by
    split
    case h_1 | h_2 => exact endCycle_keepsDrive s c _ _ none
    case h_3 => exact .refl s

theorem lockDoor_keepsDrive : OwnerKeepsDrive lockDoor :=
  ownerKeepsDrive_ofCavity fun c p s => by
    dsimp only
    split
    · exact .refl s
    · split
      case h_5 =>
        split
        · exact .refl s
        · exact setLock_keepsDrive s c _
      all_goals exact .refl s

theorem unlockDoor_keepsDrive : OwnerKeepsDrive unlockDoor :=
  ownerKeepsDrive_ofCavity fun c p s => by
    dsimp only
    split
    · exact .refl s
    · split
      case h_4 =>
        split_ifs
        · exact .refl s
        · exact .of_same (by simp [SameGuards])
        · exact setLock_keepsDrive s c _
      all_goals exact .refl s

theorem applianceProfile_keepsDrive : OwnerKeepsDrive applianceProfile := by
  intro p s
  unfold applianceProfile
  split
  · exact .refl s
  · rename_i hrefusal
    exact acceptAppliance_keepsDrive fun c => not_running_of_applianceRefusal hrefusal

theorem cavityProfile_keepsDrive : OwnerKeepsDrive cavityProfile :=
  ownerKeepsDrive_ofCavity fun c p s => by
    split
    · exact .refl s
    · exact acceptProfile_keepsDrive s c _

theorem clearTripOwner_keepsDrive : OwnerKeepsDrive clearTrip :=
  ownerKeepsDrive_ofCavity fun c p s => by
    split
    · exact .refl s
    · rename_i hrefusal
      exact clearTrip_keepsDrive hrefusal

theorem ownerOf_keepsDrive (before : LinkState) (k : RequestKind) : OwnerKeepsDrive (ownerOf before k) := by
  cases k with
  | identify | readStatus | readSensor => exact ownerKeepsDrive_of_reads fun _ _ => rfl
  | readTrip => exact ownerKeepsDrive_ofCavity fun _ => ownerKeepsDrive_of_reads fun _ _ => rfl
  | readEvents => exact ownerKeepsDrive_of_reads readEvents_reads
  | readPhase => exact ownerKeepsDrive_of_reads readPhase_reads
  | readProfile => exact ownerKeepsDrive_of_reads readProfile_reads
  | setAttention => exact setAttention_keepsDrive
  | setFanFloor => exact setFanFloor_keepsDrive
  | setSupply => exact setSupply_keepsDrive
  | declareLoad => exact declareLoad_keepsDrive
  | writePhase => exact writePhase_keepsDrive
  | erasePhase => exact erasePhase_keepsDrive
  | startCycle => exact startCycle_keepsDrive
  | startInline => exact startInline_keepsDrive
  | abortCycle => exact abortCycle_keepsDrive
  | lockDoor => exact lockDoor_keepsDrive
  | unlockDoor => exact unlockDoor_keepsDrive
  | applianceProfile => exact applianceProfile_keepsDrive
  | cavityProfile => exact cavityProfile_keepsDrive
  | clearTrip => exact clearTripOwner_keepsDrive

/-- Every frame and every request keeps the outputs and the relays of the state that it came upon. -/
theorem framesKeep_drive (s : State) : FramesKeep (KeepsDrive s) where
  heard t ht := ht.trans (heard_keepsDrive t)
  answer t h code c r ht := ht.trans (.of_same (by simp [SameGuards]))
  receiver t _ ht := ht.trans (setLink_keepsDrive t _)
  owner before k p t ht := ht.trans (ownerOf_keepsDrive before k p t)

/-! ### Power-up -/

section
variable (s : State) (pins : PowerUpPins)

/-- At power-up every output is unmapped and every relay open (R123). -/
theorem poweredUp_guarded : (s.poweredUp pins).drivesFollow ∧ (s.poweredUp pins).relaysGuarded := by
  constructor
  · refine (drivesFollow_iff _).mpr fun i => ?_
    have hunmapped : (s.poweredUp pins).output i = OutputRecord.unmapped := by
      simp [State.output, State.poweredUp, State.reset, Drive.powerUp]
    rw [hunmapped]
    rfl
  · exact fun c => relayGuarded_of_open (by cases c <;> rfl)

theorem recoverCavity_keepsDrive {s : State} (hs : s.resting) (c : Cavity) : KeepsDrive s (recoverCavity s c) := by
  obtain ⟨hrest, _⟩ := hs c
  unfold recoverCavity
  dsimp only
  split
  · exact ((setSeq_keepsDrive_of_resting s c hrest).trans (queueEvent_keepsDrive _ _ _ _ _ _)).trans
      (raiseIf_keepsDrive _ c _ _)
  · exact .refl s

theorem powerUp_keepsDrive : KeepsDrive s (powerUp pins s) := by
  have hresting : (s.poweredUp pins).resting := fun c => by
    simp [State.poweredUp, State.reset, Sequencer.fresh]
  obtain ⟨hkept, _⟩ : KeepsDrive (s.poweredUp pins) (powerUp pins s) ∧ (powerUp pins s).resting :=
    List.foldlRecOn (motive := fun t => KeepsDrive (s.poweredUp pins) t ∧ t.resting) Cavity.all recoverCavity
      ⟨.refl _, hresting⟩ fun t ⟨ht, hrest⟩ c _ => by
        obtain ⟨_, hrest'⟩ := recoverCavity_keepsPower hrest c
        exact ⟨ht.trans (recoverCavity_keepsDrive hrest c), hrest'⟩
  obtain ⟨hdrives, hrelays⟩ := poweredUp_guarded s pins
  exact ⟨fun _ => hkept.drives hdrives, fun _ => hkept.relays hrelays⟩

end

/-! ### Every command -/

theorem exec_keepsDrive {s t : State} {i : Instr} (h : exec i s = .next t) : KeepsDrive s t := by
  have hframes := framesKeep_drive s
  cases i <;> cases h
  case powerUp pins => exact powerUp_keepsDrive s pins
  case sequencerCavityReading c => exact takeSequencerReading_keepsDrive s c
  case regulateRequest c => exact takeRegulateRequest_keepsDrive s c
  case offRequest c => exact takeOffRequest_keepsDrive s c
  case heatCompleteNotice c => exact takeHeatComplete_keepsDrive s c
  case lockNotice c => exact takeLockNotice_keepsDrive s c
  case tripNotice c => exact takeTripNotice_keepsDrive s c
  case slotEvent => exact takeSlot_keepsDrive s
  case grantWithdrawNotice c => exact takeWithdrawNotice_keepsDrive s c
  case senseCheck loads => exact checkSense_keepsDrive s loads
  case doorChange c value => exact changeDoor_keepsDrive s c value
  case lockSwitchChange c value => exact changeLockSwitch_keepsDrive s c value
  case engageTravelTimeout c => exact engageTimeout_keepsDrive s c
  case releaseTravelTimeout c => exact releaseTimeout_keepsDrive s c
  case cutoutChange c value => exact changeCutout_keepsDrive s c value
  case supervisorCavityReading c => exact takeSupervisorReading_keepsDrive s c
  case supervisorBoardReading => exact takeSupervisorBoard_keepsDrive s
  case supplyRelayClosed c => exact takeRelayClosing_keepsDrive s c
  case fanEvaluation => exact evaluateFan_keepsDrive s
  case quietTimeout => exact quietReached_keepsDrive s
  case lineBreak => exact takeBreak_keepsDrive s
  case frameDiscarded chars | frameForOtherNode chars => exact hframes.takeChars (.refl s) chars
  case unknownKind h code p | frameWhileReplyOwed h code p => exact hframes.takeFrame (.refl s) h _ p
  case applianceProfile h p pins =>
    have hread : KeepsDrive s { s with pins := pins } := .of_same ⟨rfl, rfl, rfl, rfl, rfl⟩
    exact hframes.takeRequest hread s.link.state .applianceProfile h p
  case sampleInstant | wholeSecondReading | reversalTimeReached | fanCavityReading | fanBoardReading | tachPulse |
      lineReturnHigh | characterGapTimeout | replyComplete =>
    exact .of_same (by simp [SameGuards])
  all_goals exact hframes.takeRequest (.refl s) s.link.state _ _ _

/-- Every step keeps the outputs and the relays: a tenth of a second changes nothing that the invariants read. -/
theorem step_keepsDrive {s t : State} (h : step s = .next t) : KeepsDrive s t := by
  unfold step at h
  split at h
  · rename_i i rest _
    have htaken : KeepsDrive s { s with pending := rest } := .of_same ⟨rfl, rfl, rfl, rfl, rfl⟩
    exact htaken.trans (exec_keepsDrive h)
  · cases h
    exact .of_same ⟨rfl, rfl, rfl, rfl, rfl⟩

/-- Settles O6, by what every step keeps. -/
theorem drivesFollowGrants : Obligations.DrivesFollowGrants := fun _ _ hs h => (step_keepsDrive h).drives hs

/-- Settles O7, by what every step keeps. -/
theorem relaysOnlyWhileRunning : Obligations.RelaysOnlyWhileRunning := fun _ _ hs h => (step_keepsDrive h).relays hs

end Sys2Proof.Machine
end

section
/-! PROOF. The sense check output by output (R114 to R118, R120): the record that sampling and judging leave, the place of
an output's judgement among the others, and what the rest of the check keeps. -/

namespace Sys2Proof.Machine

/-! ### The record of an output -/

/-- The output's record is the one given, but for its drive, which follows the list. -/
def State.outputIs (s : State) (i : Fin 12) (x : OutputRecord) : Prop :=
  s.output i = { x with drive := (s.output i).drive }

/-- The record with what its load-sense input reported (R114). -/
def OutputRecord.sampled (o : OutputRecord) (current : Bool) : OutputRecord :=
  { o with sense := some (if current then .current else .none) }

/-- The record that judging leaves, but for its drive (R116 to R118). -/
def OutputRecord.judged (o : OutputRecord) (granted current : Bool) : OutputRecord :=
  if o.stuck then o
  else match granted, current with
    | true, true => { o with missCount := 0 }
    | true, false =>
      if o.missCount + 1 < 3 then { o with missCount := o.missCount + 1 } else { o with missCount := 3, dead := true }
    | false, true =>
      if o.stuckCount + 1 < 2 then { o with stuckCount := o.stuckCount + 1 }
      else { o with stuckCount := 2, stuck := true }
    | false, false => { o with stuckCount := 0 }

section
variable {o : OutputRecord} {granted current : Bool}

theorem judged_of_stuck (hstuck : o.stuck = true) : o.judged granted current = o := if_pos hstuck

theorem judged_of_fed (hstuck : o.stuck = false) (hcurrent : current = true) :
    o.judged true current = { o with missCount := 0 } := by
  simp [OutputRecord.judged, hstuck, hcurrent]

theorem judged_of_miss (hstuck : o.stuck = false) (hcurrent : current = false) (hmiss : o.missCount < 2) :
    o.judged true current = { o with missCount := o.missCount + 1 } := by
  simp [OutputRecord.judged, hstuck, hcurrent, hmiss]

theorem judged_of_third_miss (hstuck : o.stuck = false) (hcurrent : current = false) (hmiss : o.missCount = 2) :
    o.judged true current = { o with missCount := 3, dead := true } := by
  simp [OutputRecord.judged, hstuck, hcurrent, hmiss]

theorem judged_of_quiet (hstuck : o.stuck = false) (hcurrent : current = false) :
    o.judged false current = { o with stuckCount := 0 } := by
  simp [OutputRecord.judged, hstuck, hcurrent]

theorem judged_of_first_current (hstuck : o.stuck = false) (hcurrent : current = true) (hcount : o.stuckCount = 0) :
    o.judged false current = { o with stuckCount := 1 } := by
  simp [OutputRecord.judged, hstuck, hcurrent, hcount]

theorem judged_of_second_current (hstuck : o.stuck = false) (hcurrent : current = true) (hcount : o.stuckCount = 1) :
    o.judged false current = { o with stuckCount := 2, stuck := true } := by
  simp [OutputRecord.judged, hstuck, hcurrent, hcount]

end

section
variable {s t : State} {i : Fin 12}

theorem outputIs_of_eq {x : OutputRecord} (h : s.output i = x) : s.outputIs i x := by
  subst h
  rfl

theorem State.outputIs.trans {x : OutputRecord} (hs : s.outputIs i x) (ht : t.outputIs i (s.output i)) :
    t.outputIs i x := by
  unfold State.outputIs at *
  rw [hs] at ht
  exact ht

/-- Judging reads no drive. -/
theorem judged_of_outputIs {x : OutputRecord} (hs : s.outputIs i x) {granted current : Bool}
    (ht : t.outputIs i ((s.output i).judged granted current)) : t.outputIs i (x.judged granted current) := by
  have hdrive (d : Bool) : ({ x with drive := d } : OutputRecord).judged granted current =
      { x.judged granted current with drive := d } := by
    unfold OutputRecord.judged
    cases granted <;> cases current <;> split_ifs <;> rfl
  unfold State.outputIs at *
  rw [hs, hdrive] at ht
  exact ht

theorem setOutput_output_same (s : State) (i : Fin 12) (o : OutputRecord) : (s.setOutput i o).output i = o := by
  simp [State.output, State.setOutput]

theorem setOutput_output_other (s : State) {i j : Fin 12} (o : OutputRecord) (h : j ≠ i) :
    (s.setOutput j o).output i = s.output i := by
  simp [State.output, State.setOutput, Vector.getElem_set_ne, Fin.val_ne_of_ne h]

theorem dropGrant_output (s : State) (x : CavityElement) (i : Fin 12) : (s.dropGrant x).outputIs i (s.output i) := by
  unfold State.dropGrant
  split
  · rw [State.outputIs, setGrants_output]
  · rfl

/-- Raising a cause switches outputs, and changes nothing else of their records (R104, R111). -/
theorem raise_output (s : State) (c : Cavity) (k : Cause) (i : Fin 12) : (s.raise c k).outputIs i (s.output i) := by
  rcases raise_cases s c k with h | ⟨_, _, h⟩ | ⟨_, r, _, h⟩ <;> rw [h]
  · rfl
  · have houtput : (s.trip c k).output i = ((s.tripOpened c k).dropCavityGrants c).output i := rfl
    rw [State.outputIs, houtput]
    rcases dropCavityGrants_output_cases (s.tripOpened c k) c i with h' | h' <;> rw [h', tripOpened_output]
  · exact outputIs_of_eq (by simp [State.output])

/-! ### Sampling and judging -/

theorem sampleLoad_output (s : State) (j : Judgement) :
    (s.sampleLoad j).output j.output = (s.output j.output).sampled j.current :=
  setOutput_output_same ..

theorem sampleLoad_output_other (s : State) (j : Judgement) (h : j.output ≠ i) :
    (s.sampleLoad j).outputIs i (s.output i) :=
  outputIs_of_eq (setOutput_output_other s _ h)

/-- The third miss in a row of an element that is not DEAD (R117). -/
theorem judge_of_third_miss {j : Judgement} (hgranted : j.granted = true) (hcurrent : j.current = false)
    (hstuck : (s.output j.output).stuck = false) (hmiss : ¬ (s.output j.output).missCount + 1 < 3)
    (hdead : (s.output j.output).dead = false) :
    s.judge j = ((s.setOutput j.output { s.output j.output with missCount := 3, dead := true }).queueEvent
      .elementDead (some j.cavity) 2 (some j.output)).dropGrant (j.cavity, j.element) := by
  simp [State.judge, State.countMiss, hstuck, hgranted, hcurrent, hmiss, hdead]

/-- The second current in a row of an output that is not granted (R118). -/
theorem judge_of_second_stuck {j : Judgement} (hgranted : j.granted = false) (hcurrent : j.current = true)
    (hstuck : (s.output j.output).stuck = false) (hcount : ¬ (s.output j.output).stuckCount + 1 < 2) :
    s.judge j = (s.setOutput j.output { s.output j.output with stuckCount := 2, stuck := true }).raise j.cavity
      .relayStuck := by
  simp [State.judge, State.countStuck, hstuck, hgranted, hcurrent, hcount]

/-- All that judging an output can do: its record is replaced, and with that an event joins the queue and a grant leaves
the list, or RELAY_STUCK is raised (R116 to R118). -/
theorem judge_cases (s : State) (j : Judgement) : ∃ u : State,
    u = s.setOutput j.output ((s.output j.output).judged j.granted j.current) ∧
    (s.judge j = u ∨
      s.judge j = (u.queueEvent .elementDead (some j.cavity) 2 (some j.output)).dropGrant (j.cavity, j.element) ∨
      s.judge j = u.raise j.cavity .relayStuck) := by
  refine ⟨_, rfl, ?_⟩
  have hsame : s.setOutput j.output (s.output j.output) = s := by
    simp [State.setOutput, State.output]
  unfold State.judge OutputRecord.judged
  dsimp only
  split
  · exact .inl hsame.symm
  · cases j.granted <;> cases j.current <;> dsimp only
    · exact .inl rfl
    · unfold State.countStuck
      dsimp only
      split
      · exact .inl rfl
      · exact .inr (.inr rfl)
    · unfold State.countMiss
      dsimp only
      split
      · exact .inl rfl
      · split
        · rename_i hdead
          exact .inl (by rw [← hdead])
        · exact .inr (.inl rfl)
    · exact .inl rfl

theorem judge_output (s : State) (j : Judgement) :
    (s.judge j).outputIs j.output ((s.output j.output).judged j.granted j.current) := by
  obtain ⟨u, hu, h⟩ := judge_cases s j
  have hset : u.outputIs j.output ((s.output j.output).judged j.granted j.current) :=
    outputIs_of_eq (hu ▸ setOutput_output_same ..)
  rcases h with h | h | h <;> rw [h]
  · exact hset
  · exact hset.trans (dropGrant_output (u.queueEvent _ _ _ _) _ _)
  · exact hset.trans (raise_output u _ _ _)

theorem judge_output_other (s : State) (j : Judgement) (hi : j.output ≠ i) :
    (s.judge j).outputIs i (s.output i) := by
  obtain ⟨u, hu, h⟩ := judge_cases s j
  have hset : u.outputIs i (s.output i) := outputIs_of_eq (hu ▸ setOutput_output_other s _ hi)
  rcases h with h | h | h <;> rw [h]
  · exact hset
  · exact hset.trans (dropGrant_output (u.queueEvent _ _ _ _) _ _)
  · exact hset.trans (raise_output u _ _ _)

theorem noHeatTest_output (s : State) (c : Cavity) (i : Fin 12) : (noHeatTest s c).outputIs i (s.output i) := by
  unfold noHeatTest State.raiseIf
  split
  · exact raise_output s c _ i
  · rfl

/-- Steps over the judgements of other outputs leave an output's record. -/
theorem foldl_output_other {f : State → Judgement → State}
    (hf : ∀ t j, j.output ≠ i → (f t j).outputIs i (t.output i)) {l : List Judgement}
    (hl : ∀ j ∈ l, j.output ≠ i) (s : State) : (l.foldl f s).outputIs i (s.output i) :=
  List.foldlRecOn (motive := fun t : State => t.outputIs i (s.output i)) l f rfl
    fun t ht j hj => ht.trans (hf t j (hl j hj))

end

/-! ### What the check keeps -/

/-- A tripped cavity has its supply relay open and nothing granted (R104, R162). -/
def State.cutOff (s : State) (c : Cavity) : Prop :=
  s.tripped c = true → s.relayClosed c = false ∧ ∀ e, (c, e) ∉ s.alloc.grants

/-- What every step of a sense check keeps: grants only leave the list, events only join the queue, causes are only added,
and a cavity that it trips is cut off. -/
structure SenseStep (s t : State) : Prop where
  seq : t.seq = s.seq
  clock : t.clock = s.clock
  grants : t.alloc.grants ⊆ s.alloc.grants
  queue : s.link.queue ⊆ t.link.queue
  causes : ∀ c k, s.holdsCause c k → t.holdsCause c k
  cutOff : ∀ c, s.cutOff c → t.cutOff c

section
variable {s t u : State}

theorem SenseStep.refl (s : State) : SenseStep s s :=
  ⟨rfl, rfl, List.Subset.refl _, List.Subset.refl _, fun _ _ => id, fun _ => id⟩

theorem SenseStep.trans (hst : SenseStep s t) (htu : SenseStep t u) : SenseStep s u where
  seq := htu.seq.trans hst.seq
  clock := htu.clock.trans hst.clock
  grants := List.Subset.trans htu.grants hst.grants
  queue := List.Subset.trans hst.queue htu.queue
  causes c k h := htu.causes c k (hst.causes c k h)
  cutOff c h := htu.cutOff c (hst.cutOff c h)

theorem foldl_senseStep {α : Type} {f : State → α → State} (hf : ∀ t x, SenseStep t (f t x)) (l : List α) (s : State) :
    SenseStep s (l.foldl f s) :=
  List.foldlRecOn (motive := SenseStep s) l f (.refl s) fun t ht x _ => ht.trans (hf t x)

theorem tripped_of_holdsCause {c : Cavity} {k : Cause} (h : s.holdsCause c k) : s.tripped c = true := by
  obtain ⟨r, hr, _⟩ := h
  simp [State.tripped, hr]

/-- A cavity stays cut off where its trip and its relay stay and grants only leave. -/
theorem cutOff_of_same {c : Cavity} (htripped : t.tripped c = s.tripped c) (hrelay : t.relayClosed c = s.relayClosed c)
    (hgrants : t.alloc.grants ⊆ s.alloc.grants) (hs : s.cutOff c) : t.cutOff c := by
  intro h
  obtain ⟨hopen, hnone⟩ := hs (htripped.symm.trans h)
  exact ⟨hrelay.trans hopen, fun e hmem => hnone e (hgrants hmem)⟩

theorem holdsCause_congr {c : Cavity} {k : Cause} (h : t.limit = s.limit) (hs : s.holdsCause c k) : t.holdsCause c k := by
  rwa [State.holdsCause, h]

theorem enqueue_queue_subset (l : Link) (e : EventRecord) : l.queue ⊆ (l.enqueue e).queue := by
  unfold Link.enqueue
  split
  · exact List.subset_append_left ..
  · exact List.Subset.refl _

theorem mem_enqueue {l : Link} (h : l.queue.length < queueLimit) (e : EventRecord) : e ∈ (l.enqueue e).queue := by
  rw [Link.enqueue, if_pos h]
  exact List.mem_append_right _ (List.mem_singleton.mpr rfl)

theorem length_enqueue_le (l : Link) (e : EventRecord) : (l.enqueue e).queue.length ≤ l.queue.length + 1 := by
  unfold Link.enqueue
  split
  · simp [Link.withAttn]
  · simp

theorem setOutput_senseStep (s : State) (i : Fin 12) (o : OutputRecord) : SenseStep s (s.setOutput i o) :=
  ⟨rfl, rfl, List.Subset.refl _, List.Subset.refl _, fun _ _ => id, fun _ => id⟩

theorem queueEvent_senseStep (s : State) (kind : EventKind) (cavity : Option Cavity) (severity : Nat)
    (detail : Option Nat) (additional : Bool) : SenseStep s (s.queueEvent kind cavity severity detail additional) :=
  ⟨rfl, rfl, List.Subset.refl _, enqueue_queue_subset _ _, fun _ _ => id, fun _ => id⟩

theorem dropGrant_grants_subset (s : State) (x : CavityElement) : (s.dropGrant x).alloc.grants ⊆ s.alloc.grants := by
  rw [dropGrant_alloc]
  exact List.filter_sublist.subset

theorem dropGrant_senseStep (s : State) (x : CavityElement) : SenseStep s (s.dropGrant x) where
  seq := by simp
  clock := by simp
  grants := dropGrant_grants_subset s x
  queue := by simp
  causes _ _ := holdsCause_congr (by simp)
  cutOff c := cutOff_of_same (tripped_congr (by simp) c) (relayClosed_congr (dropGrant_relays s x) c)
    (dropGrant_grants_subset s x)

/-- What a first cause or a later one adds to the queue. -/
theorem raise_link (s : State) (c : Cavity) (k : Cause) :
    (s.raise c k).link = s.link ∨ ∃ e, (s.raise c k).link = s.link.enqueue e := by
  rcases raise_cases s c k with h | ⟨_, _, h⟩ | ⟨_, r, _, h⟩ <;> rw [h]
  · exact .inl rfl
  · obtain ⟨hlink, _⟩ := trip_parts s c k
    exact .inr ⟨_, hlink⟩
  · unfold State.laterCause
    split
    · exact .inl rfl
    · exact .inr ⟨_, rfl⟩

/-- A cavity that a cause trips is cut off by it, and no other cavity's standing changes (R104, R162). -/
theorem raise_cutOff (s : State) (c d : Cavity) (k : Cause) (hs : s.cutOff d) : (s.raise c k).cutOff d := by
  by_cases hd : d = c
  · subst hd
    rcases raise_cases s d k with h | ⟨_, _, h⟩ | ⟨_, r, hactive, h⟩ <;> rw [h]
    · exact hs
    · obtain ⟨_, _, hgrants, _⟩ := trip_parts s d k
      exact fun _ => ⟨trip_relayOpen s d k, fun e => by simp [hgrants]⟩
    · intro _
      obtain ⟨hopen, hnone⟩ := hs (by simp [State.tripped, hactive])
      exact ⟨(relayClosed_congr (by simp) d).trans hopen, by simpa using hnone⟩
  · obtain ⟨hrelay, _, htripped⟩ := sameFeed_of_keepsOthers (raise_keepsOthers s c k) hd
    exact cutOff_of_same htripped hrelay (raise_grants_subset s c k) hs

theorem raise_senseStep (s : State) (c : Cavity) (k : Cause) : SenseStep s (s.raise c k) where
  seq := by simp
  clock := by simp
  grants := raise_grants_subset s c k
  queue := by
    rcases raise_link s c k with h | ⟨e, h⟩ <;> rw [h]
    · exact List.Subset.refl _
    · exact enqueue_queue_subset _ e
  causes d j := raise_holdsCause s c d j k
  cutOff d := raise_cutOff s c d k

theorem judge_senseStep (s : State) (j : Judgement) : SenseStep s (s.judge j) := by
  obtain ⟨u, rfl, h⟩ := judge_cases s j
  have hset := setOutput_senseStep s j.output ((s.output j.output).judged j.granted j.current)
  rcases h with h | h | h <;> rw [h]
  · exact hset
  · exact (hset.trans (queueEvent_senseStep _ _ _ _ _ _)).trans (dropGrant_senseStep _ _)
  · exact hset.trans (raise_senseStep _ _ _)

theorem noHeatTest_senseStep (s : State) (c : Cavity) : SenseStep s (noHeatTest s c) := by
  unfold noHeatTest State.raiseIf
  split
  · exact raise_senseStep s c _
  · exact .refl s

/-- Judging an output queues one event at most. -/
theorem judge_queue_length (s : State) (j : Judgement) :
    (s.judge j).link.queue.length ≤ s.link.queue.length + 1 := by
  obtain ⟨u, rfl, h⟩ := judge_cases s j
  rcases h with h | h | h <;> rw [h]
  · exact Nat.le_succ _
  · rw [show ∀ (t : State) x, (t.dropGrant x).link = t.link by simp]
    exact length_enqueue_le _ _
  · rcases raise_link (s.setOutput j.output ((s.output j.output).judged j.granted j.current)) j.cavity .relayStuck with
      h' | ⟨e, h'⟩ <;> rw [h']
    · exact Nat.le_succ _
    · exact length_enqueue_le _ e

theorem foldl_judge_queue_length (l : List Judgement) (s : State) :
    (l.foldl State.judge s).link.queue.length ≤ s.link.queue.length + l.length := by
  induction l generalizing s with
  | nil => exact Nat.le_refl _
  | cons j l ih =>
    have hrest := ih (s.judge j)
    have hone := judge_queue_length s j
    rw [List.foldl_cons, List.length_cons]
    omega

end

/-! ### The place of an output's judgement -/

section
variable {s : State} {loads : BitVec 12} {i : Fin 12} {j : Judgement}

theorem output_of_judgementOf {k : Fin 12} (h : s.judgementOf loads k = some j) : j.output = k := by
  unfold State.judgementOf at h
  split at h
  · cases h
  · dsimp only at h
    split at h
    · cases h
      rfl
    · cases h

theorem ne_of_mem_filterMap {l : List (Fin 12)} (hl : i ∉ l) (h : j ∈ l.filterMap (s.judgementOf loads)) :
    j.output ≠ i := by
  obtain ⟨k, hk, hj⟩ := List.mem_filterMap.mp h
  rw [output_of_judgementOf hj]
  rintro rfl
  exact hl hk

/-- Outputs are judged in rising number, so that at most as many are judged before an output as its number says (R120). -/
theorem judgements_split (h : s.judgementOf loads i = some j) : ∃ before after,
    s.judgements loads = before ++ j :: after ∧ before.length ≤ i.val ∧ (∀ x ∈ before, x.output ≠ i) ∧
      ∀ x ∈ after, x.output ≠ i := by
  have hlength : i.val < (List.finRange 12).length := by simp
  have hsplit : List.finRange 12 = (List.finRange 12).take i ++ i :: (List.finRange 12).drop (i + 1) := by
    conv_lhs => rw [← List.take_append_drop i.val (List.finRange 12), List.drop_eq_getElem_cons hlength]
    simp
  have hnodup := hsplit ▸ List.nodup_finRange 12
  rw [List.nodup_middle, List.nodup_cons, List.mem_append, not_or] at hnodup
  obtain ⟨⟨hbefore, hafter⟩, _⟩ := hnodup
  refine ⟨((List.finRange 12).take i).filterMap (s.judgementOf loads),
    ((List.finRange 12).drop (i + 1)).filterMap (s.judgementOf loads), ?_, ?_, fun x => ne_of_mem_filterMap hbefore,
    fun x => ne_of_mem_filterMap hafter⟩
  · rw [State.judgements, hsplit, List.filterMap_append, List.filterMap_cons_some h, ← hsplit]
  · exact (List.length_filterMap_le ..).trans (List.length_take_le ..)

/-- An output that does not qualify, or is skipped, is not judged. -/
theorem judgements_without (h : s.judgementOf loads i = none) : ∀ x ∈ s.judgements loads, x.output ≠ i := by
  intro x hx
  obtain ⟨k, _, hk⟩ := List.mem_filterMap.mp hx
  rw [output_of_judgementOf hk]
  rintro rfl
  rw [h] at hk
  cases hk

theorem checkSense_senseStep (s : State) (loads : BitVec 12) : SenseStep s (checkSense loads s) := by
  rw [checkSense_eq]
  exact ((foldl_senseStep (fun t j => setOutput_senseStep t _ _) _ s).trans (foldl_senseStep judge_senseStep _ _)).trans
    (foldl_senseStep noHeatTest_senseStep _ _)

/-- The NO_HEAT tests switch outputs alone. -/
theorem noHeatTests_output (s : State) (i : Fin 12) : (Cavity.all.foldl noHeatTest s).outputIs i (s.output i) :=
  List.foldlRecOn (motive := fun t : State => t.outputIs i (s.output i)) Cavity.all noHeatTest rfl
    fun t ht c _ => ht.trans (noHeatTest_output t c i)

/-- A sense check up to an output's judgement, the judgement, and the rest of the check: when the output is judged it
stands as sampled, and at most one event for each lower output has joined the queue (R120). -/
theorem checkSense_judges (h : s.judgementOf loads i = some j) : ∃ u : State,
    SenseStep s u ∧ u.outputIs i ((s.output i).sampled j.current) ∧
    u.link.queue.length ≤ s.link.queue.length + i.val ∧ SenseStep (u.judge j) (checkSense loads s) ∧
    (checkSense loads s).outputIs i ((u.judge j).output i) := by
  obtain ⟨before, after, hsplit, hlength, hbefore, hafter⟩ := judgements_split h
  have hi := output_of_judgementOf h
  have hsampling := foldl_senseStep (fun t j => setOutput_senseStep t _ _ : ∀ t j, SenseStep t (t.sampleLoad j))
    (s.judgements loads) s
  have hsampled : ((s.judgements loads).foldl State.sampleLoad s).outputIs i ((s.output i).sampled j.current) := by
    have hone (t : State) (ht : t.outputIs i (s.output i)) :
        (t.sampleLoad j).outputIs i ((s.output i).sampled j.current) := by
      have hset := sampleLoad_output t j
      rw [hi] at hset
      unfold State.outputIs at *
      rw [hset, ht]
      rfl
    rw [hsplit, List.foldl_append, List.foldl_cons]
    exact (hone _ (foldl_output_other (fun t x => sampleLoad_output_other t x) hbefore s)).trans
      (foldl_output_other (fun t x => sampleLoad_output_other t x) hafter _)
  have hlink : ((s.judgements loads).foldl State.sampleLoad s).link = s.link :=
    foldl_keeps State.sampleLoad (·.link) (fun _ _ => rfl) _ _
  have hcheck : checkSense loads s = Cavity.all.foldl noHeatTest (after.foldl State.judge
      ((before.foldl State.judge ((s.judgements loads).foldl State.sampleLoad s)).judge j)) := by
    rw [checkSense_eq, State.senseJudged, ← List.foldl_cons, ← List.foldl_append, ← hsplit]
  refine ⟨before.foldl State.judge ((s.judgements loads).foldl State.sampleLoad s),
    hsampling.trans (foldl_senseStep judge_senseStep _ _),
    hsampled.trans (foldl_output_other (fun t x => judge_output_other t x) hbefore _), ?_, ?_, ?_⟩
  · have hqueued := foldl_judge_queue_length before ((s.judgements loads).foldl State.sampleLoad s)
    rw [hlink] at hqueued
    omega
  · rw [hcheck]
    exact (foldl_senseStep judge_senseStep _ _).trans (foldl_senseStep noHeatTest_senseStep _ _)
  · rw [hcheck]
    exact (foldl_output_other (fun t x => judge_output_other t x) hafter _).trans (noHeatTests_output _ i)

/-! ### The findings -/

/-- An output that is judged is left sampled and judged, but for its drive (R114, R116). -/
theorem checkSense_output (h : s.judgementOf loads i = some j) :
    (checkSense loads s).outputIs i (((s.output i).sampled j.current).judged j.granted j.current) := by
  obtain ⟨u, _, hsampled, _, _, hrest⟩ := checkSense_judges h
  have hjudged := judge_output u j
  rw [output_of_judgementOf h] at hjudged
  exact judged_of_outputIs hsampled (hjudged.trans hrest)

theorem checkSense_becomes (h : s.judgementOf loads i = some j) {x : OutputRecord}
    (hx : ((s.output i).sampled j.current).judged j.granted j.current = x) : (checkSense loads s).outputIs i x :=
  hx ▸ checkSense_output h

/-- An output that is not judged keeps its record (R114, R115). -/
theorem checkSense_output_unjudged (h : s.judgementOf loads i = none) :
    (checkSense loads s).outputIs i (s.output i) := by
  have hothers := judgements_without h
  rw [checkSense_eq]
  exact ((foldl_output_other (fun t x => sampleLoad_output_other t x) hothers s).trans
    (foldl_output_other (fun t x => judge_output_other t x) hothers _)).trans (noHeatTests_output _ i)

/-- An element found DEAD loses its grant, and its event stands in the queue where there was room (R117). -/
theorem checkSense_dead (h : s.judgementOf loads i = some j) (hgranted : j.granted = true) (hcurrent : j.current = false)
    (hstuck : (s.output i).stuck = false) (hmiss : (s.output i).missCount = 2) (hdead : (s.output i).dead = false) :
    (j.cavity, j.element) ∉ (checkSense loads s).alloc.grants ∧
      (s.link.queue.length + i.val < 24 →
        s.event .elementDead (some j.cavity) 2 (some i.val) false ∈ (checkSense loads s).link.queue) := by
  obtain ⟨u, hu, hsampled, hlength, hrest, _⟩ := checkSense_judges h
  have hi := output_of_judgementOf h
  subst hi
  have hjudge := judge_of_third_miss (s := u) hgranted hcurrent (by rw [hsampled]; exact hstuck)
    (by rw [hsampled]; simp [OutputRecord.sampled, hmiss]) (by rw [hsampled]; exact hdead)
  rw [hjudge] at hrest
  refine ⟨fun hmem => ?_, fun hroom => hrest.queue ?_⟩
  · have hleft := hrest.grants hmem
    rw [dropGrant_alloc] at hleft
    simp at hleft
  · have hevent : s.event .elementDead (some j.cavity) 2 (some j.output.val) false =
        u.event .elementDead (some j.cavity) 2 (some j.output.val) false := by
      rw [State.event, State.event, hu.clock]
    rw [hevent, show ∀ (t : State) x, (t.dropGrant x).link = t.link by simp]
    exact mem_enqueue (show u.link.queue.length < 24 by omega) _

/-- The cavity of an output found STUCK holds RELAY_STUCK, and where it was not tripped is cut off (R118, R162). -/
theorem checkSense_stuck (h : s.judgementOf loads i = some j) (hgranted : j.granted = false) (hcurrent : j.current = true)
    (hstuck : (s.output i).stuck = false) (hcount : (s.output i).stuckCount = 1)
    (hpresent : (s.seq.get j.cavity).state ≠ .absent) :
    (checkSense loads s).holdsCause j.cavity .relayStuck ∧
      (s.tripped j.cavity = false → (checkSense loads s).relayClosed j.cavity = false ∧
        ∀ e, (j.cavity, e) ∉ (checkSense loads s).alloc.grants) := by
  obtain ⟨u, hu, hsampled, _, hrest, _⟩ := checkSense_judges h
  have hi := output_of_judgementOf h
  subst hi
  have hjudge := judge_of_second_stuck (s := u) hgranted hcurrent (by rw [hsampled]; exact hstuck)
    (by rw [hsampled]; simp [OutputRecord.sampled, hcount])
  obtain ⟨hraised, _⟩ := raise_raises
    (u.setOutput j.output { u.output j.output with stuckCount := 2, stuck := true }) j.cavity .relayStuck
    (by simpa [Cause.applies, State.setOutput, hu.seq] using hpresent)
  rw [← hjudge] at hraised
  have hholds := hrest.causes _ _ hraised
  refine ⟨hholds, fun hclear => ?_⟩
  exact (checkSense_senseStep s loads).cutOff _ (fun htripped => absurd htripped (by simp [hclear]))
    (tripped_of_holdsCause hholds)

/-! ### Which outputs are judged -/

section
variable {c : Cavity} {e : Element}

/-- An output whose relay qualifies is judged as its element stands in the list, as at the handover (R114, R115). -/
theorem judgementOf_of_qualifies (howner : (s.output i).owner = some (c, e)) (henabled : s.enabled c = true)
    (hclosed : s.relayClosed c = true) (hsince : (s.drive.relays.get c).sinceSlot = true) {granted : Bool}
    (hhanded : (c, e) ∈ s.drive.handed ↔ granted = true) (hstanding : (c, e) ∈ s.alloc.grants ↔ granted = true) :
    s.judgementOf loads i = some
      { output := i, cavity := c, element := e, granted := granted, current := loads.getLsbD i } := by
  have hhanded' : s.drive.handed.contains (c, e) = granted := by
    rw [Bool.eq_iff_iff, List.contains_iff_mem, hhanded]
  have hstanding' : s.alloc.grants.contains (c, e) = granted := by
    rw [Bool.eq_iff_iff, List.contains_iff_mem, hstanding]
  simp only [State.judgementOf, howner, State.relayQualifies, henabled, hclosed, hsince, hhanded', hstanding']
  simp

/-- An output without an owner, or whose relay does not qualify, or whose element has left or joined the list since the
handover, is not judged (R114, R115). -/
theorem judgementOf_eq_none (h : ∀ c e, (s.output i).owner = some (c, e) →
      s.enabled c = false ∨ s.relayClosed c = false ∨ (s.drive.relays.get c).sinceSlot = false ∨
        ¬ ((c, e) ∈ s.drive.handed ↔ (c, e) ∈ s.alloc.grants)) : s.judgementOf loads i = none := by
  unfold State.judgementOf
  split
  · rfl
  · rename_i c e howner
    dsimp only
    rw [if_neg]
    rcases h c e howner with h | h | h | h
    · simp [State.relayQualifies, h]
    · simp [State.relayQualifies, h]
    · simp [State.relayQualifies, h]
    · have hdiffer : (s.drive.handed.contains (c, e) == s.alloc.grants.contains (c, e)) = false := by
        rw [beq_eq_false_iff_ne, Ne, Bool.eq_iff_iff, List.contains_iff_mem, List.contains_iff_mem]
        exact h
      rw [hdiffer, Bool.and_false]
      exact Bool.false_ne_true

end

end

/-- Settles O49: an output that is judged by its record, its grant and its current, and one that is not. -/
theorem senseCheckFindsFailures : Obligations.SenseCheckFindsFailures := by
  constructor
  · intro s loads i c e howner henabled hclosed hsince
    dsimp only
    have hgranted : (c, e) ∈ s.drive.handed ∧ (c, e) ∈ s.alloc.grants → s.judgementOf loads i =
        some { output := i, cavity := c, element := e, granted := true, current := loads.getLsbD i } :=
      fun ⟨hhanded, hstanding⟩ => judgementOf_of_qualifies howner henabled hclosed hsince
        (iff_of_true hhanded rfl) (iff_of_true hstanding rfl)
    have hungranted : (c, e) ∉ s.drive.handed ∧ (c, e) ∉ s.alloc.grants → s.judgementOf loads i =
        some { output := i, cavity := c, element := e, granted := false, current := loads.getLsbD i } :=
      fun ⟨hhanded, hstanding⟩ => judgementOf_of_qualifies howner henabled hclosed hsince
        (iff_of_false hhanded Bool.false_ne_true) (iff_of_false hstanding Bool.false_ne_true)
    refine ⟨_, rfl, by simp, fun hstuck h => ?_, fun hstuck h hcurrent => ?_, fun hstuck h hcurrent hmiss => ?_,
      fun hstuck h hcurrent hmiss hdead => ⟨?_, checkSense_dead (hgranted h) rfl hcurrent hstuck hmiss hdead⟩,
      fun hstuck h hcurrent => ?_, fun hstuck h hcurrent hcount => ?_,
      fun hstuck h hcurrent hcount hpresent =>
        ⟨?_, checkSense_stuck (hungranted h) rfl hcurrent hstuck hcount hpresent⟩⟩
    · rcases h with h | h
      · exact (checkSense_becomes (hgranted h) (judged_of_stuck (o := (s.output i).sampled _) hstuck) :)
      · exact (checkSense_becomes (hungranted h) (judged_of_stuck (o := (s.output i).sampled _) hstuck) :)
    · exact (checkSense_becomes (hgranted h) (judged_of_fed (o := (s.output i).sampled _) hstuck hcurrent) :)
    · exact (checkSense_becomes (hgranted h) (judged_of_miss (o := (s.output i).sampled _) hstuck hcurrent hmiss) :)
    · exact (checkSense_becomes (hgranted h)
        (judged_of_third_miss (o := (s.output i).sampled _) hstuck hcurrent hmiss) :)
    · exact (checkSense_becomes (hungranted h) (judged_of_quiet (o := (s.output i).sampled _) hstuck hcurrent) :)
    · exact (checkSense_becomes (hungranted h)
        (judged_of_first_current (o := (s.output i).sampled _) hstuck hcurrent hcount) :)
    · exact (checkSense_becomes (hungranted h)
        (judged_of_second_current (o := (s.output i).sampled _) hstuck hcurrent hcount) :)
  · exact fun s loads i => ⟨_, rfl, fun h => checkSense_output_unjudged (judgementOf_eq_none h)⟩

end Sys2Proof.Machine
end

section
/-! PROOF. The standing of the locks (R125, R126, R139): a lock by itself, what the invariant reads of the state, and
the operations of the Door Lock Controllers and the Sequencer that keep it. -/

namespace Sys2Proof.Machine

/-! ### A lock by itself -/

section
variable (l : DoorLock)

theorem engage_sound (owner : LockOwner) : (l.engage owner).sound := by simp [DoorLock.sound, DoorLock.engage]

theorem release_sound : l.release.sound := by simp [DoorLock.sound, DoorLock.release]

theorem restOpen_sound : l.restOpen.sound := by simp [DoorLock.sound, DoorLock.restOpen, DoorLock.rest]

theorem restLocked_sound : (l.rest .locked).sound := by simp [DoorLock.sound, DoorLock.rest]

theorem restJammed_sound : (l.rest .jammed).sound := by simp [DoorLock.sound, DoorLock.rest]

variable {l}

/-- The reversal time is what the travel timer read, which is below 8 s (R126, R129). -/
theorem reverse_sound (hl : l.sound) : l.reverse.sound := by
  obtain ⟨_, htimer, _⟩ := hl
  have hreversal : l.timer.getD 0 < 80 := by
    cases h : l.timer with
    | none => exact Nat.zero_lt_succ 79
    | some n => exact htimer n h
  simpa [DoorLock.sound, DoorLock.reverse] using hreversal

theorem sound_of_owner_none (hl : l.sound) : { l with owner := .none }.sound := by
  obtain ⟨hruns, htimer, hreversal, _⟩ := hl
  exact ⟨hruns, htimer, hreversal, fun _ => rfl⟩

theorem sound_of_reversal_none (hl : l.sound) : { l with reversal := none }.sound := by
  obtain ⟨hruns, htimer, _, howner⟩ := hl
  exact ⟨hruns, htimer, by simp, howner⟩

/-- A travel timer that passes a tenth stops short of 8 s (R126). -/
theorem tick_sound (hl : l.sound) : l.tick.sound := by
  obtain ⟨hruns, htimer, hreversal, howner⟩ := hl
  refine ⟨by simpa [DoorLock.tick, advance] using hruns, fun n hn => ?_, hreversal, howner⟩
  obtain ⟨m, hm, rfl⟩ := Option.map_eq_some_iff.mp hn
  have hbelow := htimer m hm
  unfold travelLimit
  split
  · assumption
  · exact hbelow

theorem powerUp_sound (pins : SwitchPins) : (DoorLock.powerUp pins).sound := by
  cases hlock : pins.lock <;> simp [DoorLock.sound, DoorLock.powerUp, hlock]

end

/-! ### What the invariant reads -/

/-- The invariant for one cavity: its lock is sound, it is enabled exactly while its Sequencer is not ABSENT, and the
lock of an absent cavity is OPEN (R62, R63, R125, R126, R139). -/
def State.lockStands (s : State) (c : Cavity) : Prop :=
  (s.locks.get c).sound ∧ (s.enabled c = true ↔ (s.seq.get c).state ≠ .absent) ∧
    (s.enabled c = false → (s.locks.get c).state = .opened)

theorem locksSound_iff (s : State) : s.locksSound ↔ ∀ c, s.lockStands c := Iff.rfl

/-- The states agree on a cavity's lock, its enable and whether its Sequencer is ABSENT. -/
structure SameLock (s t : State) (c : Cavity) : Prop where
  lock : t.locks.get c = s.locks.get c
  enabled : t.enabled c = s.enabled c
  present : (t.seq.get c).state = .absent ↔ (s.seq.get c).state = .absent

theorem lockStands_of_same {s t : State} {c : Cavity} (h : SameLock s t c) (hs : s.lockStands c) : t.lockStands c := by
  simpa only [State.lockStands, ne_eq, h.lock, h.enabled, h.present] using hs

/-- The locks, the enables and the states of the Sequencers as they were. -/
def SameDoors (s t : State) : Prop :=
  t.locks = s.locks ∧ t.appliance = s.appliance ∧ ∀ c, (t.seq.get c).state = (s.seq.get c).state

theorem setSeq_sameDoors {s : State} {c : Cavity} {q : Sequencer} (hq : q.state = (s.seq.get c).state) :
    SameDoors s (s.setSeq c q) := by
  refine ⟨rfl, rfl, fun d => ?_⟩
  rw [State.setSeq_seq, PerCavity.get_set]
  split
  · rename_i hd
    rw [hd, hq]
  · rfl

/-- A phase that begins leaves its Sequencer in the state that it was in (R43). -/
theorem beginPhase_sameDoors (s : State) (c : Cavity) (entering : Bool) : SameDoors s (s.beginPhase c entering) := by
  refine ⟨by simp, by simp, fun d => ?_⟩
  unfold State.beginPhase
  split
  · rename_i n r _ _
    by_cases hd : d = c <;> cases entering <;> cases r.kind.heats <;> simp [hd]
  · rfl

theorem postRequest_sameDoors (s : State) (c : Cavity) (mode : RegMode) (reading : Option CavityReading) :
    SameDoors s (s.postRequest c mode reading) :=
  setSeq_sameDoors (s := s.postRegulation c _) rfl

theorem countTime_sameDoors (s : State) (c : Cavity) : SameDoors s (s.countTime c) := by
  refine ⟨by simp, by simp, fun d => ?_⟩
  by_cases hd : d = c <;> simp [State.countTime, hd]

theorem countBlind_sameDoors (s : State) (c : Cavity) (reading : CavityReading) :
    SameDoors s (s.countBlind c reading) := by
  unfold State.countBlind
  dsimp only
  split
  · exact ⟨rfl, rfl, fun _ => rfl⟩
  · exact setSeq_sameDoors rfl

namespace State.locksSound

variable {s t : State} {c : Cavity}

theorem of_same (hs : s.locksSound) (h : SameDoors s t) : t.locksSound := by
  obtain ⟨hlocks, happliance, hstate⟩ := h
  exact fun d => lockStands_of_same ⟨by rw [hlocks], enabled_congr happliance d, by rw [hstate]⟩ (hs d)

/-- A step about one cavity keeps the invariant where that cavity's part of it stands. -/
theorem of_keepsOthers (hs : s.locksSound) (h : KeepsOthers s t c) (hc : t.lockStands c) : t.locksSound := by
  obtain ⟨hothers, _, _, _, happliance, _⟩ := h
  intro d
  by_cases hd : d = c
  · exact hd ▸ hc
  · obtain ⟨hseq, _, hlock, _⟩ := hothers d hd
    exact lockStands_of_same ⟨hlock, enabled_congr happliance d, by rw [hseq]⟩ (hs d)

theorem enabled_of_present (hs : s.locksSound) (h : (s.seq.get c).state ≠ .absent) : s.enabled c = true := by
  obtain ⟨_, hpresent, _⟩ := hs c
  exact hpresent.mpr h

/-- A lock that is not OPEN is that of an enabled cavity (R139). -/
theorem enabled_of_not_open (hs : s.locksSound) (h : (s.locks.get c).state ≠ .opened) : s.enabled c = true := by
  obtain ⟨_, _, hopen⟩ := hs c
  by_contra hdisabled
  exact h (hopen (Bool.not_eq_true _ ▸ hdisabled))

theorem setLock (hs : s.locksSound) {l : DoorLock} (hl : l.sound) (hopen : s.enabled c = true ∨ l.state = .opened) :
    (s.setLock c l).locksSound := by
  obtain ⟨_, hpresent, _⟩ := hs c
  refine hs.of_keepsOthers (setLock_keepsOthers s c l) ?_
  rw [State.lockStands, State.setLock_locks, PerCavity.get_set, if_pos rfl]
  refine ⟨hl, hpresent, fun hdisabled => hopen.resolve_left ?_⟩
  rw [show s.enabled c = false from hdisabled]
  exact Bool.false_ne_true

/-- A Sequencer of an enabled cavity may enter any state but ABSENT. -/
theorem setSeq (hs : s.locksSound) (henabled : s.enabled c = true) {q : Sequencer} (hq : q.state ≠ .absent) :
    (s.setSeq c q).locksSound := by
  obtain ⟨hlock, _, hopen⟩ := hs c
  refine hs.of_keepsOthers (setSeq_keepsOthers s c q) ?_
  rw [State.lockStands, State.setSeq_seq, PerCavity.get_set, if_pos rfl]
  exact ⟨hlock, iff_of_true henabled hq, hopen⟩

theorem setSeq_same (hs : s.locksSound) (c : Cavity) {q : Sequencer} (hq : q.state = (s.seq.get c).state) :
    (s.setSeq c q).locksSound :=
  hs.of_same (setSeq_sameDoors hq)

theorem setPins (hs : s.locksSound) (p : SwitchPins) : (s.setPins c p).locksSound :=
  hs.of_same ⟨rfl, rfl, fun _ => rfl⟩

theorem setMail (hs : s.locksSound) (x : Mailbox) : (s.setMail c x).locksSound := hs.of_same ⟨rfl, rfl, fun _ => rfl⟩

theorem setLimit (hs : s.locksSound) (c : Cavity) (x : LimitRecord) : (s.setLimit c x).locksSound :=
  hs.of_same ⟨rfl, rfl, fun _ => rfl⟩

theorem queueEvent (hs : s.locksSound) (kind : EventKind) (cavity : Option Cavity) (severity : Nat)
    (detail : Option Nat) (additional : Bool) : (s.queueEvent kind cavity severity detail additional).locksSound :=
  hs.of_same ⟨rfl, rfl, fun _ => rfl⟩

theorem raise (hs : s.locksSound) (c : Cavity) (k : Cause) : (s.raise c k).locksSound :=
  hs.of_same (by simp [SameDoors])

/-! ### The Door Lock Controllers -/

theorem lockEngaged (hs : s.locksSound) (henabled : s.enabled c = true) (l : DoorLock) :
    (s.lockEngaged c l).locksSound :=
  (hs.setLock (restLocked_sound l) (.inl henabled)).of_same ⟨rfl, rfl, fun _ => rfl⟩

theorem lockReleased (hs : s.locksSound) (l : DoorLock) : (s.lockReleased c l).locksSound :=
  (hs.setLock (restOpen_sound l) (.inr rfl)).of_same ⟨rfl, rfl, fun _ => rfl⟩

theorem lockJammed (hs : s.locksSound) (henabled : s.enabled c = true) (l : DoorLock) (detail : Nat) :
    (s.lockJammed c l detail).locksSound :=
  (((hs.setLock (restJammed_sound l) (.inl henabled)).queueEvent _ _ _ _ _).raise c _).setMail _

theorem lockLost (hs : s.locksSound) (henabled : s.enabled c = true) (l : DoorLock) : (s.lockLost c l).locksSound :=
  ((hs.setLock (restJammed_sound l) (.inl henabled)).raise c _).setMail _

theorem doorChanged (hs : s.locksSound) (henabled : s.enabled c = true) (value : DoorSwitch) :
    (s.doorChanged c value).locksSound := by
  obtain ⟨hlock, _⟩ := hs c
  have hrecorded : { s.locks.get c with door := value }.sound := hlock
  have hset := hs.setLock hrecorded (.inl henabled)
  unfold State.doorChanged
  dsimp only
  split
  · exact (hs.setLock (reverse_sound hrecorded) (.inl henabled)).setMail _
  · exact hset.raise c _
  · exact hset

theorem changeDoor (hs : s.locksSound) (value : DoorSwitch) : (changeDoor c value s).locksSound := by
  have hread := hs.setPins (c := c) { s.pins.get c with door := value }
  unfold Machine.changeDoor
  dsimp only
  split
  · rename_i hwatched
    rw [Bool.and_eq_true] at hwatched
    obtain ⟨henabled, _⟩ := hwatched
    exact hread.doorChanged henabled value
  · exact hread

theorem lockSwitchChanged (hs : s.locksSound) (henabled : s.enabled c = true) (value : LockSwitch) :
    (s.lockSwitchChanged c value).locksSound := by
  obtain ⟨hlock, _⟩ := hs c
  have hrecorded : { s.locks.get c with switch := value }.sound := hlock
  unfold State.lockSwitchChanged
  dsimp only
  split
  · exact hs.lockEngaged henabled _
  · exact hs.lockReleased _
  · exact hs.setLock (sound_of_reversal_none hrecorded) (.inl henabled)
  · exact hs.lockLost henabled _
  · exact hs.lockLost henabled _
  · exact hs.setLock hrecorded (.inl henabled)

theorem changeLockSwitch (hs : s.locksSound) (value : LockSwitch) : (changeLockSwitch c value s).locksSound := by
  have hread := hs.setPins (c := c) { s.pins.get c with lock := value }
  unfold Machine.changeLockSwitch
  dsimp only
  split
  · rename_i hwatched
    rw [Bool.and_eq_true] at hwatched
    obtain ⟨henabled, _⟩ := hwatched
    exact hread.lockSwitchChanged henabled value
  · exact hread

theorem engageTimeout (hs : s.locksSound) : (engageTimeout c s).locksSound := by
  unfold Machine.engageTimeout
  split
  · rename_i hengaging
    exact hs.lockJammed (hs.enabled_of_not_open (by simp [hengaging])) _ 1
  · exact hs

theorem releaseTimeout (hs : s.locksSound) : (releaseTimeout c s).locksSound := by
  unfold Machine.releaseTimeout
  split
  · rename_i hreleasing
    exact hs.lockJammed (hs.enabled_of_not_open (by simp [hreleasing])) _ 2
  · exact hs

theorem reversalReached (hs : s.locksSound) : (reversalReached c s).locksSound := by
  unfold Machine.reversalReached
  dsimp only
  split
  · exact hs.lockReleased _
  · exact hs

/-! ### The Sequencer -/

/-- A jammed lock given up keeps its state and loses its owner (R57, R132). -/
theorem giveUpLock (hs : s.locksSound) (henabled : s.enabled c = true) : (s.giveUpLock c).locksSound := by
  obtain ⟨hlock, _⟩ := hs c
  exact (hs.setSeq henabled (by simp)).setLock (sound_of_owner_none hlock) (.inl henabled)

theorem settlingTest (hs : s.locksSound) (henabled : s.enabled c = true) : (s.settlingTest c).locksSound := by
  rcases settlingTest_cases s c with h | h | ⟨_, _, h⟩ | ⟨_, h⟩ <;> rw [h]
  · exact hs
  · exact hs.setSeq henabled (leave_state_ne_absent _)
  · exact hs.giveUpLock henabled
  · exact hs.setSeq henabled (leave_state_ne_absent _)

/-- A cycle that ends leaves its Sequencer in SETTLING for the settling test (R52). -/
theorem endCycle (hs : s.locksSound) (henabled : s.enabled c = true) (outcome : CycleOutcome)
    (reason : Option AbortReason) (reading : Option CavityReading) :
    (s.endCycle c outcome reason reading).locksSound := by
  have hothers := cycleClosed_keepsOthers s c outcome reason reading
  obtain ⟨hseq, hlocks⟩ := cycleClosed_seq_locks s c outcome reason reading
  obtain ⟨_, _, _, _, happliance, _⟩ := id hothers
  have henabled' : (s.cycleClosed c outcome reason reading).enabled c = true :=
    (enabled_congr happliance c).trans henabled
  obtain ⟨hlock, _⟩ := hs c
  have hclosed : (s.cycleClosed c outcome reason reading).locksSound := by
    refine hs.of_keepsOthers hothers ⟨hlocks.symm ▸ hlock, iff_of_true henabled' (by simp [hseq]), fun hdisabled => ?_⟩
    simp [henabled'] at hdisabled
  exact hclosed.settlingTest henabled'

theorem beginPhase (hs : s.locksSound) (c : Cavity) (entering : Bool) : (s.beginPhase c entering).locksSound :=
  hs.of_same (beginPhase_sameDoors s c entering)

theorem enterRunning (hs : s.locksSound) (henabled : s.enabled c = true) : (s.enterRunning c).locksSound :=
  (hs.setSeq henabled (by simp)).beginPhase c true

theorem endPhase (hs : s.locksSound) (henabled : s.enabled c = true) (reading : Option CavityReading) :
    (s.endPhase c reading).locksSound := by
  unfold State.endPhase
  dsimp only
  split
  · split
    · exact (hs.setSeq_same c (by rfl)).endCycle henabled _ _ _
    · exact (hs.setSeq_same c (by rfl)).beginPhase c false
  · exact hs

theorem limitReached (hs : s.locksSound) (henabled : s.enabled c = true) (r : PhaseRecord) (reading : CavityReading) :
    (s.limitReached c r reading).locksSound := by
  unfold State.limitReached
  dsimp only
  split
  · exact (hs.queueEvent _ _ _ _ _).endPhase henabled _
  · exact (hs.queueEvent _ _ _ _ _).endCycle henabled _ _ _

theorem phaseTests (hs : s.locksSound) (henabled : s.enabled c = true) (reading : CavityReading) :
    (s.phaseTests c reading).locksSound := by
  unfold State.phaseTests
  split
  · exact hs
  · rename_i r _
    obtain ⟨hstate, _⟩ := progress_standing (s.seq.get c) r (s.profiles.get c).soakBand reading
    have hprogressed := hs.setSeq_same c hstate
    dsimp only
    split_ifs
    · exact hprogressed.endPhase henabled _
    · exact hprogressed.limitReached henabled r _
    · exact hprogressed

theorem runningReading (hs : s.locksSound) (henabled : s.enabled c = true) (reading : CavityReading) :
    (s.runningReading c reading).locksSound := by
  have htested := (hs.of_same (countTime_sameDoors s c)).phaseTests (c := c)
    ((enabled_congr (by simp) c).trans henabled) reading
  unfold State.runningReading
  dsimp only
  split
  · exact htested.of_same (postRequest_sameDoors _ c _ _)
  · exact htested

/-- The release order goes to a LOCKED lock alone (R55, R132). -/
theorem releaseTest (hs : s.locksSound) (henabled : s.enabled c = true) (reading : CavityReading) :
    (s.releaseTest c reading).locksSound := by
  unfold State.releaseTest
  split
  · exact hs.setLock (release_sound _) (.inl henabled)
  · exact hs

theorem settlingReading (hs : s.locksSound) (henabled : s.enabled c = true) (reading : CavityReading) :
    (s.settlingReading c reading).locksSound := by
  have hcounted := hs.of_same (countBlind_sameDoors s c reading)
  have henabled' : (s.countBlind c reading).enabled c = true := (enabled_congr (by simp) c).trans henabled
  exact (hcounted.releaseTest henabled' reading).settlingTest ((enabled_congr (by simp) c).trans henabled')

theorem sequenceReading (hs : s.locksSound) (c : Cavity) (reading : CavityReading) :
    (s.sequenceReading c reading).locksSound := by
  unfold State.sequenceReading
  split <;> rename_i hstate
  case h_1 => exact hs.runningReading (hs.enabled_of_present (by simp [hstate])) reading
  case h_2 | h_3 => exact hs.settlingReading (hs.enabled_of_present (by simp [hstate])) reading
  case h_4 => exact hs.of_same (countBlind_sameDoors s c reading)
  all_goals exact hs

theorem takeSequencerReading (hs : s.locksSound) (c : Cavity) : (takeSequencerReading c s).locksSound := by
  unfold Machine.takeSequencerReading
  split
  · exact hs
  · exact (hs.setMail _).sequenceReading c _

theorem heatCompleted (hs : s.locksSound) (c : Cavity) (position : Nat) : (s.heatCompleted c position).locksSound := by
  unfold State.heatCompleted
  dsimp only
  split
  · rename_i hheating
    obtain ⟨hrunning, _⟩ := hheating
    exact hs.endPhase (hs.enabled_of_present (by simp [hrunning])) none
  · exact hs

theorem takeHeatComplete (hs : s.locksSound) (c : Cavity) : (takeHeatComplete c s).locksSound := by
  unfold Machine.takeHeatComplete
  split
  · exact hs
  · exact (hs.setMail _).heatCompleted c _

theorem lockNoticed (hs : s.locksSound) (c : Cavity) (n : LockNotice) : (s.lockNoticed c n).locksSound := by
  unfold State.lockNoticed
  split
  case h_1 h => exact hs.enterRunning (hs.enabled_of_present (by simp [h]))
  case h_2 h => exact hs.endCycle (hs.enabled_of_present (by simp [h])) _ _ none
  case h_3 h | h_4 h => exact hs.settlingTest (hs.enabled_of_present (by simp [h]))
  case h_5 => exact hs

theorem takeLockNotice (hs : s.locksSound) (c : Cavity) : (takeLockNotice c s).locksSound := by
  unfold Machine.takeLockNotice
  split
  · exact hs
  · exact (hs.setMail _).lockNoticed c _

theorem tripNoticed (hs : s.locksSound) (c : Cavity) : (s.tripNoticed c).locksSound := by
  unfold State.tripNoticed
  dsimp only
  split <;> rename_i hstate
  case h_1 | h_2 => exact hs.endCycle (hs.enabled_of_present (by simp [hstate])) _ _ none
  case h_3 => exact (hs.setSeq_same c (by rfl)).settlingTest (hs.enabled_of_present (c := c) (by simp [hstate]))
  case h_4 => exact hs.setSeq_same c (by rfl)
  case h_5 => exact hs.setSeq (hs.enabled_of_present (by simp [hstate])) (by simp)
  case h_6 | h_7 => exact hs

theorem takeTripNotice (hs : s.locksSound) (c : Cavity) : (takeTripNotice c s).locksSound := by
  unfold Machine.takeTripNotice
  split
  · exact hs
  · exact (hs.setMail _).tripNoticed c

/-- The start of a locked chain orders the engagement of an enabled cavity's lock (R40, R127). -/
theorem acceptStart (hs : s.locksSound) (henabled : s.enabled c = true) (walked : List Nat) (locks : Bool) :
    (s.acceptStart c walked locks).locksSound := by
  unfold State.acceptStart
  dsimp only
  split
  · exact (hs.setSeq henabled (by simp)).setLock (engage_sound _ .cycle) (.inl henabled)
  · exact (hs.setSeq henabled (by simp [Sequencer.fresh])).enterRunning henabled

theorem clearTrip (hs : s.locksSound) (henabled : s.enabled c = true) : (s.clearTrip c).locksSound := by
  unfold State.clearTrip
  dsimp only
  split
  · exact (((hs.setMail _).setLimit c _).setSeq (c := c) henabled (by simp)).queueEvent _ _ _ _ _
  · exact (hs.setMail _).setSeq henabled (by simp)

end State.locksSound

end Sys2Proof.Machine
end

section
/-! PROOF. The profiles, the requests and power-up keep the standing of the locks (R125, R126, R139), and with them
every step does. -/

namespace Sys2Proof.Machine

/-! ### Profiles -/

section
variable (s : State) (c : Cavity)

theorem disableCavity_locks : (disableCavity s c).locks = s.locks.set c (s.locks.get c).restOpen := by
  simp [disableCavity, State.disableLock]

/-- The lock of a cavity that is enabled: OPEN, or jammed where its switch reads LOCKED, without an owner (R139). -/
def State.lockEnabled (s : State) (c : Cavity) : DoorLock :=
  let p := s.pins.get c
  { (s.locks.get c).restOpen with
    door := p.door, switch := p.lock, state := if p.lock = .locked then .jammed else .opened }

theorem enableCavity_locks : (enableCavity s c).locks = s.locks.set c (s.lockEnabled c) := by
  cases hlock : (s.pins.get c).lock <;>
    simp [enableCavity, State.enableLock, State.lockEnabled, hlock, DoorLock.restOpen, DoorLock.rest]

theorem lockEnabled_sound : (s.lockEnabled c).sound := by
  cases hlock : (s.pins.get c).lock <;>
    simp [DoorLock.sound, State.lockEnabled, hlock, DoorLock.restOpen, DoorLock.rest]

theorem disableCavity_sameLock {d : Cavity} (hd : d ≠ c) : SameLock s (disableCavity s c) d :=
  have hring := disableCavity_sameRing s c hd
  ⟨by simp [disableCavity_locks, hd], hring.enabled, hring.present⟩

theorem enableCavity_sameLock {d : Cavity} (hd : d ≠ c) : SameLock s (enableCavity s c) d :=
  have hring := enableCavity_sameRing s c hd
  ⟨by simp [enableCavity_locks, hd], hring.enabled, hring.present⟩

/-- The lock of a cavity that is disabled stays OPEN (R139). -/
theorem disableCavity_lockStands (h : s.enabled c = false) : (disableCavity s c).lockStands c := by
  have hdisabled : (disableCavity s c).enabled c = false := (enabled_congr (by simp) c).trans h
  have hlock : (disableCavity s c).locks.get c = (s.locks.get c).restOpen := by simp [disableCavity_locks]
  rw [State.lockStands, hlock]
  exact ⟨restOpen_sound _, by simp [hdisabled, disableCavity_seq, Sequencer.fresh], fun _ => rfl⟩

theorem enableCavity_lockStands (h : s.enabled c = true) : (enableCavity s c).lockStands c := by
  have henabled : (enableCavity s c).enabled c = true := (enabled_congr (by simp) c).trans h
  have hlock : (enableCavity s c).locks.get c = s.lockEnabled c := by simp [enableCavity_locks]
  rw [State.lockStands, hlock]
  exact ⟨lockEnabled_sound s c, iff_of_true henabled (by simp [enableCavity_eq, Sequencer.fresh]), by simp [henabled]⟩

end

/-- A fold over cavities whose step brings about a property at its own cavity and keeps it at every other. -/
theorem foldl_establishes {f : State → Cavity → State} {P Q : State → Prop} {c : Cavity}
    (hkept : ∀ t d, Q t → Q (f t d)) (hother : ∀ t d, c ≠ d → P t → P (f t d)) (hself : ∀ t, Q t → P (f t c))
    {l : List Cavity} {t : State} (hl : c ∈ l → Q t) (h : c ∈ l ∨ P t) : P (l.foldl f t) := by
  induction l generalizing t with
  | nil => exact h.resolve_left (by simp)
  | cons d l ih =>
    refine ih (fun hc => hkept t d (hl (.tail d hc))) ?_
    by_cases hd : c = d
    · exact .inr (hd ▸ hself t (hl (hd ▸ .head l)))
    · exact h.imp (fun hc => (List.mem_cons.mp hc).resolve_left hd) (hother t d hd)

section
variable {s : State} {a : ApplianceProfile}

theorem enabled_of_unlisted {c : Cavity} (hoff : c ∉ s.disabledBy a) (hon : c ∉ s.enabledBy a) :
    a.enabled.get c = s.enabled c := by
  rw [mem_disabledBy] at hoff
  rw [mem_enabledBy] at hon
  cases h : a.enabled.get c <;> cases h' : s.enabled c <;> simp_all

/-- Every cavity whose enable the profile changes has its lock set anew, and every other keeps it (R190). -/
theorem applianceSet_locksSound (hs : s.locksSound) : (s.applianceSet a).locksSound := by
  intro c
  have hdisabled : c ∈ s.enabledBy a ∨ (s.applianceDisabled a).lockStands c := by
    by_cases hon : c ∈ s.enabledBy a
    · exact .inl hon
    · refine .inr (foldl_establishes (P := (·.lockStands c)) (Q := (·.enabled c = false))
        (fun t d ht => (enabled_congr (by simp) c).trans ht)
        (fun t d hd => lockStands_of_same (disableCavity_sameLock t d hd)) (fun t => disableCavity_lockStands t c)
        (fun hoff => ?_) ?_)
      · obtain ⟨_, hoff⟩ := mem_disabledBy.mp hoff
        exact hoff
      · by_cases hoff : c ∈ s.disabledBy a
        · exact .inl hoff
        · exact .inr (lockStands_of_same (s := s) ⟨rfl, enabled_of_unlisted hoff hon, Iff.rfl⟩ (hs c))
  refine foldl_establishes (P := (·.lockStands c)) (Q := (·.enabled c = true))
    (fun t d ht => (enabled_congr (by simp) c).trans ht)
    (fun t d hd => lockStands_of_same (enableCavity_sameLock t d hd)) (fun t => enableCavity_lockStands t c)
    (fun hon => ?_) hdisabled
  obtain ⟨_, hon⟩ := mem_enabledBy.mp hon
  rw [State.enabled, applianceDisabled_appliance]
  exact hon

theorem acceptAppliance_locksSound (hs : s.locksSound) (a : ApplianceProfile) : (s.acceptAppliance a).locksSound := by
  have hset := applianceSet_locksSound (a := a) hs
  rw [acceptAppliance_eq]
  split
  · exact hset
  · exact hset.of_same (by simp [SameDoors])

theorem acceptProfile_sameDoors (s : State) (c : Cavity) (x : CavityProfile) : SameDoors s (s.acceptProfile c x) := by
  refine ⟨by simp, by simp, fun d => ?_⟩
  by_cases hd : d = c <;> simp [State.acceptProfile, hd]

end

/-! ### Requests -/

/-- A request that touches no lock, no enable and no Sequencer's state keeps the invariant. -/
theorem ownerKeeps_of_sameDoors {f : Owner} (h : ∀ p s, SameDoors s (f p s).1) : OwnerKeeps State.locksSound f :=
  fun p s hs => hs.of_same (h p s)

theorem setAttention_sameDoors (p : List Byte) (s : State) : SameDoors s (setAttention p s).1 := by
  unfold setAttention
  dsimp only
  split <;> exact ⟨rfl, rfl, fun _ => rfl⟩

theorem setFanFloor_sameDoors (p : List Byte) (s : State) : SameDoors s (setFanFloor p s).1 := by
  unfold setFanFloor
  dsimp only
  split <;> exact ⟨rfl, rfl, fun _ => rfl⟩

theorem setSupply_sameDoors (p : List Byte) (s : State) : SameDoors s (setSupply p s).1 := by
  unfold setSupply
  split <;> simp [SameDoors, State.budgetReply]

theorem declareLoad_sameDoors (p : List Byte) (s : State) : SameDoors s (declareLoad p s).1 := by
  unfold declareLoad
  split <;> simp [SameDoors, State.budgetReply]

theorem writePhase_sameDoors (p : List Byte) (s : State) : SameDoors s (writePhase p s).1 := by
  unfold writePhase
  dsimp only
  split
  · exact ⟨rfl, rfl, fun _ => rfl⟩
  · split
    · exact ⟨rfl, rfl, fun _ => rfl⟩
    · split <;> exact ⟨rfl, rfl, fun _ => rfl⟩

theorem erasePhase_sameDoors (p : List Byte) (s : State) : SameDoors s (erasePhase p s).1 := by
  unfold erasePhase
  dsimp only
  split
  · exact ⟨rfl, rfl, fun _ => rfl⟩
  · split <;> exact ⟨rfl, rfl, fun _ => rfl⟩

theorem finishStart_locksSound {s : State} {c : Cavity} (hs : s.locksSound) (hidle : (s.seq.get c).state = .idle)
    (table : Nat → Option PhaseRecord) (chain : Except (Nat × ChainCheck) (List Nat)) {write : State → State}
    (hwrite : SameDoors s (write s)) : (s.finishStart c table chain write).1.locksSound := by
  have hwritten := hs.of_same hwrite
  obtain ⟨_, _, hstate⟩ := hwrite
  unfold State.finishStart
  split
  · exact hs
  · split
    · exact hs
    · exact hwritten.acceptStart (hwritten.enabled_of_present (by simp [hstate, hidle])) _ _

theorem startCycle_keepsLocks : OwnerKeeps State.locksSound startCycle :=
  ownerKeeps_ofCavity fun c p s hs => by
    dsimp only
    split
    · exact hs
    · rename_i hrefusal
      split
      · exact hs
      · exact finishStart_locksSound hs (idle_of_startRefusal hrefusal) _ _ ⟨rfl, rfl, fun _ => rfl⟩

theorem startInline_keepsLocks : OwnerKeeps State.locksSound startInline :=
  ownerKeeps_ofCavity fun c p s hs => by
    dsimp only
    split
    · exact hs
    · rename_i hrefusal
      split
      · exact hs
      · exact finishStart_locksSound hs (idle_of_startRefusal hrefusal) _ _ ⟨rfl, rfl, fun _ => rfl⟩

theorem abortCycle_keepsLocks : OwnerKeeps State.locksSound abortCycle :=
  ownerKeeps_ofCavity fun c p s hs => by
    split <;> rename_i hstate
    case h_1 | h_2 => exact hs.endCycle (hs.enabled_of_present (by simp [hstate])) _ _ none
    case h_3 => exact hs

/-- LOCK DOOR begins an engagement only for an IDLE Sequencer, which is not ABSENT (R136). -/
theorem lockDoor_keepsLocks : OwnerKeeps State.locksSound lockDoor :=
  ownerKeeps_ofCavity fun c p s hs => by
    dsimp only
    split
    · exact hs
    · rename_i hidle
      split
      case h_5 =>
        split
        · exact hs
        · exact hs.setLock (engage_sound _ .request)
            (.inl (hs.enabled_of_present (by simp [Decidable.not_not.mp hidle])))
      all_goals exact hs

/-- UNLOCK DOOR begins a release only of a lock that is not OPEN, which is an enabled cavity's (R137, R139). -/
theorem unlockDoor_keepsLocks : OwnerKeeps State.locksSound unlockDoor :=
  ownerKeeps_ofCavity fun c p s hs => by
    dsimp only
    split
    · exact hs
    · split
      case h_4 _ hclosed =>
        split_ifs
        · exact hs
        · exact hs.lockReleased _
        · exact hs.setLock (release_sound _) (.inl (hs.enabled_of_not_open hclosed))
      all_goals exact hs

theorem applianceProfile_keepsLocks : OwnerKeeps State.locksSound applianceProfile := by
  intro p s hs
  unfold applianceProfile
  split
  · exact hs
  · exact acceptAppliance_locksSound hs _

theorem cavityProfile_keepsLocks : OwnerKeeps State.locksSound cavityProfile :=
  ownerKeeps_ofCavity fun c p s hs => by
    split
    · exact hs
    · exact hs.of_same (acceptProfile_sameDoors s c _)

theorem faulted_of_clearRefusal {s : State} {c : Cavity} (h : s.clearRefusal c = none) :
    (s.seq.get c).state = .faulted := by
  by_contra hstate
  simp [State.clearRefusal, hstate] at h

theorem clearTrip_keepsLocks : OwnerKeeps State.locksSound clearTrip :=
  ownerKeeps_ofCavity fun c p s hs => by
    split
    · exact hs
    · rename_i hrefusal
      exact hs.clearTrip (hs.enabled_of_present (by simp [faulted_of_clearRefusal hrefusal]))

theorem ownerOf_keepsLocks (before : LinkState) (k : RequestKind) :
    OwnerKeeps State.locksSound (ownerOf before k) := by
  cases k with
  | identify | readStatus | readSensor => exact ownerKeeps_of_reads fun _ _ => rfl
  | readTrip => exact ownerKeeps_ofCavity fun _ => ownerKeeps_of_reads fun _ _ => rfl
  | readEvents => exact ownerKeeps_of_reads readEvents_reads
  | readPhase => exact ownerKeeps_of_reads readPhase_reads
  | readProfile => exact ownerKeeps_of_reads readProfile_reads
  | setAttention => exact ownerKeeps_of_sameDoors setAttention_sameDoors
  | setFanFloor => exact ownerKeeps_of_sameDoors setFanFloor_sameDoors
  | setSupply => exact ownerKeeps_of_sameDoors setSupply_sameDoors
  | declareLoad => exact ownerKeeps_of_sameDoors declareLoad_sameDoors
  | writePhase => exact ownerKeeps_of_sameDoors writePhase_sameDoors
  | erasePhase => exact ownerKeeps_of_sameDoors erasePhase_sameDoors
  | startCycle => exact startCycle_keepsLocks
  | startInline => exact startInline_keepsLocks
  | abortCycle => exact abortCycle_keepsLocks
  | lockDoor => exact lockDoor_keepsLocks
  | unlockDoor => exact unlockDoor_keepsLocks
  | applianceProfile => exact applianceProfile_keepsLocks
  | cavityProfile => exact cavityProfile_keepsLocks
  | clearTrip => exact clearTrip_keepsLocks

theorem framesKeep_locksSound : FramesKeep State.locksSound where
  heard _ hs := hs.of_same (by simp [SameDoors])
  answer _ _ _ _ _ hs := hs.of_same (by simp [SameDoors])
  receiver _ _ hs := hs.of_same ⟨rfl, rfl, fun _ => rfl⟩
  owner := ownerOf_keepsLocks

/-! ### Power-up -/

/-- At power-up every cavity is enabled, and its lock is LOCKED or OPEN as its switch reads (R141). -/
theorem poweredUp_locksSound (s : State) (pins : PowerUpPins) : (s.poweredUp pins).locksSound := by
  intro c
  have henabled : (s.poweredUp pins).enabled c = true := by cases c <;> rfl
  refine ⟨?_, iff_of_true henabled (by simp [State.poweredUp, State.reset, Sequencer.fresh]), by simp [henabled]⟩
  simpa [State.poweredUp] using powerUp_sound (pins.cavity.get c)

theorem powerUp_locksSound (s : State) (pins : PowerUpPins) : (powerUp pins s).locksSound := by
  refine List.foldlRecOn Cavity.all recoverCavity (poweredUp_locksSound s pins) fun t ht c _ => ?_
  unfold recoverCavity
  dsimp only
  split
  · rename_i hlocked
    have hrecovering := ht.setSeq (ht.enabled_of_not_open (c := c) (by simp [hlocked])) (q := Sequencer.recovering)
      (by simp [Sequencer.recovering, Sequencer.fresh])
    exact hrecovering.of_same (by simp [SameDoors])
  · exact ht

/-! ### Every command -/

theorem exec_locksSound {s t : State} {i : Instr} (hs : s.locksSound) (h : exec i s = .next t) : t.locksSound := by
  cases i <;> cases h
  case powerUp pins => exact powerUp_locksSound s pins
  case sequencerCavityReading c => exact hs.takeSequencerReading c
  case heatCompleteNotice c => exact hs.takeHeatComplete c
  case lockNotice c => exact hs.takeLockNotice c
  case tripNotice c => exact hs.takeTripNotice c
  case doorChange c value => exact hs.changeDoor value
  case lockSwitchChange c value => exact hs.changeLockSwitch value
  case engageTravelTimeout c => exact hs.engageTimeout
  case releaseTravelTimeout c => exact hs.releaseTimeout
  case reversalTimeReached c => exact hs.reversalReached
  case frameDiscarded chars | frameForOtherNode chars => exact framesKeep_locksSound.takeChars hs chars
  case unknownKind h code p | frameWhileReplyOwed h code p => exact framesKeep_locksSound.takeFrame hs h _ p
  case applianceProfile h p pins =>
    have hread : ({ s with pins := pins } : State).locksSound := hs.of_same ⟨rfl, rfl, fun _ => rfl⟩
    exact framesKeep_locksSound.takeRequest hread s.link.state .applianceProfile h p
  case sampleInstant | wholeSecondReading | regulateRequest | offRequest | slotEvent | grantWithdrawNotice |
      senseCheck | cutoutChange | supervisorCavityReading | supervisorBoardReading | supplyRelayClosed |
      fanCavityReading | fanBoardReading | fanEvaluation | characterGapTimeout | replyComplete | quietTimeout |
      lineBreak | tachPulse | lineReturnHigh =>
    exact hs.of_same (by simp [SameDoors])
  all_goals exact framesKeep_locksSound.takeRequest hs s.link.state _ _ _

/-- A tenth of a second moves the travel timers alone (R126). -/
theorem tick_locksSound {s : State} (hs : s.locksSound) : s.tick.locksSound := by
  intro c
  obtain ⟨hlock, hpresent, hopen⟩ := hs c
  have hticked : s.tick.locks.get c = (s.locks.get c).tick := PerCavity.get_map _ _ c
  exact ⟨hticked ▸ tick_sound hlock, hpresent, fun h => hticked ▸ hopen h⟩

/-- Settles O12, by the command at the front of the queue, or the tenth of a second that passes. -/
theorem locksStaySound : Obligations.LocksStaySound := by
  intro s t hs h
  unfold step at h
  split at h
  · rename_i i rest _
    have htaken : ({ s with pending := rest } : State).locksSound := hs.of_same ⟨rfl, rfl, fun _ => rfl⟩
    exact exec_locksSound htaken h
  · cases h
    exact tick_locksSound hs

end Sys2Proof.Machine
end

section
/-! PROOF. The passing of a tenth of a second (R126, R140, R178, R184). -/

namespace Sys2Proof.Machine

/-- The clock within a second, and at its end while uptime is not at its last value. -/
theorem nextClock_within {s : State} (h : s.clock.tenths < 9) :
    s.nextClock = ⟨s.clock.uptime, s.clock.tenths + 1⟩ :=
  if_pos (by omega)

theorem nextClock_second {s : State} (h : s.clock.tenths = 9) (huptime : s.clock.uptime + 1 < 2 ^ 32) :
    s.nextClock = ⟨s.clock.uptime + 1, 0⟩ := by
  have hcount : s.nextCount s.clock.uptime = s.clock.uptime + 1 := if_pos huptime
  rw [State.nextClock, if_neg (by omega), hcount]

/-- A timer moves on until it stands one tenth short of its limit. -/
theorem advance_succ (limit : Nat) (t : Option Nat) :
    advance (limit + 1) t = t.map fun n => if n < limit then n + 1 else n := by
  simp only [advance, Nat.add_lt_add_iff_right]

/-- Settles O2: the tick, field by field. -/
theorem emptyQueuePassesTenth : Obligations.EmptyQueuePassesTenth := by
  intro s hempty
  refine ⟨s.tick, by rw [step, hempty], nextClock_within, nextClock_second, fun c => ?_, ?_, rfl⟩
  · rw [← advance_succ 79]
    exact PerCavity.get_map _ _ c
  · rw [← advance_succ 49]
    rfl

end Sys2Proof.Machine
end

section
/-! PROOF. What raising a cause leaves alone and queues (R104, R157, R162, R163), for the causes that the Door Lock
Controllers raise. -/

namespace Sys2Proof.Machine

/-! ### What raising a cause leaves alone -/

section
variable {s t u : State} {c : Cavity}

theorem RaisesOnly.refl (s : State) (c : Cavity) : RaisesOnly s s c :=
  ⟨rfl, fun _ _ => ⟨rfl, rfl, rfl, rfl⟩, rfl, rfl, rfl, rfl, rfl, rfl⟩

theorem RaisesOnly.trans (hst : RaisesOnly s t c) (htu : RaisesOnly t u c) : RaisesOnly s u c := by
  obtain ⟨hstate, hothers, halloc, hlink, hboard, hsupervisor, hfan, hhanded⟩ := hst
  obtain ⟨hstate', hothers', halloc', hlink', hboard', hsupervisor', hfan', hhanded'⟩ := htu
  refine ⟨?_, fun d hd => ?_, ?_, ?_, hboard'.trans hboard, hsupervisor'.trans hsupervisor, hfan'.trans hfan,
    hhanded'.trans hhanded⟩
  · exact (congrArg (fun x : State => { x with
      limit := s.limit, drive := s.drive, alloc := s.alloc, link := s.link, mail := s.mail }) hstate').trans hstate
  · obtain ⟨hlimit, hrelay, hrequests, hbox⟩ := hothers d hd
    obtain ⟨hlimit', hrelay', hrequests', hbox'⟩ := hothers' d hd
    exact ⟨hlimit'.trans hlimit, hrelay'.trans hrelay, hrequests'.trans hrequests, hbox'.trans hbox⟩
  · exact (congrArg (fun x : Allocator => { x with grants := s.alloc.grants, requests := s.alloc.requests })
      halloc').trans halloc
  · exact (congrArg (fun x : Link => { x with
      queue := s.link.queue, overflow := s.link.overflow, owed := s.link.owed, attn := s.link.attn }) hlink').trans
      hlink

end

/-- An event that joins the queue changes the queue and what follows from it alone (R180 to R182). -/
theorem enqueue_outside (l : Link) (e : EventRecord) :
    { l.enqueue e with queue := l.queue, overflow := l.overflow, owed := l.owed, attn := l.attn } = l := by
  unfold Link.enqueue
  split <;> rfl

section
variable (s : State) (c : Cavity)

theorem queueEvent_raisesOnly (kind : EventKind) (cavity : Option Cavity) (severity : Nat) (detail : Option Nat)
    (additional : Bool) : RaisesOnly s (s.queueEvent kind cavity severity detail additional) c :=
  ⟨rfl, fun _ _ => ⟨rfl, rfl, rfl, rfl⟩, rfl, enqueue_outside _ _, rfl, rfl, rfl, rfl⟩

theorem setLimit_raisesOnly (l : LimitRecord) : RaisesOnly s (s.setLimit c l) c :=
  ⟨rfl, fun _ hd => ⟨by simp [hd], rfl, rfl, rfl⟩, rfl, rfl, rfl, rfl, rfl, rfl⟩

theorem sendLockNotice_raisesOnly (n : LockNotice) : RaisesOnly s (s.sendLockNotice c n) c :=
  ⟨rfl, fun _ hd => ⟨rfl, rfl, rfl, by simp [State.sendLockNotice, State.box, hd]⟩, rfl, rfl, rfl, rfl, rfl, rfl⟩

theorem trip_raisesOnly (k : Cause) : RaisesOnly s (s.trip c k) c := by
  obtain ⟨hlink, halloc, _⟩ := trip_parts s c k
  obtain ⟨hothers, _, _, _, _, _, _, hboard, hsupervisor, hfan, _⟩ := trip_keepsOthers s c k
  refine ⟨trip_outside s c k, fun d hd => ?_, halloc, hlink ▸ enqueue_outside _ _, hboard, hsupervisor, hfan,
    trip_handed s c k⟩
  obtain ⟨_, _, _, hlimit, hbox, hrelay, _, hrequests⟩ := hothers d hd
  exact ⟨hlimit, hrelay, hrequests, hbox⟩

theorem raise_raisesOnly (k : Cause) : RaisesOnly s (s.raise c k) c := by
  rcases raise_cases s c k with h | ⟨_, _, h⟩ | ⟨_, r, _, h⟩ <;> rw [h]
  · exact .refl s c
  · exact trip_raisesOnly s c k
  · unfold State.laterCause
    split
    · exact .refl s c
    · exact (setLimit_raisesOnly s c _).trans (queueEvent_raisesOnly _ c _ _ _ _ _)

/-- A cause that applies queues TRIP for a first cause, an additional TRIP for a new later one, and nothing for one that
the record holds (R162, R163). -/
theorem raise_link_of_applies {k : Cause} (h : k.applies (s.seq.get c).state = true) : (s.raise c k).link =
    (match (s.limit.cavity.get c).active with
      | none => s.link.enqueue (s.event .trip (some c) 3 (some k.code) false)
      | some r => if r.first = k ∨ k ∈ r.later then s.link
        else s.link.enqueue (s.event .trip (some c) 3 (some k.code) true)) := by
  cases hactive : (s.limit.cavity.get c).active with
  | none =>
    obtain ⟨hlink, _⟩ := trip_parts s c k
    rw [raise_of_first h hactive, hlink]
  | some r =>
    rw [raise_of_later h hactive, State.laterCause]
    split <;> rename_i hheld
    · exact (if_pos hheld).symm
    · exact (if_neg hheld).symm

end

end Sys2Proof.Machine
end

section
/-! PROOF. The events of the Door Lock Controllers (R124, R128 to R130, R133 to R135, R139): switch changes and travels
that end. -/

namespace Sys2Proof.Machine

/-! ### A lock that jams, and a door breached -/

/-- A lock cause applies to every cavity that is not ABSENT (R157). -/
def Cause.ofLock (k : Cause) : Prop := k = .doorBreach ∨ k = .lockJam ∨ k = .lockLost

theorem applies_of_ofLock {k : Cause} (hk : k.ofLock) {q : SeqState} (hq : q ≠ .absent) : k.applies q = true := by
  rcases hk with rfl | rfl | rfl <;> simpa [Cause.applies] using hq

section
variable {s u : State} {c : Cavity}

/-- A lock cause raised on a state that has the records and relays of the one before it. -/
theorem raise_ofLock {k : Cause} (hk : k.ofLock) (hpresent : (s.seq.get c).state ≠ .absent) (hseq : u.seq = s.seq)
    (hlimit : u.limit = s.limit) : CauseRaised s (u.raise c k) c k :=
  causeRaised_congr hlimit.symm rfl rfl (raise_raises u c k (applies_of_ofLock hk (hseq ▸ hpresent)))

/-- The lock cause and the notice of a lock that has come to rest JAMMED (R128, R133, R135). -/
theorem jammed_raises {k : Cause} (hk : k.ofLock) (hpresent : (s.seq.get c).state ≠ .absent) (hseq : u.seq = s.seq)
    (hlimit : u.limit = s.limit) (hmail : u.mail = s.mail) :
    RaisesOnly u ((u.raise c k).sendLockNotice c .atRestJammed) c ∧
    CauseRaised s ((u.raise c k).sendLockNotice c .atRestJammed) c k ∧
    (((u.raise c k).sendLockNotice c .atRestJammed).box c).lockNotices =
      (s.box c).lockNotices ++ [.atRestJammed] := by
  have hraised := raise_ofLock hk hpresent hseq hlimit
  refine ⟨(raise_raisesOnly u c k).trans (sendLockNotice_raisesOnly _ c _), causeRaised_congr rfl rfl rfl hraised, ?_⟩
  have hbox : u.box c = s.box c := by rw [State.box, hmail, State.box]
  have hnotices := raise_lockNotices u c k
  rw [hbox] at hnotices
  simp [State.sendLockNotice, State.box] at hnotices ⊢
  exact hnotices

end

/-! ### Switch changes -/

section
variable {s : State} {c : Cavity}

/-- A watched door switch that changes (R124). -/
theorem exec_doorChange_of_change {v w : DoorSwitch} (henabled : s.enabled c = true) (hdoor : (s.locks.get c).door = w)
    (hne : w ≠ v) : exec (.doorChange c v) s =
      .next ((s.setPins c { s.pins.get c with door := v }).doorChanged c v) := by
  have hwatched : (s.enabled c && decide ((s.locks.get c).door ≠ v)) = true := by simp [henabled, hdoor, hne]
  exact congrArg Host.Outcome.next (if_pos hwatched)

theorem exec_doorChange_of_none {v : DoorSwitch} (h : s.enabled c = false ∨ (s.locks.get c).door = v) :
    exec (.doorChange c v) s = .next (s.setPins c { s.pins.get c with door := v }) := by
  have hpassed : ¬ (s.enabled c && decide ((s.locks.get c).door ≠ v)) = true := by rcases h with h | h <;> simp [h]
  exact congrArg Host.Outcome.next (if_neg hpassed)

/-- A watched lock switch that changes (R124). -/
theorem exec_lockSwitchChange_of_change {v w : LockSwitch} (henabled : s.enabled c = true)
    (hswitch : (s.locks.get c).switch = w) (hne : w ≠ v) : exec (.lockSwitchChange c v) s =
      .next ((s.setPins c { s.pins.get c with lock := v }).lockSwitchChanged c v) := by
  have hwatched : (s.enabled c && decide ((s.locks.get c).switch ≠ v)) = true := by simp [henabled, hswitch, hne]
  exact congrArg Host.Outcome.next (if_pos hwatched)

theorem exec_lockSwitchChange_of_none {v : LockSwitch} (h : s.enabled c = false ∨ (s.locks.get c).switch = v) :
    exec (.lockSwitchChange c v) s = .next (s.setPins c { s.pins.get c with lock := v }) := by
  have hpassed : ¬ (s.enabled c && decide ((s.locks.get c).switch ≠ v)) = true := by rcases h with h | h <;> simp [h]
  exact congrArg Host.Outcome.next (if_neg hpassed)

end

/-- Settles O50: the switches' changes by the lock's state, and those that are none. -/
theorem switchChangesMoveLock : Obligations.SwitchChangesMoveLock := by
  intro s c
  refine ⟨fun henabled hswitch => ?_, fun henabled hswitch => ?_, fun henabled hdoor => ?_, fun henabled hdoor => ?_,
    exec_lockSwitchChange_of_none, exec_lockSwitchChange_of_none, exec_doorChange_of_none, exec_doorChange_of_none⟩
  · rw [exec_lockSwitchChange_of_change henabled hswitch (by simp)]
    unfold State.lockSwitchChanged
    refine ⟨fun hstate => ?_, fun hstate => ?_, fun hstate hpresent => ?_, ?_⟩
    · simp only [State.setPins_locks, hstate]
      rfl
    · simp only [State.setPins_locks, hstate]
      rfl
    · simp only [State.setPins_locks, hstate]
      exact ⟨_, rfl, jammed_raises (.inr (.inr rfl)) hpresent rfl rfl rfl⟩
    · rintro (hstate | hstate) <;> simp only [State.setPins_locks, hstate] <;> rfl
  · rw [exec_lockSwitchChange_of_change henabled hswitch (by simp)]
    unfold State.lockSwitchChanged
    refine ⟨fun hstate => ?_, fun hstate hpresent => ?_, ?_⟩
    · simp only [State.setPins_locks, hstate]
      rfl
    · simp only [State.setPins_locks, hstate]
      exact ⟨_, rfl, jammed_raises (.inr (.inr rfl)) hpresent rfl rfl rfl⟩
    · rintro (hstate | hstate | hstate) <;> simp only [State.setPins_locks, hstate] <;> rfl
  · rw [exec_doorChange_of_change henabled hdoor (by simp)]
    unfold State.doorChanged
    refine ⟨fun hstate => ?_, fun hstate hpresent => ?_, ?_⟩
    · simp only [State.setPins_locks, hstate]
      rfl
    · simp only [State.setPins_locks, hstate]
      exact ⟨_, rfl, raise_raisesOnly _ c _, raise_ofLock (.inl rfl) hpresent rfl rfl, raise_lockNotices _ c _⟩
    · rintro (hstate | hstate | hstate) <;> simp only [State.setPins_locks, hstate] <;> rfl
  · rw [exec_doorChange_of_change henabled hdoor (by simp)]
    unfold State.doorChanged
    cases hstate : (s.locks.get c).state <;> simp only [State.setPins_locks, hstate] <;> rfl

/-! ### Travels that end by time -/

section
variable {s : State} {c : Cavity}

/-- A travel that has run out jams the lock and raises LOCK_JAM (R128, R130). -/
theorem lockJammed_jams (hpresent : (s.seq.get c).state ≠ .absent) (detail : Nat) :
    RaisesOnly (s.setLock c ((s.locks.get c).rest .jammed)) (s.lockJammed c (s.locks.get c) detail) c ∧
    CauseRaised s (s.lockJammed c (s.locks.get c) detail) c .lockJam ∧
    ((s.lockJammed c (s.locks.get c) detail).box c).lockNotices = (s.box c).lockNotices ++ [.atRestJammed] := by
  obtain ⟨honly, hraised, hnotices⟩ := jammed_raises (s := s)
    (u := (s.setLock c ((s.locks.get c).rest .jammed)).queueEvent .lockJam (some c) 3 (some detail))
    (.inr (.inl rfl)) hpresent rfl rfl rfl
  exact ⟨(queueEvent_raisesOnly _ c _ _ _ _ _).trans honly, hraised, hnotices⟩

/-- The events of a jammed travel, by what the trip record holds (R162, R163). -/
theorem lockJammed_link (hpresent : (s.seq.get c).state ≠ .absent) (detail : Nat) :
    let queued := s.link.enqueue (s.event .lockJam (some c) 3 (some detail) false)
    (s.lockJammed c (s.locks.get c) detail).link = (match (s.limit.cavity.get c).active with
      | none => queued.enqueue (s.event .trip (some c) 3 (some 9) false)
      | some r => if r.first = .lockJam ∨ .lockJam ∈ r.later then queued
        else queued.enqueue (s.event .trip (some c) 3 (some 9) true)) := by
  have hlink := raise_link_of_applies
    ((s.setLock c ((s.locks.get c).rest .jammed)).queueEvent .lockJam (some c) 3 (some detail)) c
    (applies_of_ofLock (.inr (.inl rfl)) hpresent)
  refine Eq.trans hlink ?_
  cases hactive : (s.limit.cavity.get c).active with
  | none => simp [hactive, State.queueEvent, State.event, Cause.code]
  | some r => simp [hactive, State.queueEvent, State.event, Cause.code]

end

/-- Settles O51: an engagement and a release that run out, and a reversed release that has run back. -/
theorem travelsRunOut : Obligations.TravelsRunOut := by
  intro s c
  refine ⟨fun hstate hpresent => ⟨_, congrArg Host.Outcome.next (if_pos hstate), ?_⟩,
    fun hstate hpresent => ⟨_, congrArg Host.Outcome.next (if_pos hstate), ?_⟩,
    fun hstate hreversal hswitch => congrArg Host.Outcome.next (if_pos ⟨hstate, hreversal, hswitch⟩)⟩
  · obtain ⟨honly, hraised, hnotices⟩ := lockJammed_jams hpresent 1
    exact ⟨honly, hraised, hnotices, lockJammed_link hpresent 1⟩
  · obtain ⟨honly, hraised, hnotices⟩ := lockJammed_jams hpresent 2
    exact ⟨honly, hraised, hnotices, lockJammed_link hpresent 2⟩

end Sys2Proof.Machine
end

section
/-! PROOF. LOCK DOOR and UNLOCK DOOR (R131, R136, R137). -/

namespace Sys2Proof.Machine

/-! ### The two owners, by the lock -/

section
variable {s : State} {c : Cavity}

/-- LOCK DOOR outside IDLE (R136). -/
theorem lockDoor_of_not_idle (hstate : (s.seq.get c).state ≠ .idle) (hpresent : (s.seq.get c).state ≠ .absent) :
    lockDoor [byte c.num] s = (s, Reply.refuse .state) := by
  rw [lockDoor, ownerOfCavity_of_present hpresent]
  exact if_pos hstate

/-- LOCK DOOR in IDLE, by the lock and the door (R136). -/
theorem lockDoor_of_idle (hstate : (s.seq.get c).state = .idle) : lockDoor [byte c.num] s =
    match (s.locks.get c).state, (s.locks.get c).door with
    | .engaging, _ | .releasing, _ => (s, Reply.busy)
    | .jammed, _ => (s, Reply.refuse .lock)
    | .locked, _ => (s, Reply.done [])
    | .opened, .opened => (s, Reply.refuse .door)
    | .opened, .closed => (s.setLock c ((s.locks.get c).engage .request), Reply.done []) := by
  rw [lockDoor, ownerOfCavity_of_present (by simp [hstate])]
  cases hlock : (s.locks.get c).state with
  | opened => cases hdoor : (s.locks.get c).door <;> simp [hstate, hlock, hdoor]
  | engaging | releasing | jammed | locked => simp [hstate, hlock]

/-- UNLOCK DOOR on a lock that a cycle or the recovery owns (R137). -/
theorem unlockDoor_of_owned (howner : (s.locks.get c).owner = .cycle ∨ (s.locks.get c).owner = .recovery)
    (hpresent : (s.seq.get c).state ≠ .absent) : unlockDoor [byte c.num] s = (s, Reply.refuse .state) := by
  rw [unlockDoor, ownerOfCavity_of_present hpresent]
  exact if_pos howner

/-- UNLOCK DOOR on a lock that the request may move, by its state, its switch and the permission (R137). -/
theorem unlockDoor_of_free (hcycle : (s.locks.get c).owner ≠ .cycle) (hrecovery : (s.locks.get c).owner ≠ .recovery)
    (hpresent : (s.seq.get c).state ≠ .absent) : unlockDoor [byte c.num] s =
    match (s.locks.get c).state, s.permission c, (s.locks.get c).switch with
    | .engaging, _, _ | .releasing, _, _ => (s, Reply.busy)
    | .opened, _, _ => (s, Reply.done [])
    | .locked, false, _ | .jammed, false, _ => (s, Reply.refuse .hot)
    | .jammed, true, .unlocked => (s.lockReleased c (s.locks.get c), Reply.done [])
    | .locked, true, _ | .jammed, true, .locked => (s.setLock c (s.locks.get c).release, Reply.done []) := by
  rw [unlockDoor, ownerOfCavity_of_present hpresent]
  cases hlock : (s.locks.get c).state with
  | engaging | releasing | opened => simp [hcycle, hrecovery, hlock]
  | locked => cases hpermission : s.permission c <;> simp [hcycle, hrecovery, hlock]
  | jammed =>
    cases hpermission : s.permission c with
    | false => simp [hcycle, hrecovery, hlock]
    | true => cases hswitch : (s.locks.get c).switch <;> simp [hcycle, hrecovery, hlock, hswitch]

/-- The release permission by the latest cavity reading and the blind cooling count (R131). -/
theorem permission_iff : s.permission c = true ↔
    (s.seq.get c).state ≠ .locking ∧ (s.seq.get c).state ≠ .running ∧
      ((∃ r tf, s.scanner.latest.get c = some r ∧ r.probe = .valid ∧ r.probeTf = some tf ∧
        tf ≤ ((s.profiles.get c).releaseThreshold : Int)) ∨ 5400 ≤ (s.seq.get c).blindCool) := by
  rw [← show blindCoolLimit = 5400 from rfl]
  cases hlatest : s.scanner.latest.get c with
  | none => simp [State.permission, State.permissionOn, hlatest, and_assoc]
  | some r => simp [State.permission, State.permissionOn, hlatest, coolAt_iff, and_assoc]

/-- A lock that ends its release, whole. -/
theorem lockReleased_eq : s.lockReleased c (s.locks.get c) = { s with
    locks := s.locks.set c
      { s.locks.get c with state := .opened, owner := .none, timer := none, reversal := none }
    link := s.link.enqueue (s.event .lockReleased (some c) 1 none false)
    mail := { s.mail with
      cavity := s.mail.cavity.set c { s.box c with lockNotices := (s.box c).lockNotices ++ [.atRestOpen] } } } := rfl

theorem permission_heard (s : State) (c : Cavity) : s.heard.permission c = s.permission c := by
  simp [State.permission, State.permissionOn]

end

/-! ### The requests -/

section
variable {s t : State} {c : Cavity} {r : Reply}

theorem exec_lockDoor_of_owner (howed : s.link.owed = none) (howner : lockDoor [byte c.num] s.heard = (t, r))
    (h : Header) : exec (.lockDoor h [byte c.num]) s = .next (t.answer h 0x40 (some c) r) :=
  congrArg Host.Outcome.next (takeRequest_ofCavity (k := .lockDoor) howed rfl rfl rfl howner h)

theorem exec_unlockDoor_of_owner (howed : s.link.owed = none) (howner : unlockDoor [byte c.num] s.heard = (t, r))
    (h : Header) : exec (.unlockDoor h [byte c.num]) s = .next (t.answer h 0x41 (some c) r) :=
  congrArg Host.Outcome.next (takeRequest_ofCavity (k := .unlockDoor) howed rfl rfl rfl howner h)

end

/-- Settles O52: the rows of the two tables, and the release permission. -/
theorem lockAndUnlockDoor : Obligations.LockAndUnlockDoor := by
  intro s h c howed hpresent
  obtain ⟨hseq, hlocks, _⟩ := heard_standing s c
  have hheard : (s.heard.seq.get c).state ≠ .absent := hseq.symm ▸ hpresent
  have hlock {t : State} {r : Reply} (howner : lockDoor [byte c.num] s.heard = (t, r)) :=
    exec_lockDoor_of_owner howed howner h
  have hidle (hstate : (s.seq.get c).state = .idle) := lockDoor_of_idle (s := s.heard) (c := c) (hseq.symm ▸ hstate)
  have hunlock {t : State} {r : Reply} (howner : unlockDoor [byte c.num] s.heard = (t, r)) :=
    exec_unlockDoor_of_owner howed howner h
  have hfree (hf : (s.locks.get c).owner ≠ .cycle ∧ (s.locks.get c).owner ≠ .recovery) :=
    unlockDoor_of_free (s := s.heard) (c := c) (hlocks.symm ▸ hf.left) (hlocks.symm ▸ hf.right) hheard
  simp only [hlocks, permission_heard] at hidle hfree
  refine ⟨fun hstate => ?_, fun hstate htravels => ?_, fun hstate hjammed => ?_, fun hstate hlocked => ?_,
    fun hstate hopened hdoor => ?_, fun hstate hopened hdoor => ?_, fun howned => ?_, fun hf htravels => ?_,
    fun hf hopened => ?_, fun hf hheld hhot => ?_, fun hf hheld hcool => ?_, fun hf hjammed hswitch hcool => ?_,
    permission_iff⟩
  · exact hlock (lockDoor_of_not_idle (hseq.symm ▸ hstate) hheard)
  · rcases htravels with htravel | htravel <;> exact hlock (by rw [hidle hstate, htravel])
  · exact hlock (by rw [hidle hstate, hjammed])
  · exact hlock (by rw [hidle hstate, hlocked])
  · exact hlock (by rw [hidle hstate, hopened, hdoor])
  · refine (hlock (by rw [hidle hstate, hopened, hdoor])).trans ?_
    rw [State.setLock, hlocks]
    rfl
  · have howner : (s.locks.get c).owner = .cycle ∨ (s.locks.get c).owner = .recovery := by
      by_contra hneither
      exact howned (not_or.mp hneither)
    exact hunlock (unlockDoor_of_owned (hlocks.symm ▸ howner) hheard)
  · rcases htravels with htravel | htravel <;> exact hunlock (by rw [hfree hf, htravel])
  · exact hunlock (by rw [hfree hf, hopened])
  · have hpermission : s.permission c = false := by
      rw [← Bool.not_eq_true, permission_iff]
      exact hhot
    rcases hheld with hheld | hheld <;> exact hunlock (by rw [hfree hf, hheld, hpermission])
  · refine Eq.trans (hunlock (t := s.heard.setLock c (s.locks.get c).release) (r := Reply.done []) ?_) ?_
    · rcases hheld with hlocked | ⟨hjammed, hswitch⟩
      · rw [hfree hf, hlocked, permission_iff.mpr hcool]
      · rw [hfree hf, hjammed, permission_iff.mpr hcool, hswitch]
    · rw [State.setLock, hlocks]
      rfl
  · refine (hunlock (by rw [hfree hf, hjammed, permission_iff.mpr hcool, hswitch])).trans ?_
    rw [← hlocks, lockReleased_eq]
    simp [State.event, State.box]

end Sys2Proof.Machine
end

section
/-! PROOF. A fan evaluation as the Fan Controller sees it (R144 to R150): what the speed test, the demand, the commanded
level and the fan state make of each field, and what an evaluation leaves outside the Fan Controller. -/

namespace Sys2Proof.Machine

/-! ### The speed test -/

/-- The Fan Controller after the speed test, its speed being below half the nominal one or not (R148 to R150). -/
def Fan.tested (f : Fan) (slow : Bool) : Fan :=
  match f.state with
  | .on =>
    if slow = false then { f with stallCount := 0 }
    else if f.stallCount < 9 then { f with stallCount := f.stallCount + 1 }
    else { f with state := .stalled, stallCount := 0, recoveryCount := 0 }
  | .stalled =>
    if slow = true then { f with recoveryCount := 0 }
    else if f.recoveryCount < 9 then { f with recoveryCount := f.recoveryCount + 1 }
    else { f with state := .on, stallCount := 0, recoveryCount := 0 }
  | .off => f
  | .spinup => f

section
variable {s : State} {rpm : Nat}

theorem speedTest_of_idle (h : s.fan.state = .off ∨ s.fan.state = .spinup) : s.speedTest rpm = s := by
  rcases h with h | h <;> simp only [State.speedTest, h]

theorem speedTest_of_on (h : s.fan.state = .on) : s.speedTest rpm = s.stallTest rpm := by
  simp only [State.speedTest, h]

theorem speedTest_of_stalled (h : s.fan.state = .stalled) :
    s.speedTest rpm = (s.raiseForEnabled .fanStall).recoveryTest rpm := by
  simp only [State.speedTest, h]

theorem stallTest_of_good (h : s.appliance.belowHalf s.fan.level rpm = false) :
    s.stallTest rpm = s.setFan { s.fan with stallCount := 0 } :=
  if_pos (by rw [h, Bool.not_false])

theorem stallTest_of_slow (h : s.appliance.belowHalf s.fan.level rpm = true) : s.stallTest rpm =
    if s.fan.stallCount < 9 then s.setFan { s.fan with stallCount := s.fan.stallCount + 1 }
    else ((s.setFan { s.fan with state := .stalled, stallCount := 0, recoveryCount := 0 }).queueEvent .fanStall none 3
      (some rpm)).raiseForEnabled .fanStall := by
  simp only [State.stallTest, h, stallRun, Nat.add_lt_add_iff_right (m := 9), Bool.not_true, Bool.false_eq_true,
    if_false]

theorem recoveryTest_of_slow (h : s.appliance.belowHalf s.fan.level rpm = true) :
    s.recoveryTest rpm = s.setFan { s.fan with recoveryCount := 0 } :=
  if_pos h

theorem recoveryTest_of_good (h : s.appliance.belowHalf s.fan.level rpm = false) : s.recoveryTest rpm =
    if s.fan.recoveryCount < 9 then s.setFan { s.fan with recoveryCount := s.fan.recoveryCount + 1 }
    else (s.setFan { s.fan with state := .on, stallCount := 0, recoveryCount := 0 }).queueEvent .fanRecovered none 1
      (some rpm) := by
  simp only [State.recoveryTest, h, stallRun, Nat.add_lt_add_iff_right (m := 9), Bool.false_eq_true, if_false]

variable (s rpm)

theorem speedTest_fan :
    (s.speedTest rpm).fan = s.fan.tested (s.appliance.belowHalf s.fan.level rpm) := by
  cases hstate : s.fan.state with
  | off => rw [speedTest_of_idle (.inl hstate), Fan.tested, hstate]
  | spinup => rw [speedTest_of_idle (.inr hstate), Fan.tested, hstate]
  | on =>
    rw [speedTest_of_on hstate]
    simp only [Fan.tested, hstate]
    cases hslow : s.appliance.belowHalf s.fan.level rpm with
    | false => simp [stallTest_of_good hslow, hstate]
    | true =>
      rw [stallTest_of_slow hslow]
      split <;> simp [hstate]
  | stalled =>
    rw [speedTest_of_stalled hstate]
    simp only [Fan.tested, hstate]
    cases hslow : s.appliance.belowHalf s.fan.level rpm with
    | false =>
      rw [recoveryTest_of_good (by simpa using hslow)]
      simp only [State.raiseForEnabled_frame]
      split <;> simp [hstate]
    | true =>
      rw [recoveryTest_of_slow (by simpa using hslow)]
      simp [hstate]

end

section
variable (f : Fan) (slow : Bool)

@[simp] theorem tested_frame :
    (f.tested slow).level = f.level ∧ (f.tested slow).demand = f.demand ∧ (f.tested slow).holdDown = f.holdDown ∧
    (f.tested slow).spinup = f.spinup ∧ (f.tested slow).pulses = f.pulses ∧ (f.tested slow).rpm = f.rpm ∧
    (f.tested slow).tachCount = f.tachCount ∧ (f.tested slow).hostFloor = f.hostFloor ∧
    (f.tested slow).duty = f.duty ∧ (f.tested slow).stored = f.stored ∧ (f.tested slow).board = f.board ∧
    (f.tested slow).convection = f.convection := by
  unfold Fan.tested
  split
  · split_ifs <;> simp only [and_self]
  · split_ifs <;> simp only [and_self]
  · simp only [and_self]
  · simp only [and_self]

end

/-! ### The commanded level (R145) -/

section
variable {f : Fan}

theorem follow_of_rise (h : f.level < f.demand) :
    f.follow = { f with holdDown := 0, level := f.demand, duty := dutyOf f.demand } :=
  if_pos h

theorem follow_of_same (h : f.demand = f.level) : f.follow = { f with holdDown := 0 } := by
  rw [Fan.follow, if_neg (by omega), if_pos h]

theorem follow_of_wait (h : f.demand < f.level) (hcount : f.holdDown < 59) :
    f.follow = { f with holdDown := f.holdDown + 1 } := by
  rw [Fan.follow, if_neg (by omega), if_neg (by omega), if_pos (by unfold holdDownRun; omega)]

theorem follow_of_fall (h : f.demand < f.level) (hcount : ¬ f.holdDown < 59) :
    f.follow = { f with holdDown := 0, level := f.demand, duty := dutyOf f.demand } := by
  rw [Fan.follow, if_neg (by omega), if_neg (by omega), if_neg (by unfold holdDownRun; omega)]

variable (f)

/-- The level moves to the demand, or stands at it, or waits above it (R145). -/
theorem follow_cases : f.follow = { f with holdDown := 0, level := f.demand, duty := dutyOf f.demand } ∨
    (f.demand = f.level ∧ f.follow = { f with holdDown := 0 }) ∨
    (f.demand < f.level ∧ f.holdDown < 59 ∧ f.follow = { f with holdDown := f.holdDown + 1 }) := by
  rcases Nat.lt_trichotomy f.demand f.level with h | h | h
  · by_cases hcount : f.holdDown < 59
    · exact .inr (.inr ⟨h, hcount, follow_of_wait h hcount⟩)
    · exact .inl (follow_of_fall h hcount)
  · exact .inr (.inl ⟨h, follow_of_same h⟩)
  · exact .inl (follow_of_rise h)

@[simp] theorem follow_frame :
    f.follow.demand = f.demand ∧ f.follow.sources = f.sources ∧ f.follow.state = f.state ∧
    f.follow.spinup = f.spinup ∧ f.follow.stallCount = f.stallCount ∧ f.follow.recoveryCount = f.recoveryCount ∧
    f.follow.pulses = f.pulses ∧ f.follow.rpm = f.rpm ∧ f.follow.tachCount = f.tachCount ∧
    f.follow.hostFloor = f.hostFloor ∧ f.follow.stored = f.stored ∧ f.follow.board = f.board ∧
    f.follow.convection = f.convection := by
  rcases follow_cases f with h | ⟨_, h⟩ | ⟨_, _, h⟩ <;> simp only [h, and_self]

end

/-- The duty stays that of the level (R145). -/
theorem follow_duty {f : Fan} (h : f.duty = dutyOf f.level) : f.follow.duty = dutyOf f.follow.level := by
  rcases follow_cases f with e | ⟨_, e⟩ | ⟨_, _, e⟩ <;> simp only [e, h]

/-! ### The fan state (R147) -/

section
variable {f : Fan} {before : Nat}

theorem moveState_of_stalled (h : f.state = .stalled) : f.moveState before = f := if_pos h

theorem moveState_of_zero (h : f.state ≠ .stalled) (hlevel : f.level = 0) :
    f.moveState before = { f with state := .off, spinup := none, stallCount := 0, recoveryCount := 0 } := by
  rw [Fan.moveState, if_neg h, if_pos hlevel]

theorem moveState_of_rise (h : f.state ≠ .stalled) (hrise : before < f.level) :
    f.moveState before = { f with state := .spinup, spinup := some 5, stallCount := 0 } := by
  rw [Fan.moveState, if_neg h, if_neg (by omega), if_pos hrise]
  rfl

/-- Without a rise, and above level 0, only SPINUP moves on (R147). -/
theorem moveState_of_spinup {n : Nat} (h : f.state = .spinup) (hlevel : f.level ≠ 0) (hrise : ¬ before < f.level)
    (hn : f.spinup = some n) : f.moveState before =
      if n ≤ 1 then { f with state := .on, spinup := none } else { f with spinup := some (n - 1) } := by
  rw [Fan.moveState, if_neg (by simp [h]), if_neg hlevel, if_neg hrise, if_pos h, hn]
  rfl

theorem moveState_of_steady (h : f.state ≠ .spinup) (hlevel : f.level ≠ 0) (hrise : ¬ before < f.level) :
    f.moveState before = f := by
  rw [Fan.moveState, if_neg hlevel, if_neg hrise, if_neg h, ite_self]

variable (f before)

@[simp] theorem moveState_frame :
    (f.moveState before).level = f.level ∧ (f.moveState before).demand = f.demand ∧
    (f.moveState before).sources = f.sources ∧ (f.moveState before).holdDown = f.holdDown ∧
    (f.moveState before).pulses = f.pulses ∧ (f.moveState before).rpm = f.rpm ∧
    (f.moveState before).tachCount = f.tachCount ∧ (f.moveState before).hostFloor = f.hostFloor ∧
    (f.moveState before).duty = f.duty ∧ (f.moveState before).stored = f.stored ∧
    (f.moveState before).board = f.board ∧ (f.moveState before).convection = f.convection := by
  unfold Fan.moveState
  split_ifs <;> simp only [and_self]

/-- Only the speed test enters or leaves STALLED (R147 to R149). -/
@[simp] theorem moveState_stalled_iff : (f.moveState before).state = .stalled ↔ f.state = .stalled := by
  unfold Fan.moveState
  split_ifs <;> simp_all

end

/-! ### The whole evaluation -/

/-- The speed of the second that an evaluation closes (R146). -/
def State.closedRpm (s : State) : Nat := rpmOf s.fan.tachCount s.appliance.pulsesPerRev

/-- Is that speed below half the nominal speed of the commanded level (R148)? -/
def State.fanSlow (s : State) : Bool := s.appliance.belowHalf s.fan.level s.closedRpm

theorem fanSlow_iff (s : State) : s.fanSlow = true ↔
    s.fan.level ≠ 0 ∧ 2 * (s.fan.tachCount * 60 / s.appliance.pulsesPerRev) < s.appliance.nominal s.fan.level := by
  rw [State.fanSlow, ApplianceProfile.belowHalf, Bool.and_eq_true, decide_eq_true_eq, decide_eq_true_eq]
  rfl

/-- The state with the tach count closed and the speed tested (R150, steps 1 and 2). -/
def State.speedTested (s : State) : State := s.closeTach.speedTest s.closedRpm

/-- The Fan Controller with the demand formed (R150, step 3). -/
def State.demanded (s : State) : Fan := s.speedTested.formDemand.fan

section
variable (s : State)

theorem evaluateFan_eq :
    evaluateFan s = s.speedTested.setFan (s.demanded.follow.moveState s.speedTested.fan.level) := rfl

theorem speedTested_fan : s.speedTested.fan = s.closeTach.fan.tested s.fanSlow := speedTest_fan _ _

@[simp] theorem speedTested_frame :
    s.speedTested.clock = s.clock ∧ s.speedTested.appliance = s.appliance ∧ s.speedTested.table = s.table ∧
    s.speedTested.seq = s.seq := by
  simp [State.speedTested]

@[simp] theorem speedTested_fan_frame :
    s.speedTested.fan.level = s.fan.level ∧ s.speedTested.fan.holdDown = s.fan.holdDown ∧
    s.speedTested.fan.spinup = s.fan.spinup ∧ s.speedTested.fan.pulses = some s.fan.tachCount ∧
    s.speedTested.fan.rpm = some s.closedRpm ∧ s.speedTested.fan.tachCount = 0 ∧
    s.speedTested.fan.hostFloor = s.fan.hostFloor ∧ s.speedTested.fan.duty = s.fan.duty ∧
    s.speedTested.fan.stored = s.fan.stored ∧ s.speedTested.fan.board = s.fan.board ∧
    s.speedTested.fan.convection = s.fan.convection := by
  simp [speedTested_fan, State.closeTach, State.closedRpm]

theorem evaluateFan_fan : (evaluateFan s).fan = s.demanded.follow.moveState s.fan.level := by
  simp [evaluateFan_eq]

/-- The demand leaves the fields of the speed test as they are. -/
theorem demanded_eq : s.demanded = { s.speedTested.fan with
    sources := s.speedTested.fanSources, demand := s.speedTested.fanSources.demand } := rfl

/-- The sources read nothing that the speed test changes but the fan state (R144, R150). -/
theorem fanSources_speedTested : s.speedTested.fanSources =
    { s.fanSources with stall := if s.speedTested.fan.state = .stalled then 3 else 0 } := by
  have henabled (c : Cavity) : s.speedTested.enabled c = s.enabled c := enabled_congr (by simp) c
  simp [State.fanSources, State.highest, henabled, State.sequencerLevel, State.phaseRecord, State.tripLevel,
    recordAt_congr (show s.speedTested.table = s.table by simp)]

end

end Sys2Proof.Machine
end

section
/-! PROOF. A cause raised for every enabled cavity, cavity by cavity (R148, R149, R157, R162, R163): what it makes of
each cavity that it applies to, what it leaves of the others, and what it adds to the event queue. -/

namespace Sys2Proof.Machine

/-! ### The event queue -/

/-- A queue that only grows at its end, by at most a number of records (R180). -/
def Link.GrowsBy (n : Nat) (l l' : Link) : Prop := l.queue <+: l'.queue ∧ l'.queue.length ≤ l.queue.length + n

theorem Link.GrowsBy.refl (l : Link) (n : Nat) : l.GrowsBy n l := ⟨List.prefix_refl _, Nat.le_add_right ..⟩

theorem Link.GrowsBy.trans {l l' l'' : Link} {n m : Nat} (h : l.GrowsBy n l') (h' : l'.GrowsBy m l'') :
    l.GrowsBy (n + m) l'' := by
  obtain ⟨hprefix, hlength⟩ := h
  obtain ⟨hprefix', hlength'⟩ := h'
  exact ⟨hprefix.trans hprefix', by omega⟩

theorem enqueue_queue {l : Link} (h : l.queue.length < queueLimit) (e : EventRecord) :
    (l.enqueue e).queue = l.queue ++ [e] := by
  rw [Link.enqueue, if_pos h]
  rfl

theorem enqueue_growsBy (l : Link) (e : EventRecord) : l.GrowsBy 1 (l.enqueue e) := by
  refine ⟨?_, length_enqueue_le l e⟩
  by_cases h : l.queue.length < queueLimit
  · exact enqueue_queue h e ▸ List.prefix_append _ _
  · rw [Link.enqueue, if_neg h]

/-- A cause queues at most one TRIP (R162, R163). -/
theorem raise_growsBy (s : State) (c : Cavity) (k : Cause) : s.link.GrowsBy 1 (s.raise c k).link := by
  rcases raise_link s c k with h | ⟨e, h⟩ <;> rw [h]
  · exact .refl _ _
  · exact enqueue_growsBy _ e

/-! ### One cavity -/

/-- A cause raised for a cavity where it is enabled. -/
def State.raiseEnabled (s : State) (k : Cause) (c : Cavity) : State := if s.enabled c then s.raise c k else s

theorem raiseForEnabled_eq (s : State) (k : Cause) :
    s.raiseForEnabled k = ((s.raiseEnabled k .c0).raiseEnabled k .c1).raiseEnabled k .c2 := rfl

/-- The parts of a cavity that a cause raised for it may change: its trip record, its relay and its mail. -/
structure SameTrip (s t : State) (c : Cavity) : Prop where
  limit : t.limit.cavity.get c = s.limit.cavity.get c
  relay : t.drive.relays.get c = s.drive.relays.get c
  box : t.box c = s.box c

section
variable {s t u : State} {c d : Cavity} {k : Cause}

theorem SameTrip.refl (s : State) (c : Cavity) : SameTrip s s c := ⟨rfl, rfl, rfl⟩

theorem SameTrip.trans (hst : SameTrip s t c) (htu : SameTrip t u c) : SameTrip s u c :=
  ⟨htu.limit.trans hst.limit, htu.relay.trans hst.relay, htu.box.trans hst.box⟩

/-- What has been raised for a cavity is told by these parts of it. -/
theorem causeRaised_of_sameTrip {s' t' : State} (h : CauseRaised s t c k) (hs : SameTrip s' s c)
    (ht : SameTrip t t' c) : CauseRaised s' t' c k := by
  simpa only [CauseRaised, State.holdsCause, State.tripped, State.relayClosed, ht.limit, ht.relay, hs.limit] using h

variable (s k)

theorem raiseEnabled_cases (c : Cavity) : s.raiseEnabled k c = s ∨ s.raiseEnabled k c = s.raise c k := by
  unfold State.raiseEnabled
  split
  · exact .inr rfl
  · exact .inl rfl

@[simp] theorem raiseEnabled_frame (c : Cavity) :
    (s.raiseEnabled k c).appliance = s.appliance ∧ (s.raiseEnabled k c).seq = s.seq := by
  rcases raiseEnabled_cases s k c with h | h <;> simp [h]

theorem raiseEnabled_other (hd : d ≠ c) : SameTrip s (s.raiseEnabled k c) d := by
  rcases raiseEnabled_cases s k c with h | h <;> rw [h]
  · exact .refl s d
  · obtain ⟨hothers, _⟩ := raise_keepsOthers s c k
    obtain ⟨_, _, _, hlimit, hbox, hrelay, _⟩ := hothers d hd
    exact ⟨hlimit, hrelay, hbox⟩

theorem raiseEnabled_growsBy (c : Cavity) : s.link.GrowsBy 1 (s.raiseEnabled k c).link := by
  rcases raiseEnabled_cases s k c with h | h <;> rw [h]
  · exact .refl _ _
  · exact raise_growsBy s c k

/-! ### Every cavity -/

/-- A cavity meets the cause once, in a state in which its own parts, the enables and the Sequencers still stand. -/
theorem raiseForEnabled_at (c : Cavity) : ∃ u : State, u.appliance = s.appliance ∧ u.seq = s.seq ∧ SameTrip s u c ∧
    SameTrip (u.raiseEnabled k c) (s.raiseForEnabled k) c := by
  rw [raiseForEnabled_eq]
  cases c with
  | c0 =>
    exact ⟨s, rfl, rfl, .refl s _,
      (raiseEnabled_other _ k (by decide)).trans (raiseEnabled_other _ k (by decide))⟩
  | c1 =>
    exact ⟨s.raiseEnabled k .c0, by simp, by simp, raiseEnabled_other s k (by decide),
      raiseEnabled_other _ k (by decide)⟩
  | c2 =>
    exact ⟨(s.raiseEnabled k .c0).raiseEnabled k .c1, by simp, by simp,
      (raiseEnabled_other s k (by decide)).trans (raiseEnabled_other _ k (by decide)), .refl _ _⟩

theorem raiseForEnabled_growsBy : s.link.GrowsBy 3 (s.raiseForEnabled k).link :=
  ((raiseEnabled_growsBy s k .c0).trans (raiseEnabled_growsBy _ k .c1)).trans (raiseEnabled_growsBy _ k .c2)

variable {s k}

/-- An enabled cavity in a state that the cause applies to has it raised (R157, R162, R163). -/
theorem raiseForEnabled_raises (henabled : s.enabled c = true) (happlies : k.applies (s.seq.get c).state = true) :
    CauseRaised s (s.raiseForEnabled k) c k := by
  obtain ⟨u, happliance, hseq, hbefore, hafter⟩ := raiseForEnabled_at s k c
  have hraised := raise_raises u c k (by rwa [hseq])
  have hu : u.raiseEnabled k c = u.raise c k := if_pos ((enabled_congr happliance c).trans henabled)
  exact causeRaised_of_sameTrip hraised hbefore (hu ▸ hafter)

/-- Any other cavity is left alone (R157). -/
theorem raiseForEnabled_leaves (h : s.enabled c = false ∨ k.applies (s.seq.get c).state = false) :
    SameTrip s (s.raiseForEnabled k) c := by
  obtain ⟨u, happliance, hseq, hbefore, hafter⟩ := raiseForEnabled_at s k c
  have hu : u.raiseEnabled k c = u := by
    unfold State.raiseEnabled
    rcases h with h | h
    · rw [if_neg (by simp [enabled_congr happliance c, h])]
    · rw [raise_of_not_applies (by rwa [hseq]), ite_self]
  exact hbefore.trans (hu ▸ hafter)

end

end Sys2Proof.Machine
end

section
/-! PROOF. The commanded level against the demand (R145). -/

namespace Sys2Proof.Machine

/-- Settles O53: the Fan Controller that follows the demand holds the level, the hold-down count and the duty of
before. -/
theorem fanLevelFollowsDemand : Obligations.FanLevelFollowsDemand := by
  intro s hhold hduty
  have hlevel : s.demanded.level = s.fan.level := by simp [demanded_eq]
  have hholdDown : s.demanded.holdDown = s.fan.holdDown := by simp [demanded_eq]
  have hduty : s.demanded.duty = dutyOf s.demanded.level := by simpa [demanded_eq] using hduty
  refine ⟨evaluateFan s, rfl, ?_⟩
  rw [evaluateFan_fan]
  simp only [moveState_frame, follow_frame]
  rw [← hlevel, ← hholdDown]
  refine ⟨rfl, fun h => ?_, fun h => ?_, fun h hcount => ?_, fun h hcount => ?_, ?_, ?_, ?_, ?_, ?_, ?_, ?_, ?_⟩
  · simp only [follow_of_rise h, and_self]
  · simp only [follow_of_same h, and_self]
  · simp only [follow_of_wait h hcount, and_self]
  · simp only [follow_of_fall h (by omega), and_self]
  · rw [follow_duty hduty]
    rfl
  · simp [demanded_eq]
  · simp [demanded_eq, State.closedRpm, rpmOf]
  · simp [demanded_eq]
  · simp [demanded_eq]
  · simp [demanded_eq]
  · simp [demanded_eq]
  · simp only [evaluateFan_frame]

end Sys2Proof.Machine
end

section
/-! PROOF. The Fan Controller's ranges through an evaluation (R142, R144, R145, R147): the demand of sources in their
range, the level that follows it, the counts of the speed test and the fan state. -/

namespace Sys2Proof.Machine

/-! ### The demand -/

theorem highest_le (s : State) {f : Cavity → Nat} (hf : ∀ c, f c ≤ 3) : s.highest f ≤ 3 := by
  refine List.foldlRecOn (motive := (· ≤ 3)) Cavity.all _ (Nat.zero_le 3) fun m hm c _ => ?_
  split
  · exact max_le hm (hf c)
  · exact hm

theorem levelAt_le (a : ApplianceProfile) (tf : Int) : a.levelAt tf ≤ 3 := by
  unfold ApplianceProfile.levelAt
  split_ifs <;> omega

theorem temperatureLevel_le (a : ApplianceProfile) (r : Option FanReading) : a.temperatureLevel r ≤ 3 := by
  unfold ApplianceProfile.temperatureLevel
  split
  · exact Nat.zero_le 3
  · split
    · split
      · exact levelAt_le a _
      · exact Nat.zero_le 3
    · exact Nat.le_refl 3

/-- The phase's floor is a record's (R19, R144). -/
theorem sequencerLevel_le {s : State} (hs : ∀ n r, s.recordAt n = some r → r.fanFloor ≤ 3) (c : Cavity) :
    s.sequencerLevel c ≤ 3 := by
  unfold State.sequencerLevel
  dsimp only
  split
  · cases hr : s.phaseRecord c with
    | none => exact Nat.zero_le 3
    | some r =>
      obtain ⟨n, _, hn⟩ := Option.bind_eq_some_iff.mp hr
      exact hs n r hn
  · omega
  · split <;> omega
  · split <;> omega
  all_goals exact Nat.zero_le 3

theorem tripLevel_le (s : State) (c : Cavity) : s.tripLevel c ≤ 3 := by
  unfold State.tripLevel
  split <;> omega

/-- The demand of sources in their range (R142, R144). -/
theorem demand_le {s : State} (hfloor : s.fan.hostFloor ≤ 3)
    (hs : ∀ n r, s.recordAt n = some r → r.fanFloor ≤ 3) : s.fanSources.demand ≤ 3 := by
  have hboard : s.fanSources.board ≤ 3 := by
    unfold State.fanSources
    dsimp only
    split
    · split <;> omega
    · exact Nat.zero_le 3
  have hstall : s.fanSources.stall ≤ 3 := by
    unfold State.fanSources
    dsimp only
    split <;> omega
  exact max_le (highest_le s fun c => temperatureLevel_le _ _)
    (max_le (highest_le s (sequencerLevel_le hs)) (max_le (highest_le s (tripLevel_le s))
      (max_le hboard (max_le hfloor hstall))))

/-! ### The parts of the invariant -/

/-- The level, the demand, the hold-down count and the duty are in their ranges (R142, R145). -/
def Fan.commanded (f : Fan) : Prop := f.level ≤ 3 ∧ f.demand ≤ 3 ∧ f.holdDown < 60 ∧ f.duty = dutyOf f.level

/-- The evaluations remaining of SPINUP and the counts of the speed test are in their ranges (R142, R147). -/
def Fan.counted (f : Fan) : Prop :=
  (∀ n, f.spinup = some n → 1 ≤ n ∧ n ≤ 5) ∧ (f.spinup.isSome = true ↔ f.state = .spinup) ∧
  f.stallCount < 10 ∧ f.recoveryCount < 10

theorem fan_sound_iff (f : Fan) : f.sound ↔ f.commanded ∧ f.counted ∧ f.hostFloor ≤ 3 ∧ f.tachCount ≤ 1000 ∧
    (f.state = .off ↔ f.level = 0) ∧ (f.state = .stalled → f.level = 3 ∧ f.holdDown = 0) := by
  simp only [Fan.sound, Fan.commanded, Fan.counted]
  tauto

section
variable {f : Fan}

theorem follow_commanded (h : f.commanded) : f.follow.commanded := by
  obtain ⟨hlevel, hdemand, hhold, hduty⟩ := h
  rcases follow_cases f with e | ⟨_, e⟩ | ⟨_, hcount, e⟩ <;> rw [e]
  · exact ⟨hdemand, hdemand, Nat.zero_lt_succ 59, rfl⟩
  · exact ⟨hlevel, hdemand, Nat.zero_lt_succ 59, hduty⟩
  · exact ⟨hlevel, hdemand, Nat.succ_lt_succ hcount, hduty⟩

/-- The highest demand is commanded at once, and no fall begins (R144, R145). -/
theorem follow_of_demand_three (h : f.commanded) (hdemand : f.demand = 3) :
    f.follow.level = 3 ∧ f.follow.holdDown = 0 := by
  obtain ⟨hlevel, _⟩ := h
  rcases Nat.lt_or_eq_of_le hlevel with hlow | htop
  · rw [follow_of_rise (hdemand.symm ▸ hlow)]
    exact ⟨hdemand, rfl⟩
  · rw [follow_of_same (hdemand.trans htop.symm)]
    exact ⟨htop, rfl⟩

/-- The speed test leaves OFF and SPINUP as they are and enters neither (R148, R149). -/
theorem tested_idle_iff (f : Fan) (slow : Bool) :
    ((f.tested slow).state = .off ↔ f.state = .off) ∧ ((f.tested slow).state = .spinup ↔ f.state = .spinup) := by
  unfold Fan.tested
  split <;> rename_i hstate
  · split_ifs <;> simp [hstate]
  · split_ifs <;> simp [hstate]
  · exact ⟨Iff.rfl, Iff.rfl⟩
  · exact ⟨Iff.rfl, Iff.rfl⟩

/-- From ON the speed test goes to STALLED at the most (R148). -/
theorem tested_state_of_on (h : f.state = .on) {slow : Bool} :
    (f.tested slow).state = .on ∨ (f.tested slow).state = .stalled := by
  simp only [Fan.tested, h]
  split_ifs <;> simp

theorem tested_counted (h : f.counted) (slow : Bool) : (f.tested slow).counted := by
  obtain ⟨hrange, hspinup, hstall, hrecovery⟩ := h
  obtain ⟨_, hspinning⟩ := tested_idle_iff f slow
  have hcounts : (f.tested slow).stallCount < 10 ∧ (f.tested slow).recoveryCount < 10 := by
    unfold Fan.tested
    split
    · split_ifs <;> dsimp only <;> omega
    · split_ifs <;> dsimp only <;> omega
    · exact ⟨hstall, hrecovery⟩
    · exact ⟨hstall, hrecovery⟩
  exact ⟨by simpa using hrange, by simpa [hspinning] using hspinup, hcounts⟩

theorem moveState_counted (h : f.counted) (before : Nat) : (f.moveState before).counted := by
  obtain ⟨hrange, hspinup, hstall, hrecovery⟩ := id h
  by_cases hstalled : f.state = .stalled
  · rwa [moveState_of_stalled hstalled]
  by_cases hlevel : f.level = 0
  · rw [moveState_of_zero hstalled hlevel]
    simp [Fan.counted]
  by_cases hrise : before < f.level
  · rw [moveState_of_rise hstalled hrise]
    simpa [Fan.counted] using hrecovery
  by_cases hspinning : f.state = .spinup
  · obtain ⟨n, hn⟩ := Option.isSome_iff_exists.mp (hspinup.mpr hspinning)
    obtain ⟨_, hfive⟩ := hrange n hn
    rw [moveState_of_spinup hspinning hlevel hrise hn]
    split
    · exact ⟨by simp, by simp, hstall, hrecovery⟩
    · exact ⟨fun m hm => by cases hm; omega, by simpa using hspinning, hstall, hrecovery⟩
  · rwa [moveState_of_steady hspinning hlevel hrise]

/-- OFF stands exactly at level 0, where neither STALLED nor an OFF that the level left stands in the way (R147). -/
theorem moveState_off_iff {before : Nat} (hstalled : f.state = .stalled → f.level ≠ 0)
    (hoff : f.state = .off → before = 0) : (f.moveState before).state = .off ↔ f.level = 0 := by
  by_cases hstall : f.state = .stalled
  · simp [moveState_of_stalled hstall, hstall, hstalled hstall]
  by_cases hlevel : f.level = 0
  · simp [moveState_of_zero hstall hlevel, hlevel]
  by_cases hrise : before < f.level
  · simp [moveState_of_rise hstall hrise, hlevel]
  have hstate : f.state ≠ .off := fun h => hrise (by rw [hoff h]; exact Nat.pos_of_ne_zero hlevel)
  unfold Fan.moveState
  split_ifs <;> simp [*]

end

/-! ### The evaluation -/

section
variable {s : State} (hs : s.fanSound)
include hs

theorem demanded_commanded : s.demanded.commanded := by
  obtain ⟨hfan, hrecords⟩ := hs
  obtain ⟨⟨hlevel, _, hhold, hduty⟩, _, hfloor, _⟩ := (fan_sound_iff _).mp hfan
  have htable : s.speedTested.recordAt = s.recordAt := recordAt_congr (by simp)
  have hdemand : s.demanded.demand ≤ 3 := demand_le (by simpa using hfloor) (by rwa [htable])
  exact ⟨by simpa [demanded_eq] using hlevel, hdemand, by simpa [demanded_eq] using hhold,
    by simpa [demanded_eq] using hduty⟩

/-- The stall source holds the demand of a stalled fan at 3 (R144). -/
theorem demanded_of_stalled (h : s.speedTested.fan.state = .stalled) : s.demanded.demand = 3 := by
  obtain ⟨_, hdemand, _⟩ := demanded_commanded hs
  have hstall : s.speedTested.fanSources.stall = 3 := if_pos h
  refine Nat.le_antisymm hdemand ?_
  calc 3 = s.speedTested.fanSources.stall := hstall.symm
    _ ≤ s.speedTested.fanSources.demand := by simp [FanSources.demand]

theorem evaluateFan_sound : (evaluateFan s).fan.sound := by
  have hcommanded := demanded_commanded hs
  obtain ⟨hfan, _⟩ := id hs
  obtain ⟨_, hcounted, hfloor, _, hoff, _⟩ := (fan_sound_iff _).mp hfan
  have htested : s.speedTested.fan.counted := speedTested_fan s ▸ tested_counted (f := s.closeTach.fan) hcounted _
  have hfollowed : s.demanded.follow.counted := by simpa [Fan.counted, demanded_eq] using htested
  have hstall : s.demanded.follow.state = .stalled → s.demanded.follow.level = 3 ∧ s.demanded.follow.holdDown = 0 := by
    intro h
    exact follow_of_demand_three hcommanded (demanded_of_stalled hs (by simpa [demanded_eq] using h))
  rw [evaluateFan_fan, fan_sound_iff]
  refine ⟨by simpa [Fan.commanded] using follow_commanded hcommanded, moveState_counted hfollowed _, ?_, ?_, ?_, ?_⟩
  · simpa [demanded_eq] using hfloor
  · simp [demanded_eq]
  · rw [moveState_off_iff]
    · simp
    · intro h
      obtain ⟨htop, _⟩ := hstall h
      omega
    · intro h
      obtain ⟨hoff', _⟩ := tested_idle_iff s.closeTach.fan s.fanSlow
      rw [← speedTested_fan] at hoff'
      exact hoff.mp (hoff'.mp (by simpa [demanded_eq] using h))
  · simpa using hstall

end

end Sys2Proof.Machine
end

section
/-! PROOF. Every command keeps the Fan Controller's ranges (R19, R142, R144, R145, R147): what the ranges read, the
blocks that switch a convection fan or deliver a reading, the writers of records, the requests and power-up. -/

namespace Sys2Proof.Machine

/-! ### What the ranges read -/

/-- The fields of the Fan Controller that the ranges speak of, the stored readings, the board reading and the convection
outputs blotted out. -/
def Fan.core (f : Fan) : Fan := { f with stored := .all none, board := none, convection := .all false }

theorem core_sound_iff (f : Fan) : f.core.sound ↔ f.sound := Iff.rfl

/-- The two states agree in all that the ranges read. -/
def SameCooling (s t : State) : Prop := t.table = s.table ∧ t.fan.core = s.fan.core

theorem core_of_keepsOthers {s t : State} {c : Cavity} (h : KeepsOthers s t c) : t.fan.core = s.fan.core := by
  obtain ⟨_, _, _, _, _, _, _, _, _, _, hfan, _⟩ := h
  have hcore := congrArg Fan.core hfan
  exact hcore

section
variable (s : State) (c : Cavity)

/-! ### The Sequencer's switching of the convection fan (R152) -/

@[simp] theorem setConvection_core (on : Bool) : (s.setConvection c on).fan.core = s.fan.core := rfl

@[simp] theorem endCycle_core (outcome : CycleOutcome) (reason : Option AbortReason) (reading : Option CavityReading) :
    (s.endCycle c outcome reason reading).fan.core = s.fan.core :=
  core_of_keepsOthers (endCycle_keepsOthers s c outcome reason reading)

@[simp] theorem beginPhase_core (entering : Bool) : (s.beginPhase c entering).fan.core = s.fan.core := by
  unfold State.beginPhase
  split
  · rename_i n r _ _
    have hwritten : (s.phaseWritten c n r).fan.core = s.fan.core :=
      core_of_keepsOthers (phaseWritten_keepsOthers s c n r)
    cases entering
    · exact hwritten
    · exact (core_of_keepsOthers (closeRelay_keepsOthers (s.phaseWritten c n r) c)).trans hwritten
  · rfl

@[simp] theorem enterRunning_core : (s.enterRunning c).fan.core = s.fan.core := by
  simp [State.enterRunning]

@[simp] theorem endPhase_core (reading : Option CavityReading) : (s.endPhase c reading).fan.core = s.fan.core := by
  unfold State.endPhase
  dsimp only
  split
  · split <;> simp
  · rfl

@[simp] theorem limitReached_core (r : PhaseRecord) (reading : CavityReading) :
    (s.limitReached c r reading).fan.core = s.fan.core := by
  unfold State.limitReached
  dsimp only
  split <;> simp

@[simp] theorem phaseTests_core (reading : CavityReading) : (s.phaseTests c reading).fan.core = s.fan.core := by
  unfold State.phaseTests
  split
  · rfl
  · dsimp only
    split_ifs <;> simp

@[simp] theorem runningReading_core (reading : CavityReading) :
    (s.runningReading c reading).fan.core = s.fan.core := by
  unfold State.runningReading
  dsimp only
  split <;> simp

@[simp] theorem sequenceReading_core (reading : CavityReading) :
    (s.sequenceReading c reading).fan.core = s.fan.core := by
  unfold State.sequenceReading
  split <;> simp

@[simp] theorem takeSequencerReading_core : (takeSequencerReading c s).fan.core = s.fan.core := by
  unfold takeSequencerReading
  split <;> simp

@[simp] theorem takeHeatComplete_core : (takeHeatComplete c s).fan.core = s.fan.core := by
  unfold takeHeatComplete State.heatCompleted
  split
  · rfl
  · dsimp only
    split <;> simp

@[simp] theorem takeLockNotice_core : (takeLockNotice c s).fan.core = s.fan.core := by
  unfold takeLockNotice State.lockNoticed
  split
  · rfl
  · split <;> simp

@[simp] theorem takeTripNotice_core : (takeTripNotice c s).fan.core = s.fan.core := by
  unfold takeTripNotice State.tripNoticed
  split
  · rfl
  · dsimp only
    split <;> simp

@[simp] theorem acceptStart_core (walked : List Nat) (locks : Bool) :
    (s.acceptStart c walked locks).fan.core = s.fan.core := by
  unfold State.acceptStart
  dsimp only
  split <;> simp

/-! ### The readings delivered, and the cavities disabled and enabled (R143, R152) -/

theorem takeFanReading_sameCooling : SameCooling s (takeFanReading c s) := by
  unfold takeFanReading
  split <;> exact ⟨rfl, rfl⟩

theorem takeFanBoard_sameCooling : SameCooling s (takeFanBoard s) := by
  unfold takeFanBoard
  split <;> exact ⟨rfl, rfl⟩

@[simp] theorem disableFan_core : (s.disableFan c).fan.core = s.fan.core := rfl

@[simp] theorem enableFan_core : (s.enableFan c).fan.core = s.fan.core := rfl

theorem disableCavity_core : (disableCavity s c).fan.core = s.fan.core := by
  simp [disableCavity]

theorem enableCavity_sameCooling : SameCooling s (enableCavity s c) := by
  simp [SameCooling, enableCavity]

end

/-! ### The ranges kept -/

theorem fanFloor_le_of_check {x : RawRecord} {r : PhaseRecord} (h : x.check = .ok r) : r.fanFloor ≤ 3 := by
  cases hk : phaseKindOf x.kind with
  | none =>
    rw [check_of_no_kind hk] at h
    cases h
  | some k =>
    obtain ⟨hpass, rfl⟩ := (check_ok_iff hk r).mp h
    have hfloor := passes_of_firstFailing hpass (code := 9) (fails := !decide (x.fanFloor ≤ 3))
      (by simp [RawRecord.fieldChecks])
    simpa [RawRecord.toRecord] using hfloor

namespace State.fanSound

variable {s t : State}

theorem of_same (hs : s.fanSound) (h : SameCooling s t) : t.fanSound := by
  obtain ⟨htable, hcore⟩ := h
  obtain ⟨hfan, hrecords⟩ := hs
  refine ⟨?_, recordAt_congr htable ▸ hrecords⟩
  rw [← core_sound_iff, hcore]
  exact hfan

/-- A record may be erased, and one whose floor is in its range written (R19). -/
theorem setRecord (hs : s.fanSound) {n : Nat} (hn : n < 51) {r : Option PhaseRecord}
    (hr : ∀ x, r = some x → x.fanFloor ≤ 3) : (s.setRecord n r).fanSound := by
  obtain ⟨hfan, hrecords⟩ := hs
  refine ⟨hfan, fun m x hx => ?_⟩
  rw [recordAt_setRecord s hn] at hx
  split at hx
  · exact hr x hx
  · exact hrecords m x hx

/-! ### The Fan Controller's own commands -/

/-- The tach count holds at its limit (R146). -/
theorem countPulse (hs : s.fanSound) : (countPulse s).fanSound := by
  obtain ⟨hfan, hrecords⟩ := hs
  obtain ⟨hcommanded, hcounted, hfloor, _, hstate⟩ := (fan_sound_iff _).mp hfan
  exact ⟨(fan_sound_iff _).mpr ⟨hcommanded, hcounted, hfloor, Nat.min_le_left _ _, hstate⟩, hrecords⟩

theorem evaluateFan (hs : s.fanSound) : (evaluateFan s).fanSound := by
  obtain ⟨_, hrecords⟩ := id hs
  refine ⟨evaluateFan_sound hs, ?_⟩
  rwa [recordAt_congr (show (Machine.evaluateFan s).table = s.table by simp)]

/-! ### The profiles -/

theorem disableCavity (hs : s.fanSound) (c : Cavity) : (disableCavity s c).fanSound := by
  have hemptied : (s.setRecord (inlineSlot c) none).fanSound := hs.setRecord (inlineSlot_lt c) (by simp)
  refine hemptied.of_same ⟨?_, disableCavity_core s c⟩
  simp [Machine.disableCavity]

theorem acceptAppliance (hs : s.fanSound) (a : ApplianceProfile) : (s.acceptAppliance a).fanSound := by
  have hinForce : ({ s with appliance := a } : State).fanSound := hs.of_same ⟨rfl, rfl⟩
  have hdisabled : (s.applianceDisabled a).fanSound :=
    List.foldlRecOn _ _ hinForce fun _ ht c _ => ht.disableCavity c
  have hset : (s.applianceSet a).fanSound :=
    List.foldlRecOn _ _ hdisabled fun t ht c _ => ht.of_same (enableCavity_sameCooling t c)
  rw [acceptAppliance_eq]
  split
  · exact hset
  · exact hset.of_same (by simp [SameCooling])

/-! ### The requests -/

theorem finishStart (hs : s.fanSound) (c : Cavity) (table : Nat → Option PhaseRecord)
    (chain : Except (Nat × ChainCheck) (List Nat)) {write : State → State} (hwrite : (write s).fanSound) :
    (s.finishStart c table chain write).1.fanSound := by
  unfold State.finishStart
  split
  · exact hs
  · split
    · exact hs
    · exact hwrite.of_same (by simp [SameCooling])

end State.fanSound

theorem setFanFloor_keepsFan : OwnerKeeps State.fanSound setFanFloor := by
  intro p s hs
  unfold setFanFloor
  dsimp only
  split
  · exact hs
  · rename_i hfloor
    obtain ⟨hfan, hrecords⟩ := hs
    obtain ⟨hcommanded, hcounted, _, hrest⟩ := (fan_sound_iff _).mp hfan
    exact ⟨(fan_sound_iff _).mpr ⟨hcommanded, hcounted, Nat.le_of_not_lt hfloor, hrest⟩, hrecords⟩

/-- A record that is written has passed its checks (R20, R21). -/
theorem writePhase_keepsFan : OwnerKeeps State.fanSound writePhase := by
  intro p s hs
  unfold writePhase
  dsimp only
  split
  · exact hs
  · rename_i hindex
    have hindex : byteAt p 0 < 48 := Nat.lt_of_not_le hindex
    split
    · exact hs
    · rename_i r hcheck
      split
      · exact hs
      · refine hs.setRecord (by omega) ?_
        rintro _ ⟨rfl⟩
        exact fanFloor_le_of_check hcheck

theorem erasePhase_keepsFan : OwnerKeeps State.fanSound erasePhase := by
  intro p s hs
  unfold erasePhase
  dsimp only
  split
  · exact hs
  · rename_i hindex
    have hindex : byteAt p 0 < 48 := Nat.lt_of_not_le hindex
    split
    · exact hs
    · exact hs.setRecord (by omega) (by simp)

theorem startCycle_keepsFan : OwnerKeeps State.fanSound startCycle :=
  ownerKeeps_ofCavity fun c p s hs => by
    dsimp only
    split
    · exact hs
    · split
      · exact hs
      · exact hs.finishStart c _ _ hs

/-- An inline record that is started has passed its checks (R20, R31). -/
theorem startInline_keepsFan : OwnerKeeps State.fanSound startInline :=
  ownerKeeps_ofCavity fun c p s hs => by
    dsimp only
    split
    · exact hs
    · split
      · exact hs
      · rename_i r hcheck
        refine hs.finishStart c _ _ (hs.setRecord (inlineSlot_lt c) ?_)
        rintro _ ⟨rfl⟩
        exact fanFloor_le_of_check hcheck

theorem applianceProfile_keepsFan : OwnerKeeps State.fanSound applianceProfile := by
  intro p s hs
  unfold applianceProfile
  split
  · exact hs
  · exact hs.acceptAppliance _

/-- A request that leaves the Phase Table and the ranges' fields alone keeps the ranges. -/
theorem ownerKeeps_of_sameCooling {f : Owner} (h : ∀ p s, SameCooling s (f p s).1) : OwnerKeeps State.fanSound f :=
  fun p s hs => hs.of_same (h p s)

theorem setAttention_sameCooling (p : List Byte) (s : State) : SameCooling s (setAttention p s).1 := by
  unfold setAttention
  dsimp only
  split <;> exact ⟨rfl, rfl⟩

theorem setSupply_sameCooling (p : List Byte) (s : State) : SameCooling s (setSupply p s).1 := by
  unfold setSupply
  split <;> simp [SameCooling, State.budgetReply]

theorem declareLoad_sameCooling (p : List Byte) (s : State) : SameCooling s (declareLoad p s).1 := by
  unfold declareLoad
  split <;> simp [SameCooling, State.budgetReply]

theorem abortCycle_keepsFan : OwnerKeeps State.fanSound abortCycle :=
  ownerKeeps_ofCavity fun c => ownerKeeps_of_sameCooling fun p s => by
    split <;> simp [SameCooling]

theorem lockDoor_keepsFan : OwnerKeeps State.fanSound lockDoor :=
  ownerKeeps_ofCavity fun c => ownerKeeps_of_sameCooling fun p s => by
    dsimp only
    split
    · exact ⟨rfl, rfl⟩
    · split
      case h_5 => split <;> exact ⟨rfl, rfl⟩
      all_goals exact ⟨rfl, rfl⟩

theorem unlockDoor_keepsFan : OwnerKeeps State.fanSound unlockDoor :=
  ownerKeeps_ofCavity fun c => ownerKeeps_of_sameCooling fun p s => by
    dsimp only
    split
    · exact ⟨rfl, rfl⟩
    · split
      case h_4 => split_ifs <;> exact ⟨rfl, rfl⟩
      all_goals exact ⟨rfl, rfl⟩

theorem cavityProfile_keepsFan : OwnerKeeps State.fanSound cavityProfile :=
  ownerKeeps_ofCavity fun c => ownerKeeps_of_sameCooling fun p s => by
    split <;> simp [SameCooling]

theorem clearTrip_keepsFan : OwnerKeeps State.fanSound clearTrip :=
  ownerKeeps_ofCavity fun c => ownerKeeps_of_sameCooling fun p s => by
    split <;> simp [SameCooling]

theorem ownerOf_keepsFan (before : LinkState) (k : RequestKind) : OwnerKeeps State.fanSound (ownerOf before k) := by
  cases k with
  | identify | readStatus | readSensor => exact ownerKeeps_of_reads fun _ _ => rfl
  | readTrip => exact ownerKeeps_ofCavity fun _ => ownerKeeps_of_reads fun _ _ => rfl
  | readEvents => exact ownerKeeps_of_reads readEvents_reads
  | readPhase => exact ownerKeeps_of_reads readPhase_reads
  | readProfile => exact ownerKeeps_of_reads readProfile_reads
  | setAttention => exact ownerKeeps_of_sameCooling setAttention_sameCooling
  | setSupply => exact ownerKeeps_of_sameCooling setSupply_sameCooling
  | declareLoad => exact ownerKeeps_of_sameCooling declareLoad_sameCooling
  | setFanFloor => exact setFanFloor_keepsFan
  | writePhase => exact writePhase_keepsFan
  | erasePhase => exact erasePhase_keepsFan
  | startCycle => exact startCycle_keepsFan
  | startInline => exact startInline_keepsFan
  | abortCycle => exact abortCycle_keepsFan
  | lockDoor => exact lockDoor_keepsFan
  | unlockDoor => exact unlockDoor_keepsFan
  | applianceProfile => exact applianceProfile_keepsFan
  | cavityProfile => exact cavityProfile_keepsFan
  | clearTrip => exact clearTrip_keepsFan

theorem framesKeep_fanSound : FramesKeep State.fanSound where
  heard _ hs := hs.of_same (by simp [SameCooling])
  answer _ _ _ _ _ hs := hs.of_same (by simp [SameCooling])
  receiver _ _ hs := hs.of_same ⟨rfl, rfl⟩
  owner := ownerOf_keepsFan

/-! ### Power-up -/

/-- At power-up the fan is OFF at level 0 and every record EMPTY (R18, R155). -/
theorem powerUp_fanSound (s : State) (pins : PowerUpPins) : (powerUp pins s).fanSound := by
  have hpowered : (s.poweredUp pins).fanSound := by
    refine ⟨by simp [State.poweredUp, State.reset, Fan.powerUp, Fan.sound, dutyOf], fun n r hr => ?_⟩
    simp only [State.recordAt, State.poweredUp, State.reset, Vector.getElem?_replicate] at hr
    split at hr <;> cases hr
  exact List.foldlRecOn Cavity.all recoverCavity hpowered fun t ht c _ => ht.of_same (by simp [SameCooling])

/-! ### Every command -/

theorem exec_fanSound {s t : State} {i : Instr} (hs : s.fanSound) (h : exec i s = .next t) : t.fanSound := by
  cases i <;> cases h
  case powerUp pins => exact powerUp_fanSound s pins
  case fanCavityReading c => exact hs.of_same (takeFanReading_sameCooling s c)
  case fanBoardReading => exact hs.of_same (takeFanBoard_sameCooling s)
  case fanEvaluation => exact hs.evaluateFan
  case tachPulse => exact hs.countPulse
  case frameDiscarded chars | frameForOtherNode chars => exact framesKeep_fanSound.takeChars hs chars
  case unknownKind h code p | frameWhileReplyOwed h code p => exact framesKeep_fanSound.takeFrame hs h _ p
  case applianceProfile h p pins =>
    have hread : ({ s with pins := pins } : State).fanSound := hs.of_same ⟨rfl, rfl⟩
    exact framesKeep_fanSound.takeRequest hread s.link.state .applianceProfile h p
  case sampleInstant | wholeSecondReading | sequencerCavityReading | regulateRequest | offRequest |
      heatCompleteNotice | lockNotice | tripNotice | slotEvent | grantWithdrawNotice | senseCheck | doorChange |
      lockSwitchChange | engageTravelTimeout | releaseTravelTimeout | reversalTimeReached | cutoutChange |
      supervisorCavityReading | supervisorBoardReading | supplyRelayClosed | characterGapTimeout | replyComplete |
      quietTimeout | lineBreak | lineReturnHigh =>
    exact hs.of_same (by simp [SameCooling])
  all_goals exact framesKeep_fanSound.takeRequest hs s.link.state _ _ _

/-- Settles O14, by the command at the front of the queue; a tenth of a second changes nothing that the ranges read. -/
theorem fanStaysSound : Obligations.FanStaysSound := by
  intro s t hs h
  unfold step at h
  split at h
  · rename_i i rest _
    have htaken : ({ s with pending := rest } : State).fanSound := hs.of_same ⟨rfl, rfl⟩
    exact exec_fanSound htaken h
  · cases h
    exact hs.of_same ⟨rfl, rfl⟩

end Sys2Proof.Machine
end

section
/-! PROOF. What the Fan Controller takes from outside (R143, R146, R151). -/

namespace Sys2Proof.Machine

section
variable {s : State} {c : Cavity}

theorem takeFanReading_of_delivered {x : CavityReading} {rest : List CavityReading}
    (h : (s.box c).fanReadings = x :: rest) : takeFanReading c s =
      (s.setMail c { s.box c with fanReadings := rest }).setFan
        { s.fan with stored := s.fan.stored.set c (some x.forFan) } := by
  simp only [takeFanReading, h, State.setMail_fan]

theorem takeFanBoard_of_delivered {b : Int} {rest : List Int} (h : s.mail.fanBoard = b :: rest) :
    takeFanBoard s = { s with fan := { s.fan with board := some b }, mail := { s.mail with fanBoard := rest } } := by
  simp only [takeFanBoard, h, State.setFan]

/-- The pulse counter counts up to its limit and holds there (R146). -/
theorem min_tachLimit_succ (n : Nat) : min tachLimit (n + 1) = if n < 1000 then n + 1 else 1000 := by
  unfold tachLimit
  split <;> omega

theorem setFanFloor_of_le {n : Nat} (h : n ≤ 3) : setFanFloor [byte n] s =
    (s.setFan { s.fan with hostFloor := n }, Reply.done [byte n, byte s.fan.level]) := by
  rw [setFanFloor, byteAt_byte (by omega)]
  exact if_neg (by omega)

end

/-- Settles O55, each input by what its command makes of the state. -/
theorem fanInputsTaken : Obligations.FanInputsTaken := by
  refine ⟨fun s c x rest h => ?_, fun s b rest h => ?_, fun s => ?_, fun s h n howed hn => ?_⟩
  · exact congrArg Host.Outcome.next (takeFanReading_of_delivered h)
  · exact congrArg Host.Outcome.next (takeFanBoard_of_delivered h)
  · rw [← min_tachLimit_succ]
    rfl
  · have hrequest := takeRequest_of_taken (k := .setFanFloor) (p := [byte n]) howed rfl rfl h setFanFloor
    rw [setFanFloor_of_le hn] at hrequest
    have hfan : s.heard.fan = s.fan := by simp
    rw [hfan] at hrequest
    exact congrArg Host.Outcome.next hrequest

end Sys2Proof.Machine
end

section
/-! PROOF. The level sources of an evaluation (R144), and the stall and the recovery of the fan (R147 to R150). -/

namespace Sys2Proof.Machine

/-! ### The sources -/

section
variable (s : State)

/-- The highest of a source over the enabled cavities, one by one. -/
theorem highest_eq (f : Cavity → Nat) : s.highest f =
    max (if s.enabled .c0 then f .c0 else 0) (max (if s.enabled .c1 then f .c1 else 0)
      (if s.enabled .c2 then f .c2 else 0)) := by
  have hnext (m : Nat) (c : Cavity) :
      (if s.enabled c then max m (f c) else m) = max m (if s.enabled c then f c else 0) := by
    split
    · rfl
    · exact (Nat.max_zero m).symm
  simp only [State.highest, Cavity.all, List.foldl_cons, List.foldl_nil, hnext, Nat.zero_max, Nat.max_assoc]

theorem temperatureLevel_eq (a : ApplianceProfile) (o : Option FanReading) : a.temperatureLevel o =
    match o with
    | none => 0
    | some r => match r.probe with
      | .unknown => 3
      | .fault => 3
      | _ => (r.tf.map a.levelAt).getD 0 := by
  rcases o with _ | ⟨probe, tf⟩
  · rfl
  · cases probe <;> cases tf <;> rfl

theorem sequencerLevel_eq (c : Cavity) : s.sequencerLevel c =
    match (s.seq.get c).state with
    | .running => ((s.phaseRecord c).map PhaseRecord.fanFloor).getD 0
    | .locking => 2
    | .settling => if (s.seq.get c).lockOwned then 2 else 0
    | .recovering => if (s.seq.get c).lockOwned then 2 else 0
    | _ => 0 := by
  unfold State.sequencerLevel
  dsimp only
  cases (s.seq.get c).state <;> rfl

theorem provenCool_eq (a : ApplianceProfile) (o : Option FanReading) : a.provenCool o =
    o.any fun r => decide (r.probe = .valid) && r.tf.any fun tf => decide (tf < (a.tLow : Int)) := by
  rcases o with _ | ⟨probe, tf⟩
  · rfl
  · cases probe <;> cases tf <;> rfl

theorem tripLevel_eq (c : Cavity) : s.tripLevel c =
    match (s.seq.get c).state, (s.seq.get c).outcome with
    | .faulted, _ => if s.appliance.provenCool (s.fan.stored.get c) then 0 else 3
    | .settling, some .tripped => if s.appliance.provenCool (s.fan.stored.get c) then 0 else 3
    | .recovering, some .tripped => if s.appliance.provenCool (s.fan.stored.get c) then 0 else 3
    | _, _ => 0 := by
  unfold State.tripLevel Sequencer.tripCooled
  cases s.appliance.provenCool (s.fan.stored.get c) <;> cases (s.seq.get c).state <;>
    rcases (s.seq.get c).outcome with _ | _ | _ <;> rfl

theorem boardSource_eq : s.fanSources.board = if s.fan.board.any fun b => decide (700 ≤ b) then 3 else 0 := by
  unfold State.fanSources
  cases s.fan.board <;> simp

/-- The sources of an evaluation are those of before it, with the stall source as it leaves the fan state. -/
theorem evaluateFan_sources : (evaluateFan s).fan.sources =
    { s.fanSources with stall := if (evaluateFan s).fan.state = .stalled then 3 else 0 } := by
  have hstall : (evaluateFan s).fan.state = .stalled ↔ s.speedTested.fan.state = .stalled := by
    simp [evaluateFan_fan, demanded_eq]
  have hsources : (evaluateFan s).fan.sources = s.speedTested.fanSources := by simp [evaluateFan_fan, demanded_eq]
  rw [hsources, fanSources_speedTested]
  simp only [hstall]

end

/-! ### The speed test by the fan state -/

/-- The state in which a stall raises its cause: STALLED, with FAN_STALL queued (R148). -/
def State.stallQueued (s : State) : State :=
  (s.closeTach.setFan { s.closeTach.fan with state := .stalled, stallCount := 0, recoveryCount := 0 }).queueEvent
    .fanStall none 3 (some s.closedRpm)

section
variable {s : State}

theorem speedTested_of_idle (h : s.fan.state = .off ∨ s.fan.state = .spinup) : s.speedTested = s.closeTach :=
  speedTest_of_idle h

theorem speedTested_of_good (hon : s.fan.state = .on) (hgood : s.fanSlow = false) :
    s.speedTested = s.closeTach.setFan { s.closeTach.fan with stallCount := 0 } :=
  (speedTest_of_on (s := s.closeTach) hon).trans (stallTest_of_good hgood)

theorem speedTested_of_counting (hon : s.fan.state = .on) (hslow : s.fanSlow = true) (hcount : s.fan.stallCount < 9) :
    s.speedTested = s.closeTach.setFan { s.closeTach.fan with stallCount := s.fan.stallCount + 1 } :=
  ((speedTest_of_on (s := s.closeTach) hon).trans (stallTest_of_slow hslow)).trans (if_pos hcount)

theorem speedTested_of_stall (hon : s.fan.state = .on) (hslow : s.fanSlow = true) (hcount : s.fan.stallCount = 9) :
    s.speedTested = s.stallQueued.raiseForEnabled .fanStall :=
  ((speedTest_of_on (s := s.closeTach) hon).trans (stallTest_of_slow hslow)).trans (if_neg (Nat.not_lt.mpr hcount.ge))

theorem speedTested_of_stalled (hstalled : s.fan.state = .stalled) :
    s.speedTested = (s.closeTach.raiseForEnabled .fanStall).recoveryTest s.closedRpm :=
  speedTest_of_stalled hstalled

theorem fanSlow_eq_false_iff (s : State) : s.fanSlow = false ↔ ¬ (s.fan.level ≠ 0 ∧
    2 * (s.fan.tachCount * 60 / s.appliance.pulsesPerRev) < s.appliance.nominal s.fan.level) := by
  rw [← fanSlow_iff, Bool.not_eq_true]

/-- A speed test that raises nothing leaves the trips and the link alone. -/
theorem speedTested_raises_nothing (h : s.fan.state ≠ .stalled)
    (hno : s.fan.state = .on → s.fanSlow = true → s.fan.stallCount < 9) :
    s.speedTested.limit = s.limit ∧ s.speedTested.link = s.link ∧ s.speedTested.fan.state = s.fan.state := by
  cases hstate : s.fan.state with
  | off => rw [speedTested_of_idle (.inl hstate)]; exact ⟨rfl, rfl, hstate⟩
  | spinup => rw [speedTested_of_idle (.inr hstate)]; exact ⟨rfl, rfl, hstate⟩
  | stalled => exact absurd hstate h
  | on =>
    cases hslow : s.fanSlow with
    | false => rw [speedTested_of_good hstate hslow]; exact ⟨rfl, rfl, hstate⟩
    | true => rw [speedTested_of_counting hstate hslow (hno hstate hslow)]; exact ⟨rfl, rfl, hstate⟩

/-! ### The evaluation after the speed test -/

theorem evaluateFan_outside (s : State) :
    (evaluateFan s).limit = s.speedTested.limit ∧ (evaluateFan s).drive = s.speedTested.drive ∧
    (evaluateFan s).link = s.speedTested.link ∧ (evaluateFan s).mail = s.speedTested.mail :=
  ⟨rfl, rfl, rfl, rfl⟩

theorem evaluateFan_level (s : State) : (evaluateFan s).fan.level = s.demanded.follow.level := by
  simp [evaluateFan_fan]

theorem evaluateFan_state_stalled_iff (s : State) :
    (evaluateFan s).fan.state = .stalled ↔ s.speedTested.fan.state = .stalled := by
  simp [evaluateFan_fan, demanded_eq]

/-- A fan that the speed test leaves STALLED keeps the counts of the test and stands at full speed (R144, R147). -/
theorem evaluateFan_of_stalled (hs : s.fanSound) (h : s.speedTested.fan.state = .stalled) :
    (evaluateFan s).fan.state = .stalled ∧ (evaluateFan s).fan.stallCount = s.speedTested.fan.stallCount ∧
    (evaluateFan s).fan.recoveryCount = s.speedTested.fan.recoveryCount ∧ (evaluateFan s).fan.demand = 3 ∧
    (evaluateFan s).fan.level = 3 ∧ (evaluateFan s).fan.duty = 100 := by
  have hstate : s.demanded.follow.state = .stalled := by simpa [demanded_eq] using h
  have hfan : (evaluateFan s).fan = s.demanded.follow := (evaluateFan_fan s).trans (moveState_of_stalled hstate)
  obtain ⟨hlevel, _⟩ := follow_of_demand_three (demanded_commanded hs) (demanded_of_stalled hs h)
  obtain ⟨⟨_, _, _, hduty⟩, _⟩ := (fan_sound_iff _).mp (evaluateFan_sound hs)
  rw [hfan] at hduty ⊢
  refine ⟨hstate, by simp [demanded_eq], by simp [demanded_eq], ?_, hlevel, by rw [hduty, hlevel]; rfl⟩
  rw [← demanded_of_stalled hs h]
  simp

/-- Outside SPINUP the fan state and its counts stay as the speed test left them, while the level neither rises nor
falls to 0 (R147). -/
theorem evaluateFan_of_steady (h : s.speedTested.fan.state ≠ .spinup) (hlevel : (evaluateFan s).fan.level ≠ 0)
    (hrise : (evaluateFan s).fan.level ≤ s.fan.level) :
    (evaluateFan s).fan.state = s.speedTested.fan.state ∧ (evaluateFan s).fan.spinup = s.fan.spinup ∧
    (evaluateFan s).fan.stallCount = s.speedTested.fan.stallCount ∧
    (evaluateFan s).fan.recoveryCount = s.speedTested.fan.recoveryCount := by
  rw [evaluateFan_level] at hlevel hrise
  rw [evaluateFan_fan, moveState_of_steady (by simpa [demanded_eq] using h) hlevel (Nat.not_lt.mpr hrise)]
  simp [demanded_eq]

/-- Level 0 takes the counts to 0, and a rise the stall count (R147). -/
theorem moveState_stallCount_zero {f : Fan} (h : f.stallCount = 0) (before : Nat) :
    (f.moveState before).stallCount = 0 := by
  unfold Fan.moveState
  split_ifs <;> simp only [h]

/-! ### The causes of a stall -/

/-- FAN_STALL has been raised for the cavities that heat, and no other is touched (R148, R157). -/
def StallRaised (s t : State) : Prop :=
  (∀ c, s.enabled c = true → (s.seq.get c).state = .locking ∨ (s.seq.get c).state = .running →
    CauseRaised s t c .fanStall) ∧
  (∀ c, s.enabled c = false ∨ ((s.seq.get c).state ≠ .locking ∧ (s.seq.get c).state ≠ .running) →
    t.limit.cavity.get c = s.limit.cavity.get c ∧ t.box c = s.box c)

theorem fanStall_applies (q : SeqState) : Cause.applies .fanStall q = true ↔ q = .locking ∨ q = .running := by
  simp [Cause.applies]

theorem raiseForEnabled_stallRaised (s : State) : StallRaised s (s.raiseForEnabled .fanStall) := by
  refine ⟨fun c henabled hheats => raiseForEnabled_raises henabled ((fanStall_applies _).mpr hheats), fun c h => ?_⟩
  have hleft : s.enabled c = false ∨ Cause.applies .fanStall (s.seq.get c).state = false := by
    rw [← Bool.not_eq_true (Cause.applies _ _), fanStall_applies, not_or]
    exact h
  have hsame := raiseForEnabled_leaves hleft
  exact ⟨hsame.limit, hsame.box⟩

/-- What a stall has raised is told by the enables, the Sequencers, the trips, the relays and the mail. -/
theorem stallRaised_congr {s' t t' : State} (h : StallRaised s t) (happliance : s'.appliance = s.appliance)
    (hseq : s'.seq = s.seq) (hlimit : s'.limit = s.limit) (hmail : s'.mail = s.mail) (hlimit' : t'.limit = t.limit)
    (hdrive' : t'.drive = t.drive) (hmail' : t'.mail = t.mail) : StallRaised s' t' := by
  obtain ⟨hheating, hothers⟩ := h
  refine ⟨fun c henabled hheats => ?_, fun c hc => ?_⟩
  · exact causeRaised_congr hlimit hlimit' hdrive'
      (hheating c ((enabled_congr happliance c).symm.trans henabled) (hseq ▸ hheats))
  · rw [State.box, State.box, hlimit', hmail', hlimit, hmail]
    exact hothers c (by rwa [hseq, enabled_congr happliance c] at hc)

end

/-! ### A stall and a recovery -/

theorem stallRaised_of_stalled {s : State} (hstalled : s.fan.state = .stalled) : StallRaised s (evaluateFan s) := by
  obtain ⟨hlimit, hdrive, _, hmail⟩ := evaluateFan_outside s
  rw [speedTested_of_stalled hstalled] at hlimit hdrive hmail
  exact stallRaised_congr (raiseForEnabled_stallRaised s.closeTach) rfl rfl rfl rfl (hlimit.trans (by simp))
    (hdrive.trans (by simp)) (hmail.trans (by simp))

section
variable {s : State} (hs : s.fanSound)
include hs

/-- The tenth evaluation in a row below half speed (R148). -/
theorem evaluateFan_of_stall (hon : s.fan.state = .on) (hslow : s.fanSlow = true) (hcount : s.fan.stallCount = 9) :
    let t := evaluateFan s
    t.fan.state = .stalled ∧ t.fan.stallCount = 0 ∧ t.fan.recoveryCount = 0 ∧ t.fan.demand = 3 ∧ t.fan.level = 3 ∧
      t.fan.duty = 100 ∧ StallRaised s t ∧
      (s.link.queue.length < 24 →
        (s.link.queue ++ [s.event .fanStall none 3 (some s.closedRpm) false]) <+: t.link.queue) := by
  have htested := speedTested_of_stall hon hslow hcount
  obtain ⟨hlimit, hdrive, hlink, hmail⟩ := evaluateFan_outside s
  rw [htested] at hlimit hdrive hlink hmail
  have hfan : s.speedTested.fan = s.stallQueued.fan := by simp [htested]
  obtain ⟨hstate, hstall, hrecovery, hfull⟩ := evaluateFan_of_stalled hs (hfan ▸ rfl)
  rw [hfan] at hstall hrecovery
  obtain ⟨hdemand, hlevel, hduty⟩ := hfull
  refine ⟨hstate, hstall, hrecovery, hdemand, hlevel, hduty, ?_, fun hroom => ?_⟩
  · exact stallRaised_congr (raiseForEnabled_stallRaised s.stallQueued) rfl rfl rfl rfl hlimit hdrive hmail
  · obtain ⟨hprefix, _⟩ := raiseForEnabled_growsBy s.stallQueued .fanStall
    rw [hlink, ← enqueue_queue hroom]
    exact hprefix

theorem level_of_stalled (hstalled : s.fan.state = .stalled) : (evaluateFan s).fan.level = 3 := by
  obtain ⟨hfan, _⟩ := id hs
  obtain ⟨_, _, _, _, _, hfull⟩ := (fan_sound_iff _).mp hfan
  obtain ⟨hlevel, hhold⟩ := hfull hstalled
  obtain ⟨_, hdemand, _⟩ := demanded_commanded hs
  have hlevel' : s.demanded.level = 3 := by simpa [demanded_eq] using hlevel
  have hhold' : s.demanded.holdDown = 0 := by simpa [demanded_eq] using hhold
  rw [evaluateFan_level]
  rcases Nat.lt_or_eq_of_le hdemand with hlow | htop
  · rw [follow_of_wait (by omega) (by omega)]
    exact hlevel'
  · rw [follow_of_same (htop.trans hlevel'.symm)]
    exact hlevel'

end

end Sys2Proof.Machine
end

section
/-! PROOF. The statement of the demand and the stall (R144, R147 to R150), case by case of the fan state. -/

namespace Sys2Proof.Machine

section
variable {s : State}

/-! ### ON -/

/-- An evaluation below half speed that is not yet the tenth is counted (R148). -/
theorem evaluateFan_of_counting (hon : s.fan.state = .on) (hslow : s.fanSlow = true) (hcount : s.fan.stallCount < 9) :
    let t := evaluateFan s
    t.fan.state ≠ .stalled ∧ t.limit = s.limit ∧ t.link = s.link ∧
      (t.fan.level ≠ 0 → t.fan.level ≤ s.fan.level →
        t.fan.state = .on ∧ t.fan.stallCount = s.fan.stallCount + 1) := by
  have htested := speedTested_of_counting hon hslow hcount
  obtain ⟨hlimit, _, hlink, _⟩ := evaluateFan_outside s
  rw [htested] at hlimit hlink
  have hstate : s.speedTested.fan.state = .on := by rw [htested]; exact hon
  refine ⟨?_, hlimit, hlink, fun hlevel hrise => ?_⟩
  · simp [evaluateFan_state_stalled_iff, hstate]
  · obtain ⟨hsteady, _, hstall, _⟩ := evaluateFan_of_steady (by simp [hstate]) hlevel hrise
    exact ⟨hsteady.trans hstate, hstall.trans (by rw [htested]; rfl)⟩

/-- An evaluation at half speed or above ends the run (R148). -/
theorem evaluateFan_of_good (hon : s.fan.state = .on) (hgood : s.fanSlow = false) :
    let t := evaluateFan s
    t.fan.state ≠ .stalled ∧ t.fan.stallCount = 0 ∧ t.limit = s.limit ∧ t.link = s.link := by
  have htested := speedTested_of_good hon hgood
  obtain ⟨hlimit, _, hlink, _⟩ := evaluateFan_outside s
  rw [htested] at hlimit hlink
  have hstate : s.speedTested.fan.state = .on := by rw [htested]; exact hon
  refine ⟨by simp [evaluateFan_state_stalled_iff, hstate], ?_, hlimit, hlink⟩
  rw [evaluateFan_fan]
  refine moveState_stallCount_zero ?_ _
  simp [demanded_eq, htested]

/-! ### STALLED -/

/-- The speed test of a stalled fan counts towards the recovery, recovers it or begins the count again (R149). -/
theorem speedTested_fan_of_stalled (hstalled : s.fan.state = .stalled) : s.speedTested.fan =
    if s.fanSlow = true then { s.closeTach.fan with recoveryCount := 0 }
    else if s.fan.recoveryCount < 9 then { s.closeTach.fan with recoveryCount := s.fan.recoveryCount + 1 }
    else { s.closeTach.fan with state := .on, stallCount := 0, recoveryCount := 0 } := by
  have hstate : s.closeTach.fan.state = .stalled := hstalled
  rw [speedTested_fan]
  simp only [Fan.tested, hstate]
  rfl

/-- The tenth good evaluation in a row (R149). -/
theorem evaluateFan_of_recovery (hs : s.fanSound) (hstalled : s.fan.state = .stalled) (hgood : s.fanSlow = false)
    (hcount : s.fan.recoveryCount = 9) :
    let t := evaluateFan s
    t.fan.state = .on ∧ t.fan.recoveryCount = 0 ∧ t.fan.stallCount = 0 ∧ t.fan.sources.stall = 0 ∧
      (s.link.queue.length ≤ 20 →
        t.link.queue.getLast? = some (s.event .fanRecovered none 1 (some s.closedRpm) false)) := by
  have hfan := speedTested_fan_of_stalled hstalled
  rw [if_neg (by simp [hgood]), if_neg (by omega)] at hfan
  have hlevel := level_of_stalled hs hstalled
  obtain ⟨hsound, _⟩ := id hs
  obtain ⟨_, _, _, _, _, hfull⟩ := (fan_sound_iff _).mp hsound
  obtain ⟨htop, _⟩ := hfull hstalled
  obtain ⟨hstate, _, hstall, hrecovery⟩ := evaluateFan_of_steady (s := s) (by simp [hfan]) (by omega) (by omega)
  rw [hfan] at hstate hstall hrecovery
  refine ⟨hstate, hrecovery, hstall, ?_, fun hroom => ?_⟩
  · simp [evaluateFan_sources, hstate]
  · have hgood' : (s.closeTach.raiseForEnabled .fanStall).appliance.belowHalf
        (s.closeTach.raiseForEnabled .fanStall).fan.level s.closedRpm = false := by
      simpa using (show s.closeTach.appliance.belowHalf s.closeTach.fan.level s.closedRpm = false from hgood)
    obtain ⟨_, _, hlink, _⟩ := evaluateFan_outside s
    rw [speedTested_of_stalled hstalled, recoveryTest_of_good hgood',
      if_neg (by simp [State.closeTach, hcount])] at hlink
    obtain ⟨_, hlength⟩ := raiseForEnabled_growsBy s.closeTach .fanStall
    have hlength : (s.closeTach.raiseForEnabled .fanStall).link.queue.length ≤ s.link.queue.length + 3 := hlength
    have hqueue := enqueue_queue (l := (s.closeTach.raiseForEnabled .fanStall).link) (by unfold queueLimit; omega)
      ((s.closeTach.raiseForEnabled .fanStall).event .fanRecovered none 1 (some s.closedRpm) false)
    rw [hlink]
    refine (congrArg List.getLast? hqueue).trans ?_
    simp [State.event]

/-- A good evaluation that is not yet the tenth is counted (R149). -/
theorem evaluateFan_of_recovering (hs : s.fanSound) (hstalled : s.fan.state = .stalled) (hgood : s.fanSlow = false)
    (hcount : s.fan.recoveryCount < 9) :
    let t := evaluateFan s
    t.fan.state = .stalled ∧ t.fan.demand = 3 ∧ t.fan.recoveryCount = s.fan.recoveryCount + 1 := by
  have hfan := speedTested_fan_of_stalled hstalled
  rw [if_neg (by simp [hgood]), if_pos hcount] at hfan
  obtain ⟨hstate, _, hrecovery, hdemand, _⟩ := evaluateFan_of_stalled hs (by rw [hfan]; exact hstalled)
  exact ⟨hstate, hdemand, hrecovery.trans (by rw [hfan])⟩

/-- An evaluation below half speed begins the count again (R149). -/
theorem evaluateFan_of_still_slow (hs : s.fanSound) (hstalled : s.fan.state = .stalled) (hslow : s.fanSlow = true) :
    let t := evaluateFan s
    t.fan.state = .stalled ∧ t.fan.demand = 3 ∧ t.fan.recoveryCount = 0 := by
  have hfan := speedTested_fan_of_stalled hstalled
  rw [if_pos hslow] at hfan
  obtain ⟨hstate, _, hrecovery, hdemand, _⟩ := evaluateFan_of_stalled hs (by rw [hfan]; exact hstalled)
  exact ⟨hstate, hdemand, hrecovery.trans (by rw [hfan])⟩

/-! ### OFF, SPINUP and ON (R147) -/

theorem evaluateFan_of_idle (h : s.fan.state = .off ∨ s.fan.state = .spinup) :
    (evaluateFan s).fan.state ≠ .stalled ∧ (evaluateFan s).limit = s.limit ∧ (evaluateFan s).link = s.link := by
  obtain ⟨hlimit, _, hlink, _⟩ := evaluateFan_outside s
  rw [speedTested_of_idle h] at hlimit hlink
  refine ⟨?_, hlimit, hlink⟩
  rw [ne_eq, evaluateFan_state_stalled_iff, speedTested_of_idle h]
  rcases h with h | h <;> simp [State.closeTach, h]

/-- The Fan Controller that the fan state is worked out from, with the level that the evaluation leaves. -/
theorem evaluateFan_followed (h : (evaluateFan s).fan.state ≠ .stalled) : s.demanded.follow.state ≠ .stalled := by
  rwa [evaluateFan_fan, ne_eq, moveState_stalled_iff] at h

theorem evaluateFan_of_zero (hlevel : (evaluateFan s).fan.level = 0) (h : (evaluateFan s).fan.state ≠ .stalled) :
    (evaluateFan s).fan.state = .off ∧ (evaluateFan s).fan.spinup = none ∧ (evaluateFan s).fan.stallCount = 0 ∧
    (evaluateFan s).fan.recoveryCount = 0 := by
  have hstate := evaluateFan_followed h
  rw [evaluateFan_level] at hlevel
  rw [evaluateFan_fan, moveState_of_zero hstate hlevel]
  exact ⟨rfl, rfl, rfl, rfl⟩

theorem evaluateFan_of_rise (hrise : s.fan.level < (evaluateFan s).fan.level)
    (h : (evaluateFan s).fan.state ≠ .stalled) :
    (evaluateFan s).fan.state = .spinup ∧ (evaluateFan s).fan.spinup = some 5 ∧
    (evaluateFan s).fan.stallCount = 0 := by
  have hstate := evaluateFan_followed h
  rw [evaluateFan_level] at hrise
  rw [evaluateFan_fan, moveState_of_rise hstate hrise]
  exact ⟨rfl, rfl, rfl⟩

theorem evaluateFan_of_on (hs : s.fanSound) (hon : s.fan.state = .on) (hlevel : (evaluateFan s).fan.level ≠ 0)
    (hrise : (evaluateFan s).fan.level ≤ s.fan.level) :
    (evaluateFan s).fan.spinup = none ∧ ((evaluateFan s).fan.state = .on ∨ (evaluateFan s).fan.state = .stalled) := by
  obtain ⟨hsound, _⟩ := hs
  obtain ⟨_, ⟨_, hspinning, _⟩, _⟩ := (fan_sound_iff _).mp hsound
  have hnone : s.fan.spinup = none := by simpa [hon] using hspinning
  have htested : s.speedTested.fan.state = .on ∨ s.speedTested.fan.state = .stalled :=
    speedTested_fan s ▸ tested_state_of_on (f := s.closeTach.fan) hon
  obtain ⟨hstate, hspinup, _⟩ := evaluateFan_of_steady (by rcases htested with h | h <;> simp [h]) hlevel hrise
  exact ⟨hspinup.trans hnone, hstate ▸ htested⟩

/-- The evaluations remaining of SPINUP are counted down, and the last enters ON. -/
theorem evaluateFan_of_spinup (hs : s.fanSound) {n : Nat} (hn : s.fan.spinup = some n)
    (hlevel : (evaluateFan s).fan.level ≠ 0) (hrise : (evaluateFan s).fan.level ≤ s.fan.level) :
    (evaluateFan s).fan.stallCount = s.fan.stallCount ∧
    (2 ≤ n → (evaluateFan s).fan.state = .spinup ∧ (evaluateFan s).fan.spinup = some (n - 1)) ∧
    (n = 1 → (evaluateFan s).fan.state = .on ∧ (evaluateFan s).fan.spinup = none) := by
  obtain ⟨hsound, _⟩ := hs
  obtain ⟨_, ⟨_, hspinning, _⟩, _⟩ := (fan_sound_iff _).mp hsound
  have hspinup : s.fan.state = .spinup := hspinning.mp (by simp [hn])
  have htested := speedTested_of_idle (.inr hspinup)
  have hstate : s.demanded.follow.state = .spinup := by simp [demanded_eq, htested, State.closeTach, hspinup]
  rw [evaluateFan_level] at hlevel hrise
  rw [evaluateFan_fan, moveState_of_spinup hstate hlevel (Nat.not_lt.mpr hrise) (by simpa [demanded_eq] using hn)]
  have hstall : s.demanded.follow.stallCount = s.fan.stallCount := by simp [demanded_eq, htested, State.closeTach]
  split
  · exact ⟨hstall, fun _ => by omega, fun _ => ⟨rfl, rfl⟩⟩
  · exact ⟨hstall, fun _ => ⟨hstate, rfl⟩, fun _ => by omega⟩

end

/-! ### The statement -/

/-- Settles O54: the sources source by source, then the evaluation by the fan state that it finds. -/
theorem stallTripsHeatingCavities : Obligations.StallTripsHeatingCavities := by
  refine ⟨fun s => ⟨evaluateFan s, rfl, ?_⟩, fun s hs => ⟨fun hon hslow hcount => ?_, fun hon hslow hcount => ?_,
    fun hon hgood => ?_, fun hstalled => ?_⟩, fun s hs hrunning => ⟨evaluateFan s, rfl, ?_⟩⟩
  · have hsources := evaluateFan_sources s
    refine ⟨?_, ?_, ?_, ?_, ?_, ?_, ?_⟩
    · rw [hsources]
      exact (congrArg s.highest (funext fun c => temperatureLevel_eq _ _)).trans (highest_eq s _)
    · rw [hsources]
      exact (congrArg s.highest (funext (sequencerLevel_eq s))).trans (highest_eq s _)
    · rw [hsources]
      simp only [← provenCool_eq]
      exact (congrArg s.highest (funext (tripLevel_eq s))).trans (highest_eq s _)
    · rw [hsources]
      exact boardSource_eq s
    · rw [hsources]
      rfl
    · rw [hsources]
    · simp [evaluateFan_fan, demanded_eq, FanSources.demand]
  · exact ⟨evaluateFan s, rfl, evaluateFan_of_stall hs hon ((fanSlow_iff s).mpr hslow) hcount⟩
  · exact ⟨evaluateFan s, rfl, evaluateFan_of_counting hon ((fanSlow_iff s).mpr hslow) hcount⟩
  · exact ⟨evaluateFan s, rfl, evaluateFan_of_good hon ((fanSlow_eq_false_iff s).mpr hgood)⟩
  · exact ⟨evaluateFan s, rfl, level_of_stalled hs hstalled, stallRaised_of_stalled hstalled,
      fun hgood hcount => evaluateFan_of_recovery hs hstalled ((fanSlow_eq_false_iff s).mpr hgood) hcount,
      fun hgood hcount => evaluateFan_of_recovering hs hstalled ((fanSlow_eq_false_iff s).mpr hgood) hcount,
      fun hslow => evaluateFan_of_still_slow hs hstalled ((fanSlow_iff s).mpr hslow)⟩
  · have hidle (hoff : s.fan.state ≠ .on) : s.fan.state = .off ∨ s.fan.state = .spinup := by
      cases h : s.fan.state <;> simp [h] at hoff hrunning ⊢
    exact ⟨fun hoff => evaluateFan_of_idle (hidle hoff), evaluateFan_of_zero, evaluateFan_of_rise,
      fun hlevel hrise => ⟨fun hon => evaluateFan_of_on hs hon hlevel hrise,
        fun _ hn => evaluateFan_of_spinup hs hn hlevel hrise⟩⟩

end Sys2Proof.Machine
end

section
/-! PROOF. What stands behind FAULTED (R57, R58, R128, R133, R156, R165): the Supervisor's part for a cavity, the ways
into FAULTED, what the invariant reads of the state, and the parts of the state replaced. -/

namespace Sys2Proof.Machine

/-! ### Trip records -/

/-- The Supervisor's part for a cavity holds sound trip records, and limit counts of at most 3 (R156). -/
def LimitRecord.sound (l : LimitRecord) : Prop :=
  (∀ r, l.active = some r → r.sound) ∧ (∀ x, l.cleared = some x → x.record.sound) ∧ l.overtempCount ≤ 3 ∧
    l.catalystCount ≤ 3

theorem newTrip_sound (s : State) (c : Cavity) (k : Cause) : (s.newTrip c k).sound := by
  simp [TripRecord.sound, State.newTrip]

/-- A later cause that the record does not hold joins it (R163). -/
theorem later_sound {r : TripRecord} {k : Cause} (hr : r.sound) (hk : ¬ (r.first = k ∨ k ∈ r.later)) :
    { r with later := r.later ++ [k] }.sound := by
  obtain ⟨hnodup, hfirst⟩ := hr
  rw [not_or] at hk
  obtain ⟨hne, hnew⟩ := hk
  refine ⟨?_, by simp [hfirst, hne]⟩
  rw [← List.concat_eq_append]
  exact hnodup.concat hnew

/-- A limit count stops at 3 (R158). -/
theorem limitCount_le {n : Nat} (h : n ≤ 3) (state : ChannelState) (t : Option Int) (limit : Nat) :
    limitCount n state t limit ≤ 3 := by
  unfold limitCount
  split
  · split
    · exact Nat.min_le_left ..
    · exact Nat.zero_le 3
  · exact h

section
variable {l : LimitRecord}

theorem sound_of_active (hl : l.sound) {r : TripRecord} (hr : r.sound) : { l with active := some r }.sound := by
  obtain ⟨_, hcleared, hcounts⟩ := hl
  exact ⟨fun _ h => Option.some.inj h ▸ hr, hcleared, hcounts⟩

/-- The active record that is cleared becomes the last cleared record (R166). -/
theorem sound_of_cleared (hl : l.sound) {x : ClearedRecord} (hx : l.active = some x.record) :
    { l with active := none, cleared := some x }.sound := by
  obtain ⟨hactive, _, hcounts⟩ := hl
  exact ⟨by simp, fun y h => Option.some.inj h ▸ hactive _ hx, hcounts⟩

theorem powerUp_limit_sound (cutout : Cutout) : (LimitRecord.powerUp cutout).sound := by
  simp [LimitRecord.sound, LimitRecord.powerUp]

end

section
variable {s : State} {c : Cavity}

/-- Raising a cause leaves the records sound: a new one has no later cause, and one that stands gets a new one (R162,
R163). -/
theorem raise_limit_sound (hl : (s.limit.cavity.get c).sound) (k : Cause) :
    ((s.raise c k).limit.cavity.get c).sound := by
  rcases raise_cases s c k with h | ⟨_, _, h⟩ | ⟨_, r, hactive, h⟩ <;> rw [h]
  · exact hl
  · rw [trip_limit, PerCavity.get_set, if_pos rfl]
    exact sound_of_active hl (newTrip_sound s c k)
  · obtain ⟨hrecords, _⟩ := id hl
    unfold State.laterCause
    split
    · exact hl
    · rename_i hnew
      have hjoined := sound_of_active hl (later_sound (hrecords r hactive) hnew)
      simpa using hjoined

end

/-! ### What the invariant reads -/

/-- A Sequencer in FAULTED, or that will leave SETTLING or RECOVERING for it (R54, R57). -/
def Sequencer.atFault (q : Sequencer) : Prop :=
  q.state = .faulted ∨ (q.state = .settling ∨ q.state = .recovering) ∧ q.outcome = some .tripped

/-- A cavity in FAULTED or on one of the ways into it: by its outcome, by a trip notice in flight or by a jammed lock
(R57, R58, R128, R133). -/
def State.atFault (s : State) (c : Cavity) : Prop :=
  (s.seq.get c).atFault ∨ 0 < (s.box c).tripNotices ∨ (s.locks.get c).state = .jammed

/-- The invariant for one cavity. -/
structure State.TripStands (s : State) (c : Cavity) : Prop where
  records : (s.limit.cavity.get c).sound
  present : s.enabled c = true ↔ (s.seq.get c).state ≠ .absent
  restsOpen : s.enabled c = false → (s.locks.get c).state = .opened
  tripped : s.atFault c → s.tripped c = true

/-- The invariant: trip records are sound, and every cavity in FAULTED or on a way into it is tripped (R156, R165). -/
def State.tripsStand (s : State) : Prop := ∀ c, s.TripStands c

theorem tripsStand_iff (s : State) : s.tripsStand ↔ s.tripsSound ∧ s.faultsTripped := by
  refine ⟨fun h => ⟨fun c => (h c).records, fun c => ?_⟩, fun ⟨hsound, hfaults⟩ c => ?_⟩
  · obtain ⟨_, hpresent, hopen, htripped⟩ := h c
    exact ⟨hpresent, hopen, fun hq => htripped (.inl (.inl hq)), fun hn => htripped (.inr (.inl hn)),
      fun hq => htripped (.inl (.inr hq)), fun hl => htripped (.inr (.inr hl))⟩
  · obtain ⟨hpresent, hopen, hfaulted, hnotice, houtcome, hjammed⟩ := hfaults c
    exact ⟨hsound c, hpresent, hopen, fun h => by
      rcases h with (hq | hq) | hn | hl
      exacts [hfaulted hq, houtcome hq, hnotice hn, hjammed hl]⟩

/-- The states agree in all that the invariant reads of a cavity. -/
structure SameFault (s t : State) (c : Cavity) : Prop where
  limit : t.limit.cavity.get c = s.limit.cavity.get c
  enabled : t.enabled c = s.enabled c
  state : (t.seq.get c).state = (s.seq.get c).state
  outcome : (t.seq.get c).outcome = (s.seq.get c).outcome
  notices : (t.box c).tripNotices = (s.box c).tripNotices
  lock : (t.locks.get c).state = (s.locks.get c).state

theorem tripStands_of_same {s t : State} {c : Cavity} (h : SameFault s t c) (hs : s.TripStands c) :
    t.TripStands c := by
  obtain ⟨hlimit, henabled, hstate, houtcome, hnotices, hlock⟩ := h
  obtain ⟨hrecords, hpresent, hopen, htripped⟩ := hs
  constructor <;>
    simpa only [State.atFault, Sequencer.atFault, State.tripped, hlimit, henabled, hstate, houtcome, hnotices, hlock]

theorem SameFault.trans {s t u : State} {c : Cavity} (hst : SameFault s t c) (htu : SameFault t u c) :
    SameFault s u c :=
  ⟨htu.limit.trans hst.limit, htu.enabled.trans hst.enabled, htu.state.trans hst.state, htu.outcome.trans hst.outcome,
    htu.notices.trans hst.notices, htu.lock.trans hst.lock⟩

/-- A step about one cavity leaves what the invariant reads of every other. -/
theorem sameFault_of_keepsOthers {s t : State} {c d : Cavity} (h : KeepsOthers s t c) (hd : d ≠ c) :
    SameFault s t d := by
  obtain ⟨hothers, _, _, _, happliance, _⟩ := h
  obtain ⟨hseq, _, hlock, hlimit, hbox, _⟩ := hothers d hd
  exact ⟨hlimit, enabled_congr happliance d, by rw [hseq], by rw [hseq], by rw [hbox], by rw [hlock]⟩

/-- The states agree in all that the invariant reads. -/
def SameFaults (s t : State) : Prop :=
  t.limit.cavity = s.limit.cavity ∧ t.appliance = s.appliance ∧ t.locks = s.locks ∧
    (∀ c, (t.seq.get c).state = (s.seq.get c).state ∧ (t.seq.get c).outcome = (s.seq.get c).outcome) ∧
    ∀ c, (t.box c).tripNotices = (s.box c).tripNotices

theorem setSeq_sameFaults {s : State} {c : Cavity} {q : Sequencer} (hstate : q.state = (s.seq.get c).state)
    (houtcome : q.outcome = (s.seq.get c).outcome) : SameFaults s (s.setSeq c q) := by
  refine ⟨rfl, rfl, rfl, fun d => ?_, fun _ => rfl⟩
  rw [State.setSeq_seq, PerCavity.get_set]
  split
  · rename_i hd
    exact hd ▸ ⟨hstate, houtcome⟩
  · exact ⟨rfl, rfl⟩

namespace State.tripsStand

variable {s t : State} {c : Cavity}

theorem of_same (hs : s.tripsStand) (h : SameFaults s t) : t.tripsStand := by
  obtain ⟨hlimit, happliance, hlocks, hseq, hnotices⟩ := h
  intro c
  obtain ⟨hstate, houtcome⟩ := hseq c
  exact tripStands_of_same ⟨by rw [hlimit], enabled_congr happliance c, hstate, houtcome, hnotices c, by rw [hlocks]⟩
    (hs c)

/-- A step about one cavity keeps the invariant where that cavity's part of it stands. -/
theorem of_keepsOthers (hs : s.tripsStand) (h : KeepsOthers s t c) (hc : t.TripStands c) : t.tripsStand := by
  intro d
  by_cases hd : d = c
  · exact hd ▸ hc
  · exact tripStands_of_same (sameFault_of_keepsOthers h hd) (hs d)

/-- A step that trips a present cavity keeps the invariant where it keeps that cavity's records sound. -/
theorem of_tripped (hs : s.tripsStand) (h : KeepsOthers s t c) (hpresent : (s.seq.get c).state ≠ .absent)
    (hseq : t.seq = s.seq) (hrecords : (t.limit.cavity.get c).sound) (htripped : t.tripped c = true) :
    t.tripsStand := by
  obtain ⟨_, _, _, _, happliance, _⟩ := id h
  have henabled : t.enabled c = true := (enabled_congr happliance c).trans ((hs c).present.mpr hpresent)
  exact hs.of_keepsOthers h ⟨hrecords, iff_of_true henabled (hseq ▸ hpresent), by simp [henabled], fun _ => htripped⟩

theorem enabled_of_present (hs : s.tripsStand) (h : (s.seq.get c).state ≠ .absent) : s.enabled c = true :=
  (hs c).present.mpr h

/-- A lock that is not OPEN is that of a cavity that is not ABSENT (R62, R139). -/
theorem present_of_not_open (hs : s.tripsStand) (h : (s.locks.get c).state ≠ .opened) :
    (s.seq.get c).state ≠ .absent := by
  exact (hs c).present.mp (Bool.eq_true_of_not_eq_false fun hdisabled => h ((hs c).restsOpen hdisabled))

theorem setSeq (hs : s.tripsStand) (hpresent : (s.seq.get c).state ≠ .absent) {q : Sequencer} (hq : q.state ≠ .absent)
    (hfault : q.atFault → s.tripped c = true) : (s.setSeq c q).tripsStand := by
  obtain ⟨hrecords, hpresence, hopen, htripped⟩ := hs c
  have hset : (s.setSeq c q).seq.get c = q := by simp
  refine hs.of_keepsOthers (setSeq_keepsOthers s c q) ⟨hrecords, ?_, hopen, fun h => ?_⟩
  · rw [hset]
    exact iff_of_true (hpresence.mpr hpresent) hq
  · rw [State.atFault, hset] at h
    exact h.elim hfault fun h => htripped (.inr h)

theorem setSeq_same (hs : s.tripsStand) (c : Cavity) {q : Sequencer} (hstate : q.state = (s.seq.get c).state)
    (houtcome : q.outcome = (s.seq.get c).outcome) : (s.setSeq c q).tripsStand :=
  hs.of_same (setSeq_sameFaults hstate houtcome)

theorem setLock (hs : s.tripsStand) {l : DoorLock} (hpresent : (s.seq.get c).state ≠ .absent ∨ l.state = .opened)
    (hjammed : l.state = .jammed → s.tripped c = true) : (s.setLock c l).tripsStand := by
  obtain ⟨hrecords, hpresence, _, htripped⟩ := hs c
  have hset : (s.setLock c l).locks.get c = l := by simp
  refine hs.of_keepsOthers (setLock_keepsOthers s c l) ⟨hrecords, hpresence, fun hdisabled => ?_, fun h => ?_⟩
  · rw [hset]
    refine hpresent.resolve_left fun hne => ?_
    exact Bool.false_ne_true (hdisabled.symm.trans (hpresence.mpr hne))
  · rw [State.atFault, hset] at h
    rcases h with h | h | h
    exacts [htripped (.inl h), htripped (.inr (.inl h)), hjammed h]

/-- Trip notices may be taken; none is sent but with a trip (R58, R162). -/
theorem setMail (hs : s.tripsStand) (c : Cavity) {x : Mailbox} (h : x.tripNotices ≤ (s.box c).tripNotices) :
    (s.setMail c x).tripsStand := by
  obtain ⟨hrecords, hpresence, hopen, htripped⟩ := hs c
  refine hs.of_keepsOthers (setMail_keepsOthers s c x) ⟨hrecords, hpresence, hopen, fun hfault => ?_⟩
  rw [State.atFault, setMail_box] at hfault
  exact htripped (hfault.imp_right (Or.imp_left fun hx => Nat.lt_of_lt_of_le hx h))

theorem setLimit (hs : s.tripsStand) {l : LimitRecord} (hl : l.sound)
    (hactive : s.tripped c = true → l.active.isSome = true) : (s.setLimit c l).tripsStand := by
  obtain ⟨_, hpresence, hopen, htripped⟩ := hs c
  have hset : (s.setLimit c l).limit.cavity.get c = l := by simp
  refine hs.of_keepsOthers (setLimit_keepsOthers s c l) ⟨hset.symm ▸ hl, hpresence, hopen, fun hfault => ?_⟩
  rw [State.tripped, hset]
  exact hactive (htripped hfault)

theorem setPins (hs : s.tripsStand) (c : Cavity) (p : SwitchPins) : (s.setPins c p).tripsStand :=
  hs.of_same ⟨rfl, rfl, rfl, fun _ => ⟨rfl, rfl⟩, fun _ => rfl⟩

theorem setFan (hs : s.tripsStand) (f : Fan) : (s.setFan f).tripsStand :=
  hs.of_same ⟨rfl, rfl, rfl, fun _ => ⟨rfl, rfl⟩, fun _ => rfl⟩

theorem setOutput (hs : s.tripsStand) (i : Fin 12) (o : OutputRecord) : (s.setOutput i o).tripsStand :=
  hs.of_same ⟨rfl, rfl, rfl, fun _ => ⟨rfl, rfl⟩, fun _ => rfl⟩

theorem queueEvent (hs : s.tripsStand) (kind : EventKind) (cavity : Option Cavity) (severity : Nat)
    (detail : Option Nat) (additional : Bool) : (s.queueEvent kind cavity severity detail additional).tripsStand :=
  hs.of_same ⟨rfl, rfl, rfl, fun _ => ⟨rfl, rfl⟩, fun _ => rfl⟩

/-! ### Raised causes -/

/-- A cause that applies leaves its cavity tripped, with its notice in flight (R157, R162, R163). -/
theorem raise (hs : s.tripsStand) (c : Cavity) (k : Cause) : (s.raise c k).tripsStand := by
  by_cases happlies : k.applies (s.seq.get c).state = true
  · have hpresent : (s.seq.get c).state ≠ .absent := fun habsent => by
      rw [habsent] at happlies
      cases k <;> cases happlies
    exact hs.of_tripped (raise_keepsOthers s c k) hpresent (by simp) (raise_limit_sound (hs c).records k)
      (raise_trips s c k happlies)
  · rwa [raise_of_not_applies (Bool.eq_false_of_not_eq_true happlies)]

theorem raiseIf (hs : s.tripsStand) (b : Bool) (c : Cavity) (k : Cause) : (s.raiseIf b c k).tripsStand := by
  unfold State.raiseIf
  split
  · exact hs.raise c k
  · exact hs

theorem raiseForEnabled (hs : s.tripsStand) (k : Cause) : (s.raiseForEnabled k).tripsStand := by
  refine List.foldlRecOn Cavity.all _ hs fun t ht c _ => ?_
  split
  · exact ht.raise c k
  · exact ht

/-- A lock that comes to rest in any state stands with the lock cause raised behind it (R128, R133). -/
theorem setLock_raise (hs : s.tripsStand) (hpresent : (s.seq.get c).state ≠ .absent) (l : DoorLock) {k : Cause}
    (hk : k.ofLock) : ((s.setLock c l).raise c k).tripsStand :=
  hs.of_tripped ((setLock_keepsOthers s c l).trans (raise_keepsOthers _ c k)) hpresent (by simp)
    (raise_limit_sound (s := s.setLock c l) (hs c).records k)
    (raise_trips (s.setLock c l) c k (applies_of_ofLock hk hpresent))

theorem closeRelay (hs : s.tripsStand) (c : Cavity) : (s.closeRelay c).tripsStand := by
  rcases closeRelay_cases s c with h | h | ⟨_, _, _, h⟩ <;> rw [h]
  · exact hs
  · exact hs.raise c _
  · exact State.tripsStand.setMail
      (hs.of_same (t := s.setRelay c _) ⟨rfl, rfl, rfl, fun _ => ⟨rfl, rfl⟩, fun _ => rfl⟩) c (Nat.le_refl _)

end State.tripsStand

end Sys2Proof.Machine
end

section
/-! PROOF. The Supervisor, the sense check, the Door Lock Controllers, the Fan Controller, the Sensor Scanner and the
Regulation Unit keep every faulted cavity tripped and its records sound (R128, R133, R156, R158, R165). -/

namespace Sys2Proof.Machine

namespace State.tripsStand

variable {s : State}

/-! ### The Limit Supervisor -/

theorem storeReading (hs : s.tripsStand) (c : Cavity) (r : CavityReading) : (s.storeReading c r).tripsStand := by
  obtain ⟨hactive, hcleared, hovertemp, hcatalyst⟩ := (hs c).records
  exact hs.setLimit ⟨hactive, hcleared, limitCount_le hovertemp _ _ _, limitCount_le hcatalyst _ _ _⟩ id

theorem takeSupervisorReading (hs : s.tripsStand) (c : Cavity) : (takeSupervisorReading c s).tripsStand := by
  unfold Machine.takeSupervisorReading
  split
  · exact hs
  · rename_i r rest _
    have htaken : (s.setMail c { s.box c with supervisorReadings := rest }).tripsStand := hs.setMail c (by rfl)
    exact ((((htaken.storeReading c r).raiseIf _ c _).raiseIf _ c _).raiseIf _ c _).raiseIf _ c _

theorem takeSupervisorBoard (hs : s.tripsStand) : (takeSupervisorBoard s).tripsStand := by
  unfold Machine.takeSupervisorBoard
  split
  · exact hs
  · rename_i b rest _
    have hstored : ({ s with
        mail := { s.mail with supervisorBoard := rest }
        limit := { s.limit with board := some b } } : State).tripsStand :=
      hs.of_same ⟨rfl, rfl, rfl, fun _ => ⟨rfl, rfl⟩, fun _ => rfl⟩
    unfold State.superviseBoard
    dsimp only
    split
    · exact hstored.raiseForEnabled _
    · exact hstored

theorem takeRelayClosing (hs : s.tripsStand) (c : Cavity) : (takeRelayClosing c s).tripsStand := by
  unfold Machine.takeRelayClosing
  split
  · exact hs
  · exact State.tripsStand.raiseIf (hs.setMail c (by rfl)) _ c _

theorem changeCutout (hs : s.tripsStand) (c : Cavity) (value : Cutout) : (changeCutout c value s).tripsStand := by
  have hread := hs.setPins c { s.pins.get c with cutout := value }
  unfold Machine.changeCutout
  dsimp only
  split
  · have hrecorded : ((s.setPins c { s.pins.get c with cutout := value }).setLimit c
        { s.limit.cavity.get c with cutout := value }).tripsStand := hread.setLimit (hs c).records id
    exact hrecorded.raiseIf _ c _
  · exact hread

/-! ### The sense check -/

theorem dropGrant (hs : s.tripsStand) (x : CavityElement) : (s.dropGrant x).tripsStand :=
  hs.of_same (by simp [SameFaults, State.box])

theorem countMiss (hs : s.tripsStand) (j : Judgement) : (s.countMiss j).tripsStand := by
  unfold State.countMiss
  dsimp only
  split_ifs
  · exact hs.setOutput _ _
  · exact hs.setOutput _ _
  · exact State.tripsStand.dropGrant ((hs.setOutput _ _).queueEvent _ _ _ _ _) _

theorem countStuck (hs : s.tripsStand) (j : Judgement) : (s.countStuck j).tripsStand := by
  unfold State.countStuck
  dsimp only
  split
  · exact hs.setOutput _ _
  · exact (hs.setOutput _ _).raise _ _

theorem judge (hs : s.tripsStand) (j : Judgement) : (s.judge j).tripsStand := by
  unfold State.judge
  dsimp only
  split
  · exact hs
  · split
    · exact hs.setOutput _ _
    · exact hs.countMiss j
    · exact hs.countStuck j
    · exact hs.setOutput _ _

theorem checkSense (hs : s.tripsStand) (loads : BitVec 12) : (checkSense loads s).tripsStand := by
  unfold Machine.checkSense
  have hsampled := List.foldlRecOn (motive := State.tripsStand) (s.judgements loads) State.sampleLoad hs
    fun t ht j _ => State.tripsStand.setOutput (s := t) ht _ _
  have hjudged := List.foldlRecOn (motive := State.tripsStand) (s.judgements loads) State.judge hsampled
    fun t ht j _ => State.tripsStand.judge (s := t) ht j
  exact List.foldlRecOn (motive := State.tripsStand) Cavity.all (fun t c => t.raiseIf (t.noHeat c) c .noHeat) hjudged
    fun t ht c _ => State.tripsStand.raiseIf (s := t) ht _ c _

/-! ### The Door Lock Controllers -/

theorem sendLockNotice (hs : s.tripsStand) (c : Cavity) (n : LockNotice) : (s.sendLockNotice c n).tripsStand :=
  hs.setMail c (Nat.le_refl _)

theorem lockEngaged {c : Cavity} (hs : s.tripsStand) (hpresent : (s.seq.get c).state ≠ .absent) (l : DoorLock) :
    (s.lockEngaged c l).tripsStand :=
  (State.tripsStand.queueEvent (hs.setLock (.inl hpresent) (by simp [DoorLock.rest])) _ _ _ _ _).sendLockNotice c _

theorem lockReleased (hs : s.tripsStand) (c : Cavity) (l : DoorLock) : (s.lockReleased c l).tripsStand :=
  (State.tripsStand.queueEvent (hs.setLock (.inr rfl) (by simp [DoorLock.restOpen, DoorLock.rest])) _ _ _ _
    _).sendLockNotice c _

/-- LOCK_JAM joins the queue before the cause is raised (R128, R130). -/
theorem lockJammed {c : Cavity} (hs : s.tripsStand) (hpresent : (s.seq.get c).state ≠ .absent) (l : DoorLock)
    (detail : Nat) : (s.lockJammed c l detail).tripsStand :=
  ((hs.queueEvent .lockJam (some c) 3 (some detail) false).setLock_raise hpresent (l.rest .jammed)
    (.inr (.inl rfl))).sendLockNotice c .atRestJammed

theorem lockLost {c : Cavity} (hs : s.tripsStand) (hpresent : (s.seq.get c).state ≠ .absent) (l : DoorLock) :
    (s.lockLost c l).tripsStand :=
  (hs.setLock_raise hpresent _ (.inr (.inr rfl))).sendLockNotice c _

/-- A switch value that is recorded leaves the lock in its state (R124). -/
theorem setLock_same {c : Cavity} (hs : s.tripsStand) {l : DoorLock} (hl : l.state = (s.locks.get c).state) :
    (s.setLock c l).tripsStand := by
  obtain ⟨hrecords, hpresence, hopen, htripped⟩ := hs c
  have hset : ((s.setLock c l).locks.get c).state = (s.locks.get c).state := by simp [hl]
  refine hs.of_keepsOthers (setLock_keepsOthers s c l) ⟨hrecords, hpresence, fun h => hset.trans (hopen h), fun h => ?_⟩
  rw [State.atFault, hset] at h
  exact htripped h

theorem doorChanged {c : Cavity} (hs : s.tripsStand) (hpresent : (s.seq.get c).state ≠ .absent) (value : DoorSwitch) :
    (s.doorChanged c value).tripsStand := by
  unfold State.doorChanged
  dsimp only
  split
  · exact State.tripsStand.sendLockNotice (hs.setLock (.inl hpresent) (by simp [DoorLock.reverse])) c _
  · exact hs.setLock_raise hpresent _ (.inl rfl)
  · exact hs.setLock_same rfl

theorem changeDoor (hs : s.tripsStand) (c : Cavity) (value : DoorSwitch) : (changeDoor c value s).tripsStand := by
  have hread := hs.setPins c { s.pins.get c with door := value }
  unfold Machine.changeDoor
  dsimp only
  split
  · rename_i hwatched
    rw [Bool.and_eq_true] at hwatched
    obtain ⟨henabled, _⟩ := hwatched
    exact hread.doorChanged ((hread c).present.mp henabled) value
  · exact hread

theorem lockSwitchChanged {c : Cavity} (hs : s.tripsStand) (hpresent : (s.seq.get c).state ≠ .absent)
    (value : LockSwitch) : (s.lockSwitchChanged c value).tripsStand := by
  unfold State.lockSwitchChanged
  dsimp only
  split
  · exact hs.lockEngaged hpresent _
  · exact hs.lockReleased c _
  · exact hs.setLock_same rfl
  · exact hs.lockLost hpresent _
  · exact hs.lockLost hpresent _
  · exact hs.setLock_same rfl

theorem changeLockSwitch (hs : s.tripsStand) (c : Cavity) (value : LockSwitch) :
    (changeLockSwitch c value s).tripsStand := by
  have hread := hs.setPins c { s.pins.get c with lock := value }
  unfold Machine.changeLockSwitch
  dsimp only
  split
  · rename_i hwatched
    rw [Bool.and_eq_true] at hwatched
    obtain ⟨henabled, _⟩ := hwatched
    exact hread.lockSwitchChanged ((hread c).present.mp henabled) value
  · exact hread

theorem engageTimeout (hs : s.tripsStand) (c : Cavity) : (engageTimeout c s).tripsStand := by
  unfold Machine.engageTimeout
  split
  · rename_i hengaging
    exact hs.lockJammed (hs.present_of_not_open (by simp [hengaging])) _ 1
  · exact hs

theorem releaseTimeout (hs : s.tripsStand) (c : Cavity) : (releaseTimeout c s).tripsStand := by
  unfold Machine.releaseTimeout
  split
  · rename_i hreleasing
    exact hs.lockJammed (hs.present_of_not_open (by simp [hreleasing])) _ 2
  · exact hs

theorem reversalReached (hs : s.tripsStand) (c : Cavity) : (reversalReached c s).tripsStand := by
  unfold Machine.reversalReached
  dsimp only
  split
  · exact hs.lockReleased c _
  · exact hs

/-! ### The Fan Controller -/

theorem recoveryTest (hs : s.tripsStand) (rpm : Nat) : (s.recoveryTest rpm).tripsStand := by
  unfold State.recoveryTest
  split_ifs
  · exact hs.setFan _
  · exact hs.setFan _
  · exact (hs.setFan _).queueEvent _ _ _ _ _

theorem stallTest (hs : s.tripsStand) (rpm : Nat) : (s.stallTest rpm).tripsStand := by
  unfold State.stallTest
  split_ifs
  · exact hs.setFan _
  · exact hs.setFan _
  · exact ((hs.setFan _).queueEvent _ _ _ _ _).raiseForEnabled _

theorem speedTest (hs : s.tripsStand) (rpm : Nat) : (s.speedTest rpm).tripsStand := by
  unfold State.speedTest
  split
  · exact hs.stallTest rpm
  · exact (hs.raiseForEnabled _).recoveryTest rpm
  · exact hs
  · exact hs

theorem evaluateFan (hs : s.tripsStand) : (evaluateFan s).tripsStand :=
  (State.tripsStand.setFan (State.tripsStand.speedTest (hs.setFan _) _) _).setFan _

theorem takeFanReading (hs : s.tripsStand) (c : Cavity) : (takeFanReading c s).tripsStand := by
  unfold Machine.takeFanReading
  split
  · exact hs
  · exact State.tripsStand.setFan (hs.setMail c (by rfl)) _

theorem takeFanBoard (hs : s.tripsStand) : (takeFanBoard s).tripsStand := by
  unfold Machine.takeFanBoard
  split
  · exact hs
  · exact hs.of_same ⟨rfl, rfl, rfl, fun _ => ⟨rfl, rfl⟩, fun _ => rfl⟩

/-! ### The Sensor Scanner -/

theorem setScanner (hs : s.tripsStand) (x : Scanner) : (s.setScanner x).tripsStand :=
  hs.of_same ⟨rfl, rfl, rfl, fun _ => ⟨rfl, rfl⟩, fun _ => rfl⟩

theorem deliverCavity (hs : s.tripsStand) (graded : PerCavity Bool) (c : Cavity) :
    (deliverCavity graded s c).tripsStand := by
  unfold Machine.deliverCavity
  dsimp only
  split
  · exact State.tripsStand.setMail (hs.setScanner _) c (by rfl)
  · exact hs

theorem wholeSecond (hs : s.tripsStand) (board : Int) : (wholeSecond board s).tripsStand := by
  have hreference : (referenceSecond s).tripsStand := hs.of_same (by simp [SameFaults, State.box])
  have hgraded := List.foldlRecOn (motive := State.tripsStand) probeChannels gradeChannel hreference
    fun _ ht x _ => ht.of_same (by simp [SameFaults, State.box])
  have hdelivered := List.foldlRecOn (motive := State.tripsStand) Cavity.all (Machine.deliverCavity (fullSecond s))
    hgraded fun _ ht c _ => ht.deliverCavity _ c
  exact hdelivered.of_same ⟨rfl, rfl, rfl, fun _ => ⟨rfl, rfl⟩, fun _ => rfl⟩

/-! ### The Regulation Unit and the Allocator's notice -/

theorem takeRegulate (hs : s.tripsStand) (c : Cavity) (r : RegRequest) : (s.takeRegulate c r).tripsStand := by
  have hposted (x : Regulation) (u : Nat) : ((s.setReg c x).postDemand c u).tripsStand :=
    hs.of_same (by simp [SameFaults, State.box])
  unfold State.takeRegulate
  dsimp only
  split
  · exact (hposted _ _).setMail c (Nat.le_refl _)
  · exact hposted _ _

theorem takeRegulateRequest (hs : s.tripsStand) (c : Cavity) : (takeRegulateRequest c s).tripsStand := by
  unfold Machine.takeRegulateRequest
  split
  · exact hs
  · split
    · exact State.tripsStand.takeRegulate (hs.setMail c (by rfl)) c _
    · exact hs

theorem takeOffRequest (hs : s.tripsStand) (c : Cavity) : (takeOffRequest c s).tripsStand := by
  unfold Machine.takeOffRequest
  split
  · exact hs
  · split
    · exact State.tripsStand.of_same (s := s.dropRegulation c) (hs.setMail c (by rfl)) (by simp [SameFaults, State.box])
    · exact hs

theorem takeWithdrawNotice (hs : s.tripsStand) (c : Cavity) : (takeWithdrawNotice c s).tripsStand := by
  unfold Machine.takeWithdrawNotice
  split
  · exact hs
  · exact State.tripsStand.of_same (s := s.setMail c { s.box c with
      withdrawNotices := (s.box c).withdrawNotices - 1 }) (hs.setMail c (by rfl)) (by simp [SameFaults, State.box])

end State.tripsStand

end Sys2Proof.Machine
end

section
/-! PROOF. The Sequencer enters FAULTED for a tripped cavity alone (R52, R54, R57, R58, R166). -/

namespace Sys2Proof.Machine

/-! ### The settling test and the end of a cycle -/

/-- A Sequencer in SETTLING or RECOVERING, where the settling test is made (R54). -/
def Sequencer.settles (q : Sequencer) : Prop := q.state = .settling ∨ q.state = .recovering

theorem Sequencer.settles.present {q : Sequencer} (h : q.settles) : q.state ≠ .absent := by
  rcases h with h | h <;> simp [h]

/-- A Sequencer leaves for FAULTED by its outcome alone (R54). -/
theorem atFault_of_leave {q : Sequencer} (h : q.leave.atFault) : q.outcome = some .tripped := by
  by_contra houtcome
  simp [Sequencer.atFault, leave_state, houtcome] at h

theorem progress_outcome (q : Sequencer) (r : PhaseRecord) (soakBand : Nat) (reading : CavityReading) :
    (q.progress r soakBand reading).outcome = q.outcome := by
  unfold Sequencer.progress
  split <;> rfl

theorem cycleClosed_limit (s : State) (c : Cavity) (outcome : CycleOutcome) (reason : Option AbortReason)
    (reading : Option CavityReading) : (s.cycleClosed c outcome reason reading).limit = s.limit := by
  unfold State.cycleClosed
  dsimp only
  split <;> simp

theorem postRequest_sameFaults (s : State) (c : Cavity) (mode : RegMode) (reading : Option CavityReading) :
    SameFaults s (s.postRequest c mode reading) := by
  obtain ⟨hlocks, happliance, hstate⟩ := postRequest_sameDoors s c mode reading
  refine ⟨by simp, happliance, hlocks, fun d => ⟨hstate d, ?_⟩, fun d => ?_⟩ <;> by_cases hd : d = c <;>
    simp [State.postRequest, State.postRegulation, State.box, hd]

theorem countTime_sameFaults (s : State) (c : Cavity) : SameFaults s (s.countTime c) := by
  obtain ⟨hlocks, happliance, hstate⟩ := countTime_sameDoors s c
  refine ⟨by simp, happliance, hlocks, fun d => ⟨hstate d, ?_⟩, fun d => by simp [State.box]⟩
  by_cases hd : d = c <;> simp [State.countTime, hd]

theorem phaseWritten_sameFaults (s : State) (c : Cavity) (n : Nat) (r : PhaseRecord) :
    SameFaults s (s.phaseWritten c n r) := by
  obtain ⟨_, _, hlimit, _⟩ := phaseWritten_frame s c n r
  refine ⟨by rw [hlimit], ?_, ?_, fun d => ?_, fun d => ?_⟩
  · cases hheats : r.kind.heats <;> simp [State.phaseWritten, hheats]
  · cases hheats : r.kind.heats <;> simp [State.phaseWritten, hheats]
  · by_cases hd : d = c <;> cases hheats : r.kind.heats <;> simp [State.phaseWritten, hheats, hd]
  · by_cases hd : d = c
    · rw [hd, phaseWritten_box]
    · obtain ⟨hothers, _⟩ := phaseWritten_keepsOthers s c n r
      obtain ⟨_, _, _, _, hbox, _⟩ := hothers d hd
      rw [hbox]

theorem clearTrip_keepsOthers (s : State) (c : Cavity) : KeepsOthers s (s.clearTrip c) c := by
  have hmailed := setMail_keepsOthers s c { s.box c with tripNotices := 0 }
  unfold State.clearTrip
  dsimp only
  split
  · exact ((hmailed.trans (setLimit_keepsOthers _ c _)).trans (setSeq_keepsOthers _ c _)).trans
      (queueEvent_keepsOthers _ c _ _ _ _ _)
  · exact hmailed.trans (setSeq_keepsOthers _ c _)

theorem opened_of_clearRefusal {s : State} {c : Cavity} (h : s.clearRefusal c = none) :
    (s.locks.get c).state = .opened := by
  by_contra hlock
  have hrefused : s.clearRefusal c ≠ none := by
    unfold State.clearRefusal
    dsimp only
    split_ifs <;> simp
  exact hrefused h

namespace State.tripsStand

variable {s : State} {c : Cavity}

theorem countBlind (hs : s.tripsStand) (c : Cavity) (reading : CavityReading) :
    (s.countBlind c reading).tripsStand := by
  unfold State.countBlind
  dsimp only
  split
  · exact hs
  · exact hs.setSeq_same c rfl rfl

/-- The settling test: a Sequencer that leaves for FAULTED has the outcome TRIPPED, or gives up a jammed lock (R54,
R57). -/
theorem settlingTest (hs : s.tripsStand) (hsettles : (s.seq.get c).settles) : (s.settlingTest c).tripsStand := by
  have hpresent := hsettles.present
  have htripped (houtcome : (s.seq.get c).outcome = some .tripped) : s.tripped c = true :=
    (hs c).tripped (.inl (.inr ⟨hsettles, houtcome⟩))
  rcases settlingTest_cases s c with h | h | ⟨hjammed, _, h⟩ | ⟨_, h⟩ <;> rw [h]
  · exact hs
  · exact hs.setSeq hpresent (leave_state_ne_absent _) fun hfault => htripped (atFault_of_leave hfault)
  · have hgiven : s.tripped c = true := (hs c).tripped (.inr (.inr hjammed))
    exact State.tripsStand.setLock_same (hs.setSeq hpresent (by simp) fun _ => hgiven) rfl
  · exact hs.setSeq hpresent (leave_state_ne_absent _) fun hfault => htripped (atFault_of_leave hfault)

/-- A cycle ends TRIPPED for a tripped cavity alone (R52, R58). -/
theorem endCycle (hs : s.tripsStand) (hpresent : (s.seq.get c).state ≠ .absent) {outcome : CycleOutcome}
    (houtcome : outcome = .tripped → s.tripped c = true) (reason : Option AbortReason)
    (reading : Option CavityReading) : (s.endCycle c outcome reason reading).tripsStand := by
  have hothers := cycleClosed_keepsOthers s c outcome reason reading
  obtain ⟨hseq, hlocks⟩ := cycleClosed_seq_locks s c outcome reason reading
  obtain ⟨_, _, hbox⟩ := cycleClosed_outputs s c outcome reason reading
  obtain ⟨_, _, _, _, happliance, _⟩ := id hothers
  have hlimit := cycleClosed_limit s c outcome reason reading
  have henabled := (enabled_congr happliance c).trans (hs.enabled_of_present hpresent)
  obtain ⟨hrecords, _, _, htripped⟩ := hs c
  have hclosed : (s.cycleClosed c outcome reason reading).tripsStand := by
    refine hs.of_keepsOthers hothers
      ⟨hlimit ▸ hrecords, iff_of_true henabled (by simp [hseq]), by simp [henabled], fun hfault => ?_⟩
    rw [tripped_congr hlimit]
    rw [State.atFault, hseq, hbox, hlocks] at hfault
    rcases hfault with hq | hn | hl
    · exact houtcome (by simpa [Sequencer.atFault] using hq)
    · exact htripped (.inr (.inl hn))
    · exact htripped (.inr (.inr hl))
  exact hclosed.settlingTest (.inl (by rw [hseq]))

/-! ### The begin and the end of a phase -/

theorem beginPhase (hs : s.tripsStand) (c : Cavity) (entering : Bool) : (s.beginPhase c entering).tripsStand := by
  unfold State.beginPhase
  split
  · rename_i n r _ _
    have hwritten := hs.of_same (phaseWritten_sameFaults s c n r)
    cases entering
    · exact State.tripsStand.setSeq_same (State.tripsStand.setFan hwritten _) c rfl rfl
    · exact State.tripsStand.setSeq_same (State.tripsStand.setFan (hwritten.closeRelay c) _) c rfl rfl
  · exact hs

theorem enterRunning (hs : s.tripsStand) (hpresent : (s.seq.get c).state ≠ .absent) : (s.enterRunning c).tripsStand :=
  State.tripsStand.beginPhase (hs.setSeq hpresent (by simp) (by simp [Sequencer.atFault])) c true

theorem endPhase (hs : s.tripsStand) (hpresent : (s.seq.get c).state ≠ .absent) (reading : Option CavityReading) :
    (s.endPhase c reading).tripsStand := by
  unfold State.endPhase
  dsimp only
  split
  · split
    · exact State.tripsStand.endCycle (hs.setSeq_same c (by rfl) (by rfl)) (by simpa using hpresent) (by simp) _ _
    · exact State.tripsStand.beginPhase (hs.setSeq_same c (by rfl) (by rfl)) c false
  · exact hs

theorem limitReached (hs : s.tripsStand) (hpresent : (s.seq.get c).state ≠ .absent) (r : PhaseRecord)
    (reading : CavityReading) : (s.limitReached c r reading).tripsStand := by
  unfold State.limitReached
  dsimp only
  split
  · exact (hs.queueEvent _ _ _ _ _).endPhase hpresent _
  · exact (hs.queueEvent _ _ _ _ _).endCycle hpresent (by simp) _ _

theorem phaseTests (hs : s.tripsStand) (hpresent : (s.seq.get c).state ≠ .absent) (reading : CavityReading) :
    (s.phaseTests c reading).tripsStand := by
  unfold State.phaseTests
  split
  · exact hs
  · rename_i r _
    obtain ⟨hstate, _⟩ := progress_standing (s.seq.get c) r (s.profiles.get c).soakBand reading
    have hprogressed := hs.setSeq_same c hstate (progress_outcome _ _ _ _)
    have hpresent' := hstate ▸ hpresent
    dsimp only
    split_ifs
    · exact hprogressed.endPhase (by simpa using hpresent') _
    · exact hprogressed.limitReached (by simpa using hpresent') r _
    · exact hprogressed

/-! ### Readings and notices that the Sequencer takes -/

theorem runningReading (hs : s.tripsStand) (hpresent : (s.seq.get c).state ≠ .absent) (reading : CavityReading) :
    (s.runningReading c reading).tripsStand := by
  obtain ⟨_, _, hstate⟩ := countTime_sameDoors s c
  have htested := (hs.of_same (countTime_sameFaults s c)).phaseTests (c := c) ((hstate c).symm ▸ hpresent) reading
  unfold State.runningReading
  dsimp only
  split
  · exact htested.of_same (postRequest_sameFaults _ c _ _)
  · exact htested

theorem releaseTest (hs : s.tripsStand) (hpresent : (s.seq.get c).state ≠ .absent) (reading : CavityReading) :
    (s.releaseTest c reading).tripsStand := by
  unfold State.releaseTest
  split
  · exact hs.setLock (.inl hpresent) (by simp [DoorLock.release])
  · exact hs

theorem settlingReading (hs : s.tripsStand) (hsettles : (s.seq.get c).settles) (reading : CavityReading) :
    (s.settlingReading c reading).tripsStand := by
  obtain ⟨_, _, hstate⟩ := countBlind_sameDoors s c reading
  have hsettles' : ((s.countBlind c reading).seq.get c).settles := by rwa [Sequencer.settles, hstate c]
  have hseq : ((s.countBlind c reading).releaseTest c reading).seq = (s.countBlind c reading).seq := by simp
  exact ((hs.countBlind c reading).releaseTest hsettles'.present reading).settlingTest (hseq ▸ hsettles')

theorem sequenceReading (hs : s.tripsStand) (c : Cavity) (reading : CavityReading) :
    (s.sequenceReading c reading).tripsStand := by
  unfold State.sequenceReading
  split <;> rename_i hstate
  case h_1 => exact hs.runningReading (by simp [hstate]) reading
  case h_2 => exact hs.settlingReading (.inl hstate) reading
  case h_3 => exact hs.settlingReading (.inr hstate) reading
  case h_4 => exact hs.countBlind c reading
  all_goals exact hs

theorem takeSequencerReading (hs : s.tripsStand) (c : Cavity) : (takeSequencerReading c s).tripsStand := by
  unfold Machine.takeSequencerReading
  split
  · exact hs
  · exact State.tripsStand.sequenceReading (hs.setMail c (by rfl)) c _

theorem heatCompleted (hs : s.tripsStand) (c : Cavity) (position : Nat) : (s.heatCompleted c position).tripsStand := by
  unfold State.heatCompleted
  dsimp only
  split
  · rename_i hheating
    obtain ⟨hrunning, _⟩ := hheating
    exact hs.endPhase (by simp [hrunning]) none
  · exact hs

theorem takeHeatComplete (hs : s.tripsStand) (c : Cavity) : (takeHeatComplete c s).tripsStand := by
  unfold Machine.takeHeatComplete
  split
  · exact hs
  · exact State.tripsStand.heatCompleted (hs.setMail c (by rfl)) c _

theorem lockNoticed (hs : s.tripsStand) (c : Cavity) (n : LockNotice) : (s.lockNoticed c n).tripsStand := by
  unfold State.lockNoticed
  split
  case h_1 h => exact hs.enterRunning (by simp [h])
  case h_2 h => exact hs.endCycle (by simp [h]) (by simp) _ none
  case h_3 h => exact hs.settlingTest (.inl h)
  case h_4 h => exact hs.settlingTest (.inr h)
  case h_5 => exact hs

theorem takeLockNotice (hs : s.tripsStand) (c : Cavity) : (takeLockNotice c s).tripsStand := by
  unfold Machine.takeLockNotice
  split
  · exact hs
  · exact State.tripsStand.lockNoticed (hs.setMail c (by rfl)) c _

/-- The table of R58, for a cavity that a trip notice has found tripped. -/
theorem tripNoticed (hs : s.tripsStand) (htripped : s.tripped c = true) : (s.tripNoticed c).tripsStand := by
  unfold State.tripNoticed
  dsimp only
  split <;> rename_i hstate
  case h_1 | h_2 => exact hs.endCycle (by simp [hstate]) (fun _ => htripped) _ none
  case h_3 =>
    have hset := hs.setSeq (c := c) (q := { s.seq.get c with outcome := some .tripped, abortReason := none })
      (by simp [hstate]) (by simp [hstate]) fun _ => htripped
    exact hset.settlingTest (.inl (by simpa using hstate))
  case h_4 => exact hs.setSeq (by simp [hstate]) (by simp [hstate]) fun _ => htripped
  case h_5 => exact hs.setSeq (by simp [hstate]) (by simp) fun _ => htripped
  case h_6 | h_7 => exact hs

/-- A trip notice in flight is that of a tripped cavity (R162). -/
theorem takeTripNotice (hs : s.tripsStand) (c : Cavity) : (takeTripNotice c s).tripsStand := by
  unfold Machine.takeTripNotice
  split
  · exact hs
  · rename_i hsent
    exact State.tripsStand.tripNoticed (hs.setMail c (Nat.sub_le _ 1))
      ((hs c).tripped (.inr (.inl (Nat.pos_of_ne_zero hsent))))

/-! ### Starts and clearances -/

theorem acceptStart (hs : s.tripsStand) (hpresent : (s.seq.get c).state ≠ .absent) (walked : List Nat) (locks : Bool) :
    (s.acceptStart c walked locks).tripsStand := by
  unfold State.acceptStart
  dsimp only
  split
  · have hlocking := hs.setSeq hpresent (q := { Sequencer.fresh .idle with
      chain := walked, bound := (s.seq.get c).bound, lockOwned := true, state := .locking }) (by simp)
      (by simp [Sequencer.atFault])
    exact hlocking.setLock (.inl (by simp)) (by simp [DoorLock.engage])
  · have hidle := hs.setSeq hpresent (q := { Sequencer.fresh .idle with
      chain := walked, bound := (s.seq.get c).bound }) (by simp [Sequencer.fresh])
      (by simp [Sequencer.atFault, Sequencer.fresh])
    exact hidle.enterRunning (by simp [Sequencer.fresh])

/-- A trip is cleared with the lock OPEN: the Sequencer leaves FAULTED, and no notice of the record is left in flight
(R165, R166; log entry 10). -/
theorem clearTrip (hs : s.tripsStand) (hrefusal : s.clearRefusal c = none) : (s.clearTrip c).tripsStand := by
  have hfaulted := faulted_of_clearRefusal hrefusal
  obtain ⟨hrecords, hpresence, hopen, htripped⟩ := hs c
  obtain ⟨r, hactive⟩ := Option.isSome_iff_exists.mp (htripped (.inl (.inl hfaulted)))
  have henabled : s.enabled c = true := hpresence.mpr (by simp [hfaulted])
  have hothers := clearTrip_keepsOthers s c
  rw [clearTrip_eq hactive] at hothers ⊢
  refine hs.of_keepsOthers hothers ⟨?_, iff_of_true henabled (by simp), hopen, fun hfault => ?_⟩
  · simpa using sound_of_cleared hrecords (x := { record := r, clearedAt := s.clock.uptime }) hactive
  · simp [State.atFault, Sequencer.atFault, State.box, opened_of_clearRefusal hrefusal] at hfault

end State.tripsStand

end Sys2Proof.Machine
end

section
/-! PROOF. The profiles, the requests and power-up keep every faulted cavity tripped and its records sound (R139, R156,
R165, R170, R190), and with them every step does. -/

namespace Sys2Proof.Machine

/-! ### A cavity disabled and a cavity enabled -/

/-- What disabling and enabling a cavity go on from: its records are sound, and a trip notice in flight is that of an
active record. -/
structure State.TripKept (s : State) (c : Cavity) : Prop where
  records : (s.limit.cavity.get c).sound
  notices : 0 < (s.box c).tripNotices → s.tripped c = true

theorem State.TripStands.kept {s : State} {c : Cavity} (h : s.TripStands c) : s.TripKept c :=
  ⟨h.records, fun hn => h.tripped (.inr (.inl hn))⟩

theorem tripKept_of_same {s t : State} {c : Cavity} (h : SameFault s t c) (hs : s.TripKept c) : t.TripKept c := by
  obtain ⟨hlimit, _, _, _, hnotices, _⟩ := h
  obtain ⟨hrecords, htripped⟩ := hs
  constructor <;> simpa only [State.tripped, hlimit, hnotices]

section
variable (s : State) (c : Cavity)

theorem enableLock_keepsOthers : KeepsOthers s (s.enableLock c) c := by
  unfold State.enableLock
  dsimp only
  split
  · exact setLock_keepsOthers s c _
  · exact (setLock_keepsOthers s c _).trans (raise_keepsOthers _ c _)

theorem disableCavity_sameFault {d : Cavity} (hd : d ≠ c) : SameFault s (disableCavity s c) d :=
  ⟨by simp [disableCavity, State.disableLimit, hd], enabled_congr (by simp) d, by simp [disableCavity_seq, hd],
    by simp [disableCavity_seq, hd], by simp [State.box, disableCavity, hd], by simp [disableCavity_locks, hd]⟩

theorem enabledUnlocked_sameFault {d : Cavity} (hd : d ≠ c) : SameFault s (s.enabledUnlocked c) d :=
  ⟨by simp [State.enabledUnlocked, State.enableLimit, hd], enabled_congr (by simp) d, by simp [hd], by simp [hd],
    by simp [State.box], by simp [State.enabledUnlocked]⟩

theorem enableCavity_sameFault {d : Cavity} (hd : d ≠ c) : SameFault s (enableCavity s c) d :=
  (enabledUnlocked_sameFault s c hd).trans (sameFault_of_keepsOthers (enableLock_keepsOthers _ c) hd)

variable {s c}

/-- The counts of a disabled cavity are 0 and its last cleared record is absent; its active record is kept (R170). -/
theorem disableCavity_records (hs : (s.limit.cavity.get c).sound) : ((disableCavity s c).limit.cavity.get c).sound := by
  obtain ⟨hactive, _⟩ := hs
  have hlimit : (disableCavity s c).limit.cavity.get c = { s.limit.cavity.get c with
      reading := none, overtempCount := 0, catalystCount := 0, cleared := none } := by
    simp [disableCavity, State.disableLimit]
  rw [hlimit]
  exact ⟨hactive, by simp, Nat.zero_le 3, Nat.zero_le 3⟩

theorem disableCavity_kept (d : Cavity) (hs : s.TripKept c) : (disableCavity s d).TripKept c := by
  by_cases hd : c = d
  · subst hd
    exact ⟨disableCavity_records hs.records, by simp [State.box, disableCavity, Mailbox.empty]⟩
  · exact tripKept_of_same (disableCavity_sameFault s d hd) hs

/-- A disabled cavity is ABSENT with its lock OPEN and nothing in flight (R62, R139). -/
theorem disableCavity_tripStands (h : s.enabled c = false) (hs : s.TripKept c) : (disableCavity s c).TripStands c := by
  have hdisabled : (disableCavity s c).enabled c = false := (enabled_congr (by simp) c).trans h
  have hseq : (disableCavity s c).seq.get c = Sequencer.fresh .absent := by simp [disableCavity_seq]
  have hlock : (disableCavity s c).locks.get c = (s.locks.get c).restOpen := by simp [disableCavity_locks]
  have hbox : (disableCavity s c).box c = Mailbox.empty := by simp [State.box, disableCavity]
  refine ⟨disableCavity_records hs.records, by simp [hdisabled, hseq, Sequencer.fresh], fun _ => by rw [hlock]; rfl,
    fun hfault => ?_⟩
  rw [State.atFault, hseq, hlock, hbox] at hfault
  simp [Sequencer.atFault, Sequencer.fresh, Mailbox.empty, DoorLock.restOpen, DoorLock.rest] at hfault

/-- The Supervisor's counts of an enabled cavity are 0 (R170). -/
theorem enabledUnlocked_kept (hs : s.TripKept c) : (s.enabledUnlocked c).TripKept c := by
  obtain ⟨⟨hactive, hcleared, _⟩, hnotices⟩ := hs
  have hlimit : (s.enabledUnlocked c).limit.cavity.get c = { s.limit.cavity.get c with
      reading := none, overtempCount := 0, catalystCount := 0, cutout := (s.pins.get c).cutout } := by
    simp [State.enabledUnlocked, State.enableLimit]
  obtain ⟨_, _, _, hmail, _⟩ := enabledUnlocked_frame s c
  constructor
  · rw [hlimit]
    exact ⟨hactive, hcleared, Nat.zero_le 3, Nat.zero_le 3⟩
  · rw [State.tripped, hlimit, State.box, hmail]
    exact hnotices

/-- An enabled cavity is IDLE, and where its lock is jammed LOCK_LOST has tripped it (R139). -/
theorem enableCavity_faultless (hs : s.TripKept c) : ((enableCavity s c).limit.cavity.get c).sound ∧
    ((enableCavity s c).atFault c → (enableCavity s c).tripped c = true) := by
  obtain ⟨hrecords, hnotices⟩ := enabledUnlocked_kept hs
  rw [enableCavity_eq]
  unfold State.enableLock
  dsimp only
  split
  · refine ⟨hrecords, fun hfault => hnotices ?_⟩
    simpa [State.atFault, Sequencer.atFault, Sequencer.fresh, DoorLock.restOpen, DoorLock.rest, State.box] using hfault
  · exact ⟨raise_limit_sound (s := (s.enabledUnlocked c).setLock c _) hrecords _,
      fun _ => raise_trips _ c _ (by simp [Cause.applies, Sequencer.fresh])⟩

theorem enableCavity_kept (d : Cavity) (hs : s.TripKept c) : (enableCavity s d).TripKept c := by
  by_cases hd : c = d
  · subst hd
    obtain ⟨hrecords, hfault⟩ := enableCavity_faultless hs
    exact ⟨hrecords, fun hn => hfault (.inr (.inl hn))⟩
  · exact tripKept_of_same (enableCavity_sameFault s d hd) hs

theorem enableCavity_tripStands (h : s.enabled c = true) (hs : s.TripKept c) : (enableCavity s c).TripStands c := by
  have henabled : (enableCavity s c).enabled c = true := (enabled_congr (by simp) c).trans h
  obtain ⟨hrecords, hfault⟩ := enableCavity_faultless hs
  exact ⟨hrecords, iff_of_true henabled (by simp [enableCavity_eq, Sequencer.fresh]), by simp [henabled], hfault⟩

end

/-! ### The profiles -/

section
variable {s : State} {a : ApplianceProfile}

theorem applianceDisabled_kept {c : Cavity} (hs : s.TripKept c) : (s.applianceDisabled a).TripKept c :=
  List.foldlRecOn (motive := fun t : State => t.TripKept c) _ _ ⟨hs.records, hs.notices⟩
    fun _ ht d _ => disableCavity_kept d ht

/-- Every cavity whose enable the profile changes starts afresh, and every other is left alone (R190). -/
theorem applianceSet_tripsStand (hs : s.tripsStand) : (s.applianceSet a).tripsStand := by
  intro c
  have hdisabled : c ∈ s.enabledBy a ∨ (s.applianceDisabled a).TripStands c := by
    by_cases hon : c ∈ s.enabledBy a
    · exact .inl hon
    · refine .inr (foldl_establishes (P := (·.TripStands c)) (Q := fun t => t.enabled c = false ∧ t.TripKept c)
        (fun t d ⟨ht, hkept⟩ => ⟨(enabled_congr (by simp) c).trans ht, disableCavity_kept d hkept⟩)
        (fun t d hd => tripStands_of_same (disableCavity_sameFault t d hd))
        (fun t ⟨ht, hkept⟩ => disableCavity_tripStands ht hkept) (fun hoff => ?_) ?_)
      · obtain ⟨_, hoff⟩ := mem_disabledBy.mp hoff
        exact ⟨hoff, (hs c).kept.records, (hs c).kept.notices⟩
      · by_cases hoff : c ∈ s.disabledBy a
        · exact .inl hoff
        · exact .inr (tripStands_of_same (s := s) ⟨rfl, enabled_of_unlisted hoff hon, rfl, rfl, rfl, rfl⟩ (hs c))
  refine foldl_establishes (P := (·.TripStands c)) (Q := fun t => t.enabled c = true ∧ t.TripKept c)
    (fun t d ⟨ht, hkept⟩ => ⟨(enabled_congr (by simp) c).trans ht, enableCavity_kept d hkept⟩)
    (fun t d hd => tripStands_of_same (enableCavity_sameFault t d hd))
    (fun t ⟨ht, hkept⟩ => enableCavity_tripStands ht hkept) (fun hon => ?_) hdisabled
  obtain ⟨_, hon⟩ := mem_enabledBy.mp hon
  refine ⟨?_, applianceDisabled_kept (hs c).kept⟩
  rw [State.enabled, applianceDisabled_appliance]
  exact hon

theorem acceptAppliance_tripsStand (hs : s.tripsStand) (a : ApplianceProfile) : (s.acceptAppliance a).tripsStand := by
  have hset := applianceSet_tripsStand (a := a) hs
  rw [acceptAppliance_eq]
  split
  · exact hset
  · exact hset.of_same (by simp [SameFaults, State.box])

theorem acceptProfile_sameFaults (s : State) (c : Cavity) (x : CavityProfile) : SameFaults s (s.acceptProfile c x) := by
  obtain ⟨hlocks, happliance, hstate⟩ := acceptProfile_sameDoors s c x
  refine ⟨by simp, happliance, hlocks, fun d => ⟨hstate d, ?_⟩, by simp [State.box]⟩
  by_cases hd : d = c <;> simp [State.acceptProfile, hd]

end

/-! ### The requests -/

/-- A request that touches nothing that the invariant reads keeps it. -/
theorem ownerKeeps_of_sameFaults {f : Owner} (h : ∀ p s, SameFaults s (f p s).1) : OwnerKeeps State.tripsStand f :=
  fun p s hs => hs.of_same (h p s)

theorem SameFaults.refl (s : State) : SameFaults s s := ⟨rfl, rfl, rfl, fun _ => ⟨rfl, rfl⟩, fun _ => rfl⟩

theorem setAttention_sameFaults (p : List Byte) (s : State) : SameFaults s (setAttention p s).1 := by
  unfold setAttention
  dsimp only
  split
  · exact .refl s
  · exact .refl s

theorem setFanFloor_sameFaults (p : List Byte) (s : State) : SameFaults s (setFanFloor p s).1 := by
  unfold setFanFloor
  dsimp only
  split
  · exact .refl s
  · exact .refl s

theorem setSupply_sameFaults (p : List Byte) (s : State) : SameFaults s (setSupply p s).1 := by
  unfold setSupply
  split <;> simp [SameFaults, State.budgetReply, State.box]

theorem declareLoad_sameFaults (p : List Byte) (s : State) : SameFaults s (declareLoad p s).1 := by
  unfold declareLoad
  split <;> simp [SameFaults, State.budgetReply, State.box]

theorem writePhase_sameFaults (p : List Byte) (s : State) : SameFaults s (writePhase p s).1 := by
  unfold writePhase
  dsimp only
  split
  · exact .refl s
  · split
    · exact .refl s
    · split <;> exact .refl s

theorem erasePhase_sameFaults (p : List Byte) (s : State) : SameFaults s (erasePhase p s).1 := by
  unfold erasePhase
  dsimp only
  split
  · exact .refl s
  · split <;> exact .refl s

theorem finishStart_tripsStand {s : State} {c : Cavity} (hs : s.tripsStand) (hidle : (s.seq.get c).state = .idle)
    (table : Nat → Option PhaseRecord) (chain : Except (Nat × ChainCheck) (List Nat)) {write : State → State}
    (hwrite : SameFaults s (write s)) : (s.finishStart c table chain write).1.tripsStand := by
  have hwritten := hs.of_same hwrite
  obtain ⟨_, _, _, hseq, _⟩ := hwrite
  obtain ⟨hstate, _⟩ := hseq c
  unfold State.finishStart
  split
  · exact hs
  · split
    · exact hs
    · exact hwritten.acceptStart (by simp [hstate, hidle]) _ _

theorem startCycle_keepsTrips : OwnerKeeps State.tripsStand startCycle :=
  ownerKeeps_ofCavity fun c p s hs => by
    dsimp only
    split
    · exact hs
    · rename_i hrefusal
      split
      · exact hs
      · exact finishStart_tripsStand hs (idle_of_startRefusal hrefusal) _ _ (.refl s)

theorem startInline_keepsTrips : OwnerKeeps State.tripsStand startInline :=
  ownerKeeps_ofCavity fun c p s hs => by
    dsimp only
    split
    · exact hs
    · rename_i hrefusal
      split
      · exact hs
      · exact finishStart_tripsStand hs (idle_of_startRefusal hrefusal) _ _ (.refl s)

theorem abortCycle_keepsTrips : OwnerKeeps State.tripsStand abortCycle :=
  ownerKeeps_ofCavity fun c p s hs => by
    split <;> rename_i hstate
    case h_1 | h_2 => exact hs.endCycle (by simp [hstate]) (by simp) _ none
    case h_3 => exact hs

theorem lockDoor_keepsTrips : OwnerKeeps State.tripsStand lockDoor :=
  ownerKeeps_ofCavity fun c p s hs => by
    dsimp only
    split
    · exact hs
    · rename_i hidle
      split
      case h_5 =>
        split
        · exact hs
        · exact hs.setLock (.inl (by simp [Decidable.not_not.mp hidle])) (by simp [DoorLock.engage])
      all_goals exact hs

/-- UNLOCK DOOR takes a lock out of JAMMED, and brings none into it (R137). -/
theorem unlockDoor_keepsTrips : OwnerKeeps State.tripsStand unlockDoor :=
  ownerKeeps_ofCavity fun c p s hs => by
    dsimp only
    split
    · exact hs
    · split
      case h_4 _ hclosed =>
        split_ifs
        · exact hs
        · exact hs.lockReleased c _
        · exact hs.setLock (.inl (hs.present_of_not_open hclosed)) (by simp [DoorLock.release])
      all_goals exact hs

theorem applianceProfile_keepsTrips : OwnerKeeps State.tripsStand applianceProfile := by
  intro p s hs
  unfold applianceProfile
  split
  · exact hs
  · exact acceptAppliance_tripsStand hs _

theorem cavityProfile_keepsTrips : OwnerKeeps State.tripsStand cavityProfile :=
  ownerKeeps_ofCavity fun c p s hs => by
    split
    · exact hs
    · exact hs.of_same (acceptProfile_sameFaults s c _)

theorem clearTrip_keepsTrips : OwnerKeeps State.tripsStand clearTrip :=
  ownerKeeps_ofCavity fun c p s hs => by
    split
    · exact hs
    · rename_i hrefusal
      exact hs.clearTrip hrefusal

theorem ownerOf_keepsTrips (before : LinkState) (k : RequestKind) :
    OwnerKeeps State.tripsStand (ownerOf before k) := by
  cases k with
  | identify | readStatus | readSensor => exact ownerKeeps_of_reads fun _ _ => rfl
  | readTrip => exact ownerKeeps_ofCavity fun _ => ownerKeeps_of_reads fun _ _ => rfl
  | readEvents => exact ownerKeeps_of_reads readEvents_reads
  | readPhase => exact ownerKeeps_of_reads readPhase_reads
  | readProfile => exact ownerKeeps_of_reads readProfile_reads
  | setAttention => exact ownerKeeps_of_sameFaults setAttention_sameFaults
  | setFanFloor => exact ownerKeeps_of_sameFaults setFanFloor_sameFaults
  | setSupply => exact ownerKeeps_of_sameFaults setSupply_sameFaults
  | declareLoad => exact ownerKeeps_of_sameFaults declareLoad_sameFaults
  | writePhase => exact ownerKeeps_of_sameFaults writePhase_sameFaults
  | erasePhase => exact ownerKeeps_of_sameFaults erasePhase_sameFaults
  | startCycle => exact startCycle_keepsTrips
  | startInline => exact startInline_keepsTrips
  | abortCycle => exact abortCycle_keepsTrips
  | lockDoor => exact lockDoor_keepsTrips
  | unlockDoor => exact unlockDoor_keepsTrips
  | applianceProfile => exact applianceProfile_keepsTrips
  | cavityProfile => exact cavityProfile_keepsTrips
  | clearTrip => exact clearTrip_keepsTrips

theorem framesKeep_tripsStand : FramesKeep State.tripsStand where
  heard _ hs := hs.of_same (by simp [SameFaults, State.box])
  answer _ _ _ _ _ hs := hs.of_same (by simp [SameFaults, State.box])
  receiver s _ hs := hs.of_same (.refl s)
  owner := ownerOf_keepsTrips

/-! ### Power-up -/

/-- At power-up no cavity is tripped, every Sequencer is IDLE, and no lock is jammed (R61, R141, R171). -/
theorem poweredUp_tripsStand (s : State) (pins : PowerUpPins) : (s.poweredUp pins).tripsStand := by
  intro c
  have henabled : (s.poweredUp pins).enabled c = true := by cases c <;> rfl
  have hlimit : (s.poweredUp pins).limit.cavity.get c = LimitRecord.powerUp (pins.cavity.get c).cutout := by
    simp [State.poweredUp]
  refine ⟨hlimit ▸ powerUp_limit_sound _,
    iff_of_true henabled (by simp [State.poweredUp, State.reset, Sequencer.fresh]), by simp [henabled],
    fun hfault => ?_⟩
  cases hlock : (pins.cavity.get c).lock <;>
    simp [State.atFault, Sequencer.atFault, Sequencer.fresh, State.box, State.poweredUp, State.reset, Mail.empty,
      Mailbox.empty, DoorLock.powerUp, hlock] at hfault

/-- A cavity whose lock is LOCKED at power-up enters RECOVERING with the outcome RECOVERED (R61). -/
theorem powerUp_tripsStand (s : State) (pins : PowerUpPins) : (powerUp pins s).tripsStand := by
  refine List.foldlRecOn Cavity.all recoverCavity (poweredUp_tripsStand s pins) fun t ht c _ => ?_
  unfold recoverCavity
  dsimp only
  split
  · rename_i hlocked
    have hrecovering := ht.setSeq (ht.present_of_not_open (c := c) (by simp [hlocked])) (q := Sequencer.recovering)
      (by simp [Sequencer.recovering, Sequencer.fresh])
      (by simp [Sequencer.atFault, Sequencer.recovering, Sequencer.fresh])
    exact (hrecovering.queueEvent .recoveryBegun (some c) 2 none false).raiseIf _ c _
  · exact ht

/-! ### Every command -/

theorem exec_tripsStand {s t : State} {i : Instr} (hs : s.tripsStand) (h : exec i s = .next t) : t.tripsStand := by
  cases i <;> cases h
  case powerUp pins => exact powerUp_tripsStand s pins
  case wholeSecondReading board => exact hs.wholeSecond board
  case sequencerCavityReading c => exact hs.takeSequencerReading c
  case regulateRequest c => exact hs.takeRegulateRequest c
  case offRequest c => exact hs.takeOffRequest c
  case heatCompleteNotice c => exact hs.takeHeatComplete c
  case lockNotice c => exact hs.takeLockNotice c
  case tripNotice c => exact hs.takeTripNotice c
  case grantWithdrawNotice c => exact hs.takeWithdrawNotice c
  case senseCheck loads => exact hs.checkSense loads
  case doorChange c value => exact hs.changeDoor c value
  case lockSwitchChange c value => exact hs.changeLockSwitch c value
  case engageTravelTimeout c => exact hs.engageTimeout c
  case releaseTravelTimeout c => exact hs.releaseTimeout c
  case reversalTimeReached c => exact hs.reversalReached c
  case cutoutChange c value => exact hs.changeCutout c value
  case supervisorCavityReading c => exact hs.takeSupervisorReading c
  case supervisorBoardReading => exact hs.takeSupervisorBoard
  case supplyRelayClosed c => exact hs.takeRelayClosing c
  case fanCavityReading c => exact hs.takeFanReading c
  case fanBoardReading => exact hs.takeFanBoard
  case fanEvaluation => exact hs.evaluateFan
  case frameDiscarded chars | frameForOtherNode chars => exact framesKeep_tripsStand.takeChars hs chars
  case unknownKind h code p | frameWhileReplyOwed h code p => exact framesKeep_tripsStand.takeFrame hs h _ p
  case applianceProfile h p pins =>
    have hread : ({ s with pins := pins } : State).tripsStand := hs.of_same (.refl s)
    exact framesKeep_tripsStand.takeRequest hread s.link.state .applianceProfile h p
  case sampleInstant | slotEvent | characterGapTimeout | replyComplete | quietTimeout | lineBreak | tachPulse |
      lineReturnHigh =>
    exact hs.of_same (by simp [SameFaults, State.box])
  all_goals exact framesKeep_tripsStand.takeRequest hs s.link.state _ _ _

/-- A tenth of a second moves the travel timers, and leaves every lock in its state (R126). -/
theorem tick_tripsStand {s : State} (hs : s.tripsStand) : s.tick.tripsStand := by
  intro c
  have hticked : s.tick.locks.get c = (s.locks.get c).tick := PerCavity.get_map _ _ c
  have hstate : (s.tick.locks.get c).state = (s.locks.get c).state := by
    rw [hticked]
    rfl
  exact tripStands_of_same (s := s) ⟨rfl, rfl, rfl, rfl, rfl, hstate⟩ (hs c)

/-- Settles O13, by the command at the front of the queue, or the tenth of a second that passes. -/
theorem tripsStaySound : Obligations.TripsStaySound := by
  intro s t hsound hfaults h
  have hs : s.tripsStand := (tripsStand_iff s).mpr ⟨hsound, hfaults⟩
  refine (tripsStand_iff t).mp ?_
  unfold step at h
  split at h
  · rename_i i rest _
    have htaken : ({ s with pending := rest } : State).tripsStand := hs.of_same (.refl s)
    exact exec_tripsStand htaken h
  · cases h
    exact tick_tripsStand hs

end Sys2Proof.Machine
end

section
/-! PROOF. A cause raised for a cavity where one may have been raised before (R156, R162, R163): what it leaves of the
cavity's record and mail, and the first cause, which stands. -/

namespace Sys2Proof.Machine

/-! ### What raising a cause leaves -/

/-- A step leaves a cavity's part of the Supervisor but its active record, and its mail but the trip notices. -/
structure KeepsReading (s t : State) (c : Cavity) : Prop where
  record : { t.limit.cavity.get c with active := (s.limit.cavity.get c).active } = s.limit.cavity.get c
  box : { t.box c with tripNotices := (s.box c).tripNotices } = s.box c

section
variable {s t u : State} {c : Cavity} {k j : Cause}

theorem KeepsReading.refl (s : State) (c : Cavity) : KeepsReading s s c := ⟨rfl, rfl⟩

theorem KeepsReading.trans (hst : KeepsReading s t c) (htu : KeepsReading t u c) : KeepsReading s u c :=
  ⟨(congrArg (fun l : LimitRecord => { l with active := (s.limit.cavity.get c).active }) htu.record).trans hst.record,
    (congrArg (fun b : Mailbox => { b with tripNotices := (s.box c).tripNotices }) htu.box).trans hst.box⟩

theorem raise_keepsReading (s : State) (c : Cavity) (k : Cause) : KeepsReading s (s.raise c k) c := by
  rcases raise_cases s c k with h | ⟨_, _, h⟩ | ⟨_, r, _, h⟩ <;> rw [h]
  · exact .refl s c
  · obtain ⟨_, _, _, hbox⟩ := trip_parts s c k
    exact ⟨by simp [trip_limit], by rw [hbox]⟩
  · unfold State.laterCause
    split
    · exact .refl s c
    · exact ⟨by simp, rfl⟩

/-- Raising a cause closes no relay (R113, R162). -/
theorem raise_relayOpen (h : s.relayClosed c = false) (k : Cause) : (s.raise c k).relayClosed c = false := by
  rcases raise_cases s c k with h' | ⟨_, _, h'⟩ | ⟨_, r, _, h'⟩ <;> rw [h']
  · exact h
  · exact trip_relayOpen s c k
  · exact (relayClosed_congr (by simp) c).trans h

/-- A record that stands keeps its first cause (R163). -/
theorem raise_first {r : TripRecord} (h : (s.limit.cavity.get c).active = some r) (k : Cause) :
    ∃ r', ((s.raise c k).limit.cavity.get c).active = some r' ∧ r'.first = r.first := by
  by_cases happlies : k.applies (s.seq.get c).state = true
  · obtain ⟨_, _, hfirst⟩ := raise_raises s c k happlies
    exact hfirst r h
  · exact ⟨r, by rwa [raise_of_not_applies (Bool.eq_false_of_not_eq_true happlies)], rfl⟩

/-- What has been raised stays raised, as the first cause where it was the first (R163). -/
theorem causeRaised_raise (h : CauseRaised s t c k) (j : Cause) : CauseRaised s (t.raise c j) c k := by
  obtain ⟨hholds, hfirst, hkept⟩ := h
  refine ⟨raise_holdsCause t c c k j hholds, fun hclear => ?_, fun r hr => ?_⟩
  · obtain ⟨hopen, r, hactive, hr⟩ := hfirst hclear
    obtain ⟨r', hactive', hr'⟩ := raise_first hactive j
    exact ⟨raise_relayOpen hopen j, r', hactive', hr'.trans hr⟩
  · obtain ⟨r', hactive', hr'⟩ := hkept r hr
    obtain ⟨r'', hactive'', hr''⟩ := raise_first hactive' j
    exact ⟨r'', hactive'', hr''.trans hr'⟩

/-- What has been raised in a step is told by the active record before it. -/
theorem causeRaised_of_active (hactive : (u.limit.cavity.get c).active = (s.limit.cavity.get c).active)
    (h : CauseRaised u t c k) : CauseRaised s t c k := by
  simpa only [CauseRaised, State.tripped, hactive] using h

end

/-! ### A cause raised on a condition -/

section
variable {s t : State} {b : Bool} {c : Cavity} {k j : Cause}

/-- A cause is raised where its condition holds and it applies, and otherwise nothing happens (R157). -/
theorem raiseIf_cases (s : State) (b : Bool) (c : Cavity) (k : Cause) : s.raiseIf b c k = s ∨
    (b = true ∧ k.applies (s.seq.get c).state = true ∧ s.raiseIf b c k = s.raise c k) := by
  unfold State.raiseIf
  cases b with
  | false => exact .inl rfl
  | true =>
    cases happlies : k.applies (s.seq.get c).state with
    | false => exact .inl (raise_of_not_applies happlies)
    | true => exact .inr ⟨rfl, rfl, rfl⟩

theorem raiseIf_of_not (h : ¬ (b = true ∧ k.applies (s.seq.get c).state = true)) : s.raiseIf b c k = s :=
  (raiseIf_cases s b c k).resolve_right fun ⟨hb, happlies, _⟩ => h ⟨hb, happlies⟩

theorem raiseIf_raises (hb : b = true) (happlies : k.applies (s.seq.get c).state = true) :
    CauseRaised s (s.raiseIf b c k) c k := by
  rw [State.raiseIf, if_pos hb]
  exact raise_raises s c k happlies

/-- A cause that is raised on a condition leaves the cavity as it was, or tripped. -/
theorem raiseIf_of_untripped (h : (s.raiseIf b c k).tripped c = false) : s.raiseIf b c k = s := by
  refine (raiseIf_cases s b c k).resolve_right fun ⟨_, happlies, hraised⟩ => ?_
  rw [hraised, raise_trips s c k happlies] at h
  cases h

theorem raiseIf_tripped (h : s.tripped c = true) : (s.raiseIf b c k).tripped c = true := by
  rcases raiseIf_cases s b c k with h' | ⟨_, _, h'⟩ <;> rw [h']
  · exact h
  · exact raise_tripped s c c k h

theorem raiseIf_keepsReading (s : State) (b : Bool) (c : Cavity) (k : Cause) : KeepsReading s (s.raiseIf b c k) c := by
  rcases raiseIf_cases s b c k with h | ⟨_, _, h⟩ <;> rw [h]
  · exact .refl s c
  · exact raise_keepsReading s c k

theorem raiseIf_keepsOthers (s : State) (b : Bool) (c : Cavity) (k : Cause) : KeepsOthers s (s.raiseIf b c k) c := by
  rcases raiseIf_cases s b c k with h | ⟨_, _, h⟩ <;> rw [h]
  · exact .refl s c
  · exact raise_keepsOthers s c k

theorem raiseIf_relayOpen (h : s.relayClosed c = false) : (s.raiseIf b c k).relayClosed c = false := by
  rcases raiseIf_cases s b c k with h' | ⟨_, _, h'⟩ <;> rw [h']
  · exact h
  · exact raise_relayOpen h k

theorem causeRaised_raiseIf (h : CauseRaised s t c k) (b : Bool) (j : Cause) :
    CauseRaised s (t.raiseIf b c j) c k := by
  rcases raiseIf_cases t b c j with h' | ⟨_, _, h'⟩ <;> rw [h']
  · exact h
  · exact causeRaised_raise h j

theorem holdsCause_of_raiseIf (h : (s.raiseIf b c k).holdsCause c j) :
    s.holdsCause c j ∨ (j = k ∧ b = true ∧ k.applies (s.seq.get c).state = true) := by
  rcases raiseIf_cases s b c k with h' | ⟨hb, happlies, h'⟩ <;> rw [h'] at h
  · exact .inl h
  · exact (holdsCause_of_raise h).imp_right fun ⟨_, hj⟩ => ⟨hj, hb, happlies⟩

end

/-! ### The cut-out and the board -/

theorem cutout_applies (q : SeqState) : Cause.applies .cutout q = true ↔ q = .locking ∨ q = .running := by
  simp [Cause.applies]

theorem probeFault_applies (q : SeqState) : Cause.applies .probeFault q = true ↔ q = .locking ∨ q = .running := by
  simp [Cause.applies]

theorem boardOvertemp_applies (q : SeqState) : Cause.applies .boardOvertemp q = true ↔ q = .locking ∨ q = .running := by
  simp [Cause.applies]

theorem cutoutFeeds_iff (s : State) (c : Cavity) :
    s.cutoutFeeds c = true ↔ (s.limit.cavity.get c).cutout = .opened ∧ s.relayClosed c = true := by
  simp [State.cutoutFeeds]

/-- An OPEN cut-out with the relay CLOSED raises CUTOUT for a cavity in LOCKING or RUNNING (R157, R160). -/
theorem raiseCutout_of_feeds {s : State} {c : Cavity} (hcutout : (s.limit.cavity.get c).cutout = .opened)
    (hrelay : s.relayClosed c = true) (hheats : (s.seq.get c).state = .locking ∨ (s.seq.get c).state = .running) :
    s.raiseIf (s.cutoutFeeds c) c .cutout = s.raise c .cutout ∧ CauseRaised s (s.raise c .cutout) c .cutout := by
  have hfeeds : s.cutoutFeeds c = true := (cutoutFeeds_iff s c).mpr ⟨hcutout, hrelay⟩
  exact ⟨if_pos hfeeds, raise_raises s c .cutout ((cutout_applies _).mpr hheats)⟩

theorem raiseCutout_of_not {s : State} {c : Cavity} (h : ¬ ((s.limit.cavity.get c).cutout = .opened ∧
      s.relayClosed c = true ∧ ((s.seq.get c).state = .locking ∨ (s.seq.get c).state = .running))) :
    s.raiseIf (s.cutoutFeeds c) c .cutout = s := by
  refine raiseIf_of_not fun ⟨hfeeds, happlies⟩ => h ?_
  obtain ⟨hcutout, hrelay⟩ := (cutoutFeeds_iff s c).mp hfeeds
  exact ⟨hcutout, hrelay, (cutout_applies _).mp happlies⟩

end Sys2Proof.Machine
end

section
/-! PROOF. The board readings, the cut-out changes and the relay closings (R157, R160, R161; log entry 5). -/

namespace Sys2Proof.Machine

/-! ### The board -/

section
variable (s : State) (k : Cause)

theorem raiseEnabled_keepsOthers (c : Cavity) : KeepsOthers s (s.raiseEnabled k c) c := by
  rcases raiseEnabled_cases s k c with h | h <;> rw [h]
  · exact .refl s c
  · exact raise_keepsOthers s c k

/-- The board reading and the board readings in flight as they were. -/
theorem raiseEnabled_board (c : Cavity) : (s.raiseEnabled k c).limit.board = s.limit.board ∧
    (s.raiseEnabled k c).mail.supervisorBoard = s.mail.supervisorBoard := by
  obtain ⟨_, _, _, _, _, _, _, hboard, hmail, _⟩ := raiseEnabled_keepsOthers s k c
  exact ⟨hboard, hmail⟩

theorem raiseForEnabled_board : (s.raiseForEnabled k).limit.board = s.limit.board ∧
    (s.raiseForEnabled k).mail.supervisorBoard = s.mail.supervisorBoard := by
  rw [raiseForEnabled_eq]
  simp only [raiseEnabled_board, and_self]

end

/-- A board reading is taken out of the mail and stored (R161). -/
def State.boardStored (s : State) (b : Int) (rest : List Int) : State :=
  { s with limit := { s.limit with board := some b }, mail := { s.mail with supervisorBoard := rest } }

theorem exec_supervisorBoardReading {s : State} {b : Int} {rest : List Int} (h : s.mail.supervisorBoard = b :: rest) :
    exec .supervisorBoardReading s = .next
      (if 850 ≤ b then (s.boardStored b rest).raiseForEnabled .boardOvertemp else s.boardStored b rest) := by
  have htaken : takeSupervisorBoard s =
      ({ s with mail := { s.mail with supervisorBoard := rest } }).superviseBoard b := by
    simp only [takeSupervisorBoard, h]
  exact congrArg Host.Outcome.next htaken

/-! ### The cut-outs -/

section
variable {s : State} {c : Cavity}

/-- A cut-out's value is recorded, as a pin and by the Supervisor (R160). -/
def State.cutoutRecorded (s : State) (c : Cavity) (v : Cutout) : State :=
  (s.setPins c { s.pins.get c with cutout := v }).setLimit c { s.limit.cavity.get c with cutout := v }

theorem cutoutRecorded_limit (s : State) (c : Cavity) (v : Cutout) :
    (s.cutoutRecorded c v).limit.cavity.get c = { s.limit.cavity.get c with cutout := v } := by
  simp [State.cutoutRecorded]

/-- A cut-out that is watched and changes is recorded, and raises CUTOUT where it feeds (R160). -/
theorem exec_cutoutChange_of_change {v w : Cutout} (henabled : s.enabled c = true)
    (hcutout : (s.limit.cavity.get c).cutout = w) (hne : w ≠ v) : exec (.cutoutChange c v) s =
      .next ((s.cutoutRecorded c v).raiseIf ((s.cutoutRecorded c v).cutoutFeeds c) c .cutout) := by
  have hwatched : (s.enabled c && decide ((s.limit.cavity.get c).cutout ≠ v)) = true := by
    simp [henabled, hcutout, hne]
  exact congrArg Host.Outcome.next (if_pos hwatched)

theorem exec_cutoutChange_of_none {v : Cutout} (h : s.enabled c = false ∨ (s.limit.cavity.get c).cutout = v) :
    exec (.cutoutChange c v) s = .next (s.setPins c { s.pins.get c with cutout := v }) := by
  have hpassed : ¬ (s.enabled c && decide ((s.limit.cavity.get c).cutout ≠ v)) = true := by
    rcases h with h | h <;> simp [h]
  exact congrArg Host.Outcome.next (if_neg hpassed)

/-- A closing of the supply relay is taken out of the mail (R160). -/
def State.closingTaken (s : State) (c : Cavity) : State :=
  s.setMail c { s.box c with relayClosings := (s.box c).relayClosings - 1 }

theorem exec_supplyRelayClosed (h : 0 < (s.box c).relayClosings) : exec (.supplyRelayClosed c) s =
    .next ((s.closingTaken c).raiseIf ((s.closingTaken c).cutoutFeeds c) c .cutout) :=
  congrArg Host.Outcome.next (if_neg (Nat.ne_of_gt h))

theorem setMail_raisesOnly (s : State) (c : Cavity) (x : Mailbox) : RaisesOnly s (s.setMail c x) c :=
  ⟨rfl, fun _ hd => ⟨rfl, rfl, rfl, by simp [State.box, hd]⟩, rfl, rfl, rfl, rfl, rfl, rfl⟩

end

/-- The board reading by its figure: 850 or more raises BOARD_OVERTEMP for every enabled cavity that it applies to
(R157, R161). -/
theorem boardReading_raises (s : State) (b : Int) (rest : List Int) :
    let t := (s.boardStored b rest).raiseForEnabled .boardOvertemp
    ∀ c, (s.enabled c = true → (s.seq.get c).state = .locking ∨ (s.seq.get c).state = .running →
        CauseRaised s t c .boardOvertemp) ∧
      (s.enabled c = false ∨ ((s.seq.get c).state ≠ .locking ∧ (s.seq.get c).state ≠ .running) →
        t.limit.cavity.get c = s.limit.cavity.get c ∧ t.box c = s.box c) := by
  refine fun c => ⟨fun henabled hheats => ?_, fun hother => ?_⟩
  · exact raiseForEnabled_raises (s := s.boardStored b rest) henabled ((boardOvertemp_applies _).mpr hheats)
  · have hleft : (s.boardStored b rest).enabled c = false ∨
        Cause.applies .boardOvertemp ((s.boardStored b rest).seq.get c).state = false := by
      rw [← Bool.not_eq_true (Cause.applies _ _), boardOvertemp_applies, not_or]
      exact hother
    have hsame := raiseForEnabled_leaves hleft
    exact ⟨hsame.limit, hsame.box⟩

/-- Settles O58: the board reading by its figure, a cut-out change by what it finds, and a closing of the relay. -/
theorem boardAndCutoutTrip : Obligations.BoardAndCutoutTrip := by
  refine ⟨fun s b rest hmail => ?_, fun s c => ⟨fun henabled hcutout hrelay hheats => ?_,
    fun henabled hcutout hunfed => ?_, fun henabled hcutout => ?_, fun v h => exec_cutoutChange_of_none h⟩,
    fun s c hsent => ⟨fun hunfed => ?_, fun hcutout hrelay hheats => ?_⟩⟩
  · rw [exec_supervisorBoardReading hmail]
    by_cases hhot : 850 ≤ b
    · obtain ⟨hboard, hrest⟩ := raiseForEnabled_board (s.boardStored b rest) .boardOvertemp
      rw [if_pos hhot]
      exact ⟨_, rfl, hboard, hrest, fun hcool => absurd hhot (Int.not_le.mpr hcool),
        fun _ => boardReading_raises s b rest, by simp [State.boardStored]⟩
    · rw [if_neg hhot]
      exact ⟨_, rfl, rfl, rfl, fun _ => rfl, fun h => absurd h hhot, rfl⟩
  · obtain ⟨hraise, hraised⟩ := raiseCutout_of_feeds (s := s.cutoutRecorded c .opened) (c := c)
      (by rw [cutoutRecorded_limit]) hrelay hheats
    have hrecord := (raise_keepsReading (s.cutoutRecorded c .opened) c .cutout).record
    rw [cutoutRecorded_limit] at hrecord
    rw [exec_cutoutChange_of_change henabled hcutout (by simp), hraise]
    exact ⟨_, rfl, congrArg LimitRecord.cutout hrecord,
      causeRaised_of_active (by rw [cutoutRecorded_limit]) hraised, raise_raisesOnly _ c _⟩
  · have hunraised := raiseCutout_of_not (s := s.cutoutRecorded c .opened) (c := c) fun ⟨_, hrelay, hheats⟩ =>
      hunfed.elim (fun hopen => Bool.false_ne_true (hopen.symm.trans hrelay)) fun hcold => hcold hheats
    exact (exec_cutoutChange_of_change henabled hcutout (by simp)).trans (congrArg Host.Outcome.next hunraised)
  · have hunraised := raiseCutout_of_not (s := s.cutoutRecorded c .closed) (c := c) fun ⟨hopened, _⟩ => by
      simp [cutoutRecorded_limit] at hopened
    exact (exec_cutoutChange_of_change henabled hcutout (by simp)).trans (congrArg Host.Outcome.next hunraised)
  · have hunraised := raiseCutout_of_not (s := s.closingTaken c) (c := c) fun ⟨hopened, hrelay, hheats⟩ => by
      rcases hunfed with hclosed | hopen | hcold
      · exact absurd (hclosed.symm.trans hopened) (by simp)
      · exact Bool.false_ne_true (hopen.symm.trans hrelay)
      · exact hcold hheats
    exact (exec_supplyRelayClosed hsent).trans (congrArg Host.Outcome.next hunraised)
  · obtain ⟨hraise, hraised⟩ := raiseCutout_of_feeds (s := s.closingTaken c) hcutout hrelay hheats
    have hbox := (raise_keepsReading (s.closingTaken c) c .cutout).box
    rw [exec_supplyRelayClosed hsent, hraise]
    refine ⟨_, rfl, causeRaised_of_active rfl hraised, (congrArg Mailbox.relayClosings hbox).trans ?_,
      (setMail_raisesOnly s c _).trans (raise_raisesOnly _ c _)⟩
    rw [State.closingTaken, setMail_box]

end Sys2Proof.Machine
end

section
/-! PROOF. A cavity reading as the Supervisor takes it (R156 to R160): the causes that it raises in their order, on the
state with the reading stored. -/

namespace Sys2Proof.Machine

/-! ### The causes in their order -/

/-- The causes that a reading raises by itself: OVERTEMP, CATALYST_OVERTEMP and PROBE_FAULT, each on its condition
(R159). -/
def State.readingRaised (s : State) (c : Cavity) (tooHot hot faulty : Bool) : State :=
  ((s.raiseIf tooHot c .overtemp).raiseIf hot c .catalystOvertemp).raiseIf faulty c .probeFault

/-- With them CUTOUT, where the cut-out is OPEN and the relay still CLOSED (R159, R160). -/
def State.causesRaised (s : State) (c : Cavity) (tooHot hot faulty : Bool) : State :=
  (s.readingRaised c tooHot hot faulty).raiseIf ((s.readingRaised c tooHot hot faulty).cutoutFeeds c) c .cutout

theorem superviseReading_eq (s : State) (c : Cavity) (r : CavityReading) : s.superviseReading c r =
    (s.storeReading c r).causesRaised c (decide (((s.storeReading c r).limit.cavity.get c).overtempCount = 3))
      (decide (((s.storeReading c r).limit.cavity.get c).catalystCount = 3)) (decide (r.probe = .fault)) := rfl

section
variable {s : State} {c : Cavity} {tooHot hot faulty : Bool}

theorem causeRaised_of_causes {k : Cause}
    (h : CauseRaised s (s.readingRaised c tooHot hot faulty) c k) :
    CauseRaised s (s.causesRaised c tooHot hot faulty) c k :=
  causeRaised_raiseIf h _ _

/-- OVERTEMP comes first (R159). -/
theorem causesRaised_overtemp (htooHot : tooHot = true) (hpresent : (s.seq.get c).state ≠ .absent) :
    CauseRaised s (s.causesRaised c tooHot hot faulty) c .overtemp := by
  have hraised := raiseIf_raises (s := s) (k := .overtemp) htooHot (by simpa [Cause.applies] using hpresent)
  exact causeRaised_of_causes (causeRaised_raiseIf (causeRaised_raiseIf hraised hot _) faulty _)

/-- CATALYST_OVERTEMP joins the record, as its first cause where OVERTEMP is not due (R159). -/
theorem causesRaised_catalyst (hhot : hot = true) (hpresent : (s.seq.get c).state ≠ .absent) :
    (s.causesRaised c tooHot hot faulty).holdsCause c .catalystOvertemp ∧
      (tooHot = false → CauseRaised s (s.causesRaised c tooHot hot faulty) c .catalystOvertemp) := by
  have hraised := raiseIf_raises (s := s.raiseIf tooHot c .overtemp) (c := c) (k := .catalystOvertemp) hhot
    (by simpa [Cause.applies] using hpresent)
  have hlater : CauseRaised (s.raiseIf tooHot c .overtemp) (s.causesRaised c tooHot hot faulty) c .catalystOvertemp :=
    causeRaised_raiseIf (causeRaised_raiseIf hraised faulty _) _ _
  obtain ⟨hholds, _⟩ := id hlater
  refine ⟨hholds, fun htooHot => ?_⟩
  rwa [raiseIf_of_not (by simp [htooHot])] at hlater

/-- PROBE_FAULT joins the record of a cavity in LOCKING or RUNNING, as its first cause where neither limit is due (R157,
R159). -/
theorem causesRaised_probeFault (hfaulty : faulty = true)
    (hheats : (s.seq.get c).state = .locking ∨ (s.seq.get c).state = .running) :
    (s.causesRaised c tooHot hot faulty).holdsCause c .probeFault ∧
      (tooHot = false → hot = false → CauseRaised s (s.causesRaised c tooHot hot faulty) c .probeFault) := by
  have hraised := raiseIf_raises (s := (s.raiseIf tooHot c .overtemp).raiseIf hot c .catalystOvertemp) (c := c)
    (k := .probeFault) hfaulty ((probeFault_applies _).mpr (by simpa using hheats))
  have hlater : CauseRaised ((s.raiseIf tooHot c .overtemp).raiseIf hot c .catalystOvertemp)
      (s.causesRaised c tooHot hot faulty) c .probeFault := causeRaised_raiseIf hraised _ _
  obtain ⟨hholds, _⟩ := id hlater
  refine ⟨hholds, fun htooHot hhot => ?_⟩
  rwa [raiseIf_of_not (b := hot) (by simp [hhot]), raiseIf_of_not (by simp [htooHot])] at hlater

/-! ### Before the cut-out -/

/-- A reading that raises no cause by itself leaves the cavity as it was. -/
theorem readingRaised_of_none (htooHot : tooHot = false) (hhot : hot = false)
    (hfaulty : ¬ (faulty = true ∧ ((s.seq.get c).state = .locking ∨ (s.seq.get c).state = .running))) :
    s.readingRaised c tooHot hot faulty = s := by
  unfold State.readingRaised
  rw [raiseIf_of_not (b := tooHot) (by simp [htooHot]), raiseIf_of_not (b := hot) (by simp [hhot]),
    raiseIf_of_not (by rwa [probeFault_applies])]

theorem readingRaised_of_untripped (h : (s.readingRaised c tooHot hot faulty).tripped c = false) :
    s.readingRaised c tooHot hot faulty = s := by
  have hfaulty := raiseIf_of_untripped h
  unfold State.readingRaised at h ⊢
  rw [hfaulty] at h ⊢
  have hhot := raiseIf_of_untripped h
  rw [hhot] at h ⊢
  exact raiseIf_of_untripped h

theorem readingRaised_keepsReading (s : State) (c : Cavity) (tooHot hot faulty : Bool) :
    KeepsReading s (s.readingRaised c tooHot hot faulty) c :=
  ((raiseIf_keepsReading s tooHot c _).trans (raiseIf_keepsReading _ hot c _)).trans
    (raiseIf_keepsReading _ faulty c _)

theorem causesRaised_keepsReading (s : State) (c : Cavity) (tooHot hot faulty : Bool) :
    KeepsReading s (s.causesRaised c tooHot hot faulty) c :=
  (readingRaised_keepsReading s c tooHot hot faulty).trans (raiseIf_keepsReading _ _ c _)

theorem causesRaised_keepsOthers (s : State) (c : Cavity) (tooHot hot faulty : Bool) :
    KeepsOthers s (s.causesRaised c tooHot hot faulty) c :=
  (((raiseIf_keepsOthers s tooHot c _).trans (raiseIf_keepsOthers _ hot c _)).trans
    (raiseIf_keepsOthers _ faulty c _)).trans (raiseIf_keepsOthers _ _ c _)

theorem readingRaised_seq (s : State) (c : Cavity) (tooHot hot faulty : Bool) :
    (s.readingRaised c tooHot hot faulty).seq = s.seq := by
  simp [State.readingRaised]

/-- The cut-out feeds after the reading's own causes only where it did before them: a trip has opened the relay (R160,
R162). -/
theorem cutoutFeeds_of_readingRaised (h : (s.readingRaised c tooHot hot faulty).cutoutFeeds c = true) :
    s.cutoutFeeds c = true := by
  obtain ⟨hcutout, hrelay⟩ := (cutoutFeeds_iff _ c).mp h
  have hrecord := (readingRaised_keepsReading s c tooHot hot faulty).record
  refine (cutoutFeeds_iff s c).mpr ⟨(congrArg LimitRecord.cutout hrecord).symm.trans hcutout, ?_⟩
  by_contra hopen
  have hopened := raiseIf_relayOpen (b := faulty) (k := .probeFault) (raiseIf_relayOpen (b := hot)
    (k := .catalystOvertemp) (raiseIf_relayOpen (b := tooHot) (k := .overtemp) (Bool.eq_false_of_not_eq_true hopen)))
  exact Bool.false_ne_true (hopened.symm.trans hrelay)

/-! ### The cut-out -/

/-- An OPEN cut-out with the relay CLOSED trips a cavity in LOCKING or RUNNING, by CUTOUT where no other cause is due:
a cause raised before it has opened the relay (R159, R160, R162). -/
theorem causesRaised_cutout (hcutout : (s.limit.cavity.get c).cutout = .opened) (hrelay : s.relayClosed c = true)
    (hheats : (s.seq.get c).state = .locking ∨ (s.seq.get c).state = .running) :
    (s.causesRaised c tooHot hot faulty).tripped c = true ∧ (tooHot = false → hot = false → faulty = false →
      CauseRaised s (s.causesRaised c tooHot hot faulty) c .cutout) := by
  have hfirst (h : s.readingRaised c tooHot hot faulty = s) :
      CauseRaised s (s.causesRaised c tooHot hot faulty) c .cutout := by
    obtain ⟨hraise, hraised⟩ := raiseCutout_of_feeds hcutout hrelay hheats
    rwa [State.causesRaised, h, hraise]
  refine ⟨?_, fun htooHot hhot hfaulty => hfirst (readingRaised_of_none htooHot hhot (by simp [hfaulty]))⟩
  cases htripped : (s.readingRaised c tooHot hot faulty).tripped c with
  | true => exact raiseIf_tripped htripped
  | false =>
    obtain ⟨hholds, _⟩ := hfirst (readingRaised_of_untripped htripped)
    exact tripped_of_holdsCause hholds

/-! ### What a reading does not raise -/

/-- PROBE_FAULT in the record was there before, or the probe is in FAULT in LOCKING or RUNNING (R157, R159). -/
theorem probeFault_of_causes (h : (s.causesRaised c tooHot hot faulty).holdsCause c .probeFault) :
    s.holdsCause c .probeFault ∨
      (faulty = true ∧ ((s.seq.get c).state = .locking ∨ (s.seq.get c).state = .running)) := by
  have hbefore := (holdsCause_of_raiseIf h).resolve_right (by simp)
  rcases holdsCause_of_raiseIf hbefore with h' | ⟨_, hfaulty, happlies⟩
  · exact .inl ((holdsCause_of_raiseIf ((holdsCause_of_raiseIf h').resolve_right (by simp))).resolve_right (by simp))
  · exact .inr ⟨hfaulty, by simpa using (probeFault_applies _).mp happlies⟩

/-- CUTOUT in the record was there before, or the cut-out is OPEN with the relay CLOSED in LOCKING or RUNNING (R157,
R160). -/
theorem cutout_of_causes (h : (s.causesRaised c tooHot hot faulty).holdsCause c .cutout) : s.holdsCause c .cutout ∨
    ((s.limit.cavity.get c).cutout = .opened ∧ s.relayClosed c = true ∧
      ((s.seq.get c).state = .locking ∨ (s.seq.get c).state = .running)) := by
  rcases holdsCause_of_raiseIf h with h' | ⟨_, hfeeds, happlies⟩
  · have hhot := (holdsCause_of_raiseIf h').resolve_right (by simp)
    exact .inl ((holdsCause_of_raiseIf ((holdsCause_of_raiseIf hhot).resolve_right (by simp))).resolve_right (by simp))
  · obtain ⟨hcutout, hrelay⟩ := (cutoutFeeds_iff s c).mp (cutoutFeeds_of_readingRaised hfeeds)
    rw [readingRaised_seq] at happlies
    exact .inr ⟨hcutout, hrelay, (cutout_applies _).mp happlies⟩

/-- With no cause due nothing is raised. -/
theorem causesRaised_of_none (htooHot : tooHot = false) (hhot : hot = false)
    (hfaulty : ¬ (faulty = true ∧ ((s.seq.get c).state = .locking ∨ (s.seq.get c).state = .running)))
    (hcutout : ¬ ((s.limit.cavity.get c).cutout = .opened ∧ s.relayClosed c = true ∧
      ((s.seq.get c).state = .locking ∨ (s.seq.get c).state = .running))) :
    s.causesRaised c tooHot hot faulty = s := by
  rw [State.causesRaised, readingRaised_of_none htooHot hhot hfaulty, raiseCutout_of_not hcutout]

end

/-! ### The reading taken -/

/-- A cavity reading is taken out of the mail and stored with its limit counts (R158, R159). -/
def State.readingStored (s : State) (c : Cavity) (x : CavityReading) (rest : List CavityReading) : State :=
  (s.setMail c { s.box c with supervisorReadings := rest }).storeReading c x

section
variable (s : State) (c : Cavity) (x : CavityReading) (rest : List CavityReading)

theorem readingStored_limit : (s.readingStored c x rest).limit.cavity.get c =
    let l := s.limit.cavity.get c
    let p := s.profiles.get c
    { l with
      reading := some x.forLimit
      overtempCount := limitCount l.overtempCount x.probe x.probeT p.hardLimit
      catalystCount := limitCount l.catalystCount x.catalyst x.catalystT p.catalystLimit } := by
  simp [State.readingStored, State.storeReading]

theorem readingStored_box : (s.readingStored c x rest).box c = { s.box c with supervisorReadings := rest } :=
  setMail_box s c _

theorem readingStored_keepsOthers : KeepsOthers s (s.readingStored c x rest) c :=
  (setMail_keepsOthers s c _).trans (setLimit_keepsOthers _ c _)

variable {s c x rest}

theorem exec_supervisorCavityReading (h : (s.box c).supervisorReadings = x :: rest) :
    let l := s.limit.cavity.get c
    let p := s.profiles.get c
    exec (.supervisorCavityReading c) s = .next ((s.readingStored c x rest).causesRaised c
      (decide (limitCount l.overtempCount x.probe x.probeT p.hardLimit = 3))
      (decide (limitCount l.catalystCount x.catalyst x.catalystT p.catalystLimit = 3))
      (decide (x.probe = .fault))) := by
  have htaken : takeSupervisorReading c s =
      (s.setMail c { s.box c with supervisorReadings := rest }).superviseReading c x := by
    simp only [takeSupervisorReading, h]
  have hlimit := readingStored_limit s c x rest
  unfold State.readingStored at hlimit ⊢
  rw [superviseReading_eq, hlimit] at htaken
  exact congrArg Host.Outcome.next htaken

end

/-- Settles O57: the reading stored, and then the causes in their order on the state with it. -/
theorem supervisorReadingRaises : Obligations.SupervisorReadingRaises := by
  intro s c x rest hreading l p count tooHot hot heats
  have hcount (n : Nat) (st : ChannelState) (t : Option Int) (limit : Nat) :
      limitCount n st t limit = count n st t limit := by
    cases st <;> cases t <;> rfl
  have hlimit := readingStored_limit s c x rest
  have hactive : ((s.readingStored c x rest).limit.cavity.get c).active = l.active := by rw [hlimit]
  have hcutout : ((s.readingStored c x rest).limit.cavity.get c).cutout = l.cutout := by rw [hlimit]
  have hexec := exec_supervisorCavityReading hreading
  simp only [hcount] at hexec hlimit
  have hkeeps := causesRaised_keepsReading (s.readingStored c x rest) c (decide (tooHot = 3)) (decide (hot = 3))
    (decide (x.probe = .fault))
  have hrecord := hkeeps.record
  have hbox := hkeeps.box
  rw [hlimit] at hrecord
  rw [readingStored_box] at hbox
  refine ⟨_, hexec, congrArg LimitRecord.reading hrecord, congrArg LimitRecord.overtempCount hrecord,
    congrArg LimitRecord.catalystCount hrecord, congrArg Mailbox.supervisorReadings hbox, fun htooHot hpresent => ?_,
    fun hhot hpresent => ?_, fun hfault hheats => ?_, fun hopened hrelay hheats => ?_, fun hholds => ?_,
    fun hholds => ?_, fun htooHot hhot hfault hfed => ?_, (congrArg LimitRecord.cutout hrecord :),
    (congrArg LimitRecord.cleared hrecord :),
    (readingStored_keepsOthers s c x rest).trans (causesRaised_keepsOthers ..), ?_, ?_, ?_, ?_⟩
  · exact causeRaised_of_active hactive (causesRaised_overtemp (decide_eq_true htooHot) hpresent)
  · obtain ⟨hholds, hfirst⟩ := causesRaised_catalyst (s := s.readingStored c x rest) (c := c)
      (tooHot := decide (tooHot = 3)) (faulty := decide (x.probe = .fault)) (decide_eq_true hhot) hpresent
    exact ⟨hholds, fun htooHot => causeRaised_of_active hactive (hfirst (decide_eq_false htooHot))⟩
  · obtain ⟨hholds, hfirst⟩ := causesRaised_probeFault (s := s.readingStored c x rest) (c := c)
      (tooHot := decide (tooHot = 3)) (hot := decide (hot = 3)) (decide_eq_true hfault) hheats
    exact ⟨hholds, fun htooHot hhot =>
      causeRaised_of_active hactive (hfirst (decide_eq_false htooHot) (decide_eq_false hhot))⟩
  · obtain ⟨htripped, hfirst⟩ := causesRaised_cutout (s := s.readingStored c x rest) (c := c)
      (tooHot := decide (tooHot = 3)) (hot := decide (hot = 3)) (faulty := decide (x.probe = .fault))
      (hcutout.trans hopened) hrelay hheats
    exact ⟨htripped, fun htooHot hhot hfault => causeRaised_of_active hactive
      (hfirst (decide_eq_false htooHot) (decide_eq_false hhot) (decide_eq_false hfault))⟩
  · refine (probeFault_of_causes hholds).imp (fun h => ?_) fun ⟨hfault, hheats⟩ => ⟨of_decide_eq_true hfault, hheats⟩
    rwa [State.holdsCause, hactive] at h
  · refine (cutout_of_causes hholds).imp (fun h => ?_) fun ⟨hopened, hfed⟩ => ⟨hcutout.symm.trans hopened, hfed⟩
    rwa [State.holdsCause, hactive] at h
  · rw [causesRaised_of_none (s := s.readingStored c x rest) (decide_eq_false htooHot) (decide_eq_false hhot)
      (fun ⟨hf, hheats⟩ => hfault ⟨of_decide_eq_true hf, hheats⟩)
      (fun ⟨hopened, hrest⟩ => hfed ⟨hcutout.symm.trans hopened, hrest⟩)]
    exact ⟨hactive, rfl, rfl, rfl⟩
  all_goals simp [State.causesRaised, State.readingRaised, State.readingStored]

end Sys2Proof.Machine
end
